-- ==== Sys2Proof/Word.lean ====
section
/-! DEFINITION. The two word types of the PX24's buses: the 16-bit word of the host bus and the
memory port, and the byte of one lane (chapter "The part in its phone", Conventions). -/

namespace Sys2Proof

/-- A word of the host bus and of the memory port: 16 bits (Conventions). -/
abbrev Word := BitVec 16

/-- One byte lane. -/
abbrev Byte := BitVec 8

end Sys2Proof
end

