-- ==== Sys2Proof/Syntax.lean ====
section
/-! DEFINITION. The commands of the PX24: one constructor of `Instr` per row of the spec's table of
operations and events. The table gives the rows no operands; the operands below are the ones the
rule named in each row needs (log entry 1). -/

namespace Sys2Proof

/-- The two chute sensors of the escrow mechanism (R10). -/
inductive Chute where
  | vault
  | ret
deriving DecidableEq, Repr

/-- The six tamper inputs, in the order of their bits (R105, R188). -/
inductive TamperInput where
  | door
  | housing
  | vault
  | cord
  | shock
  | key
deriving DecidableEq, Repr

/-- How the host addresses memory: a whole word at an even address, or the byte at the address
presented (chapter 9.1). -/
inductive AccessSize where
  | word
  | byte
deriving DecidableEq, Repr

/-- The two ways an access acts on a special word: as a word, or as a byte of its low lane (R153). -/
inductive SpecialAccess where
  | word
  | lowByte
deriving DecidableEq, Repr

/-- The lanes a read uses: both, the low one or the high one (chapter 9.1). -/
inductive Lanes where
  | word
  | low
  | high
deriving DecidableEq, Repr

/-- The commands, in the order of the spec's table. -/
inductive Instr where
  /-- VALIDATOR_STROBE: the class code presented with the strobe (R2). -/
  | validatorStrobe (code : Nat)
  /-- REJECT_PULSE (R4). -/
  | rejectPulse
  /-- SLUG_LEAK_EXPIRY (R21). -/
  | slugLeakExpiry
  /-- SLUG_COOLOFF_EXPIRY (R21). -/
  | slugCooloffExpiry
  /-- FLAP_HOME (R10). -/
  | flapHome
  /-- CHUTE_PULSE: the sensor that pulsed (R10). -/
  | chutePulse (chute : Chute)
  /-- SETTLE_WINDOW_END (R10). -/
  | settleWindowEnd
  /-- FLAP_HOME_TIMEOUT (R13). -/
  | flapHomeTimeout
  /-- LEVER_RAW_CHANGE: the level the raw lever input changes to (R17). -/
  | leverRawChange (pressed : Bool)
  /-- RETURN_LEVER_PRESS (R17). -/
  | returnLeverPress
  /-- DIAL_POST: the host's write of MAILBOX word 14 (R27, R157). -/
  | dialPost (access : SpecialAccess) (value : Word)
  /-- PREFIX_MATCH_END (R31). -/
  | prefixMatchEnd
  /-- INTER_DIGIT_TIMEOUT (R32). -/
  | interDigitTimeout
  /-- ZONE_ENTRY_READ_END (R33). -/
  | zoneEntryReadEnd
  /-- SNAPSHOT_READ_END (R65). -/
  | snapshotReadEnd
  /-- DEPOSIT_WAIT_EXPIRY (R35). -/
  | depositWaitExpiry
  /-- TONE_ON_TIME_EXPIRY (R42). -/
  | toneOnTimeExpiry
  /-- TONE_OFF_TIME_EXPIRY (R42). -/
  | toneOffTimeExpiry
  /-- PULSE_BREAK_END (R43). -/
  | pulseBreakEnd
  /-- PULSE_MAKE_END (R43). -/
  | pulseMakeEnd
  /-- PULSE_PAUSE_END (R43). -/
  | pulsePauseEnd
  /-- PIP_DUE (R44). -/
  | pipDue
  /-- PIP_END (R44). -/
  | pipEnd
  /-- GUARD_EXPIRY (R46). -/
  | guardExpiry
  /-- TONE_PRESENT_CHANGE: what the detector now reads (R50). -/
  | tonePresentChange (present : Bool)
  /-- DIAL_TONE_FOUND (R50). -/
  | dialToneFound
  /-- DIAL_TONE_TIMEOUT (R50). -/
  | dialToneTimeout
  /-- POLARITY_CHANGE: whether the detector now reads REVERSED (R52). -/
  | polarityChange (reversed : Bool)
  /-- REVERSAL_ANSWER (R52). -/
  | reversalAnswer
  /-- METERING_PULSE (R55). -/
  | meteringPulse
  /-- TIMED_ANSWER_EXPIRY (R52). -/
  | timedAnswerExpiry
  /-- ANSWER_WAIT_EXPIRY (R54). -/
  | answerWaitExpiry
  /-- LOOP_CURRENT_CHANGE: what the detector now reads (R56). -/
  | loopCurrentChange (present : Bool)
  /-- CLEAR_TIMER_EXPIRY (R56). -/
  | clearTimerExpiry
  /-- POLARITY_RETURN_CLEAR (R56). -/
  | polarityReturnClear
  /-- HOOK_RAW_CHANGE: whether the raw input now reads on-hook (R59). -/
  | hookRawChange (onHook : Bool)
  /-- HOOK_DEBOUNCED_CHANGE (R59). -/
  | hookDebouncedChange
  /-- HOOK_FLASH_TIMER_EXPIRY (R59). -/
  | hookFlashTimerExpiry
  /-- LINE_PRESENT_CHANGE: what the input now reads (R62). -/
  | linePresentChange (present : Bool)
  /-- LINE_QUALIFY_EXPIRY (R62). -/
  | lineQualifyExpiry
  /-- UNIT_TIMER_EXPIRY (R76). -/
  | unitTimerExpiry
  /-- GRACE_TIMER_EXPIRY (R83). -/
  | graceTimerExpiry
  /-- CLOCK_SECOND (R67). -/
  | clockSecond
  /-- RECORD_PUBLISH (R98). -/
  | recordPublish
  /-- CONSUMER_INDEX_WRITE: the host's write of RECORDS word 1 (R99, R157). -/
  | consumerIndexWrite (access : SpecialAccess) (value : Word)
  /-- TAMPER_RAW_CHANGE: the input and the level it changes to, true for HIGH (R105). -/
  | tamperRawChange (input : TamperInput) (high : Bool)
  /-- TAMPER_EDGE: the input whose debounce ends (R105). -/
  | tamperEdge (input : TamperInput)
  /-- CORD_ONSET_EXPIRY (R109). -/
  | cordOnsetExpiry
  /-- RETRY_TIMER_EXPIRY (R126). -/
  | retryTimerExpiry
  /-- HOLD_TIMER_EXPIRY (R126). -/
  | holdTimerExpiry
  /-- GO_TONE_FOUND (R129). -/
  | goToneFound
  /-- GO_TIMER_EXPIRY (R129). -/
  | goTimerExpiry
  /-- ACK_TONE_FOUND (R132). -/
  | ackToneFound
  /-- ACK_TIMER_EXPIRY (R132). -/
  | ackTimerExpiry
  /-- WRITE_BACK_END (R146). -/
  | writeBackEnd
  /-- PART_WORD_TURN (R161). -/
  | partWordTurn
  /-- HOST_WRITE: the byte address presented, the size, and the value (R154). -/
  | hostWrite (addr : Nat) (size : AccessSize) (value : Word)
  /-- PROTECTED_WRITE: the byte address presented, the size, and the value (R155). -/
  | protectedWrite (addr : Nat) (size : AccessSize) (value : Word)
  /-- ALIAS_READ: the word offset in the ALIAS area and the lanes read (R160). -/
  | aliasRead (offset : Fin 256) (lanes : Lanes)
  /-- EVENT_CLEAR: the host's write of MAILBOX word 15 (R166). -/
  | eventClear (access : SpecialAccess) (value : Word)
  /-- TAKE_RESPONSE: the host's read of MAILBOX word 6 (R157). -/
  | takeResponse (access : SpecialAccess)
  /-- SET_MASK: argument word 1 (R172). -/
  | setMask (mask : Word)
  /-- SET_CLOCK: argument words 1 to 5 (R68, R172). -/
  | setClock (date weekday hour minute second : Word)
  /-- END_CALL (R173). -/
  | endCall
  /-- REPORT_NOW (R127). -/
  | reportNow
  /-- CLEAR_ALARM: argument word 1 (R119). -/
  | clearAlarm (kind : Word)
  /-- RELOAD_SETUP (R176). -/
  | reloadSetup
  /-- RELOAD_SETUP_READ_END (R183). -/
  | reloadSetupReadEnd
  /-- RESTART_SERVICE (R187). -/
  | restartService
  /-- UNKNOWN_COMMAND: the code posted (R170). -/
  | unknownCommand (code : Word)
  /-- COMMAND_RESPONSE_WRITTEN (R170). -/
  | commandResponseWritten
  /-- POWER_ON (R185). -/
  | powerOn
  /-- POWER_FAIL (R184). -/
  | powerFail
  /-- RESET_LINE_ASSERT (R184). -/
  | resetLineAssert
  /-- RESET_LINE: the release of the reset line (R185). -/
  | resetLine
  /-- SETUP_LOAD_END (R178). -/
  | setupLoadEnd
  /-- RING_HEADER_READ_END (R97). -/
  | ringHeaderReadEnd
  /-- RESTORE_READ_END (R149). -/
  | restoreReadEnd
  /-- HOOK_FIRST_LEVEL (R186). -/
  | hookFirstLevel
  /-- TAMPER_FIRST_LEVELS (R108). -/
  | tamperFirstLevels
  /-- FLAP_LEAVES_REST (R10). -/
  | flapLeavesRest
  /-- LEVER_RELEASE (R17). -/
  | leverRelease
  /-- LEVER_FIRST_LEVEL (R17). -/
  | leverFirstLevel
deriving DecidableEq, Repr

end Sys2Proof
end

