-- ==== Sys2Proof/Decode.lean ====
section
/-! DEFINITION. The command a word spells by the spec's table. The table of this block gives no row any
bits (every row's "fields" is empty), so no word spells a command: commands reach the part as events
and bus accesses, put into the queue by the sender. -/

namespace Sys2Proof

/-- The command whose bits, by the table, are `w`: none, because the table gives no row any bits. -/
def decodeTableWord (_nbits _w : Nat) : Option Instr := none

end Sys2Proof
end

