-- ==== Sys2Proof/Config.lean ====
section
/-! DEFINITION. What is fixed for every PX24 (area sizes, timer lengths, limits), each with the rule that
states it, and the free values: opaque constants with no body for the two values the spec leaves open
(log entries 4 and 5). -/

namespace Sys2Proof.Config

/-! ### Free values -/

/-- FREE VALUE (log entry 4). What a byte of flash reads as after a write cycle has reached the flash
device: "what the flash makes of it is a matter for the flash" (chapter 9.1). The arguments are the
model's count of flash write cycles, the byte address, the byte held before and the byte presented. -/
opaque flashByte : Nat → Nat → Byte → Byte → Byte

/-- FREE VALUE (log entry 5). What a 32-bit money total holds after an addition whose sum does not fit
32 bits: the spec states no result. The arguments are the total before and the amount added. -/
opaque moneyOverflow : Nat → Nat → BitVec 32

/-! ### The memory map and the areas (chapter "Host side", R152) -/

/-- The first byte address of flash. -/
def flashBase : Nat := 0x80000
/-- The byte after the last of memory. -/
def memoryTop : Nat := 0x100000
/-- The first byte of the setup block (R178). -/
def setupBase : Nat := 0xFFE00
/-- Words of the setup block (R178). -/
def setupWords : Nat := 256
def cashWords : Nat := 128
def liveWords : Nat := 64
def mailboxWords : Nat := 16
def tallyWords : Nat := 32
def aliasWords : Nat := 256
def recordsWords : Nat := 772
def tariffWords : Nat := 1024
/-- Slots of the record ring and words of a slot (R97, R98). -/
def ringSlots : Nat := 32
def slotWords : Nat := 24

/-! ### Limits -/

/-- Banked and total credit never pass this (R6, R18). -/
def creditLimit : Nat := 64999
/-- Items of the escrow (R7). -/
def escrowLimit : Nat := 8
/-- The escrow count at which coins are held off and collected (R2, R5). -/
def escrowNearFull : Nat := 7
/-- Symbols of the dial FIFO (R26). -/
def fifoLimit : Nat := 32
/-- Digits of a number (R28). -/
def numberLimit : Nat := 20
/-- Occurrences an alarm entry counts (R113). -/
def alarmCountLimit : Nat := 99

/-! ### Timers, in ms unless the name says otherwise -/

/-- R9. -/
def flapHomeMs : Nat := 1500
/-- R10. -/
def collectSettleMs : Nat := 500
/-- R10. -/
def refundSettleMs : Nat := 1000
/-- R21. -/
def slugLeakMs : Nat := 6000
/-- R43. -/
def pulseBreakMs : Nat := 60
/-- R43. -/
def pulseMakeMs : Nat := 40
/-- R43. -/
def pulsePauseMs : Nat := 700
/-- R44. -/
def pipMs : Nat := 200
/-- R44. -/
def pipPeriodMs : Nat := 2000
/-- R45. -/
def guardMs : Nat := 800
/-- R50. -/
def dialToneMs : Nat := 200
/-- R52, R56. -/
def polarityMs : Nat := 50
/-- R56. -/
def clearMs : Nat := 400
/-- R62. -/
def lineQualifyMs : Nat := 2000
/-- R48: the age at which a report request passes a PAID_FREE request. -/
def reportAgeMs : Nat := 30 * 60 * 1000
/-- R109. -/
def cordOnsetMs : Nat := 1000
/-- R110. -/
def shockWindowMs : Nat := 10000
/-- R129. -/
def goToneMs : Nat := 300
/-- R129. -/
def goTimerMs : Nat := 30000
/-- R132. -/
def ackToneMs : Nat := 500
/-- R132. -/
def ackTimerMs : Nat := 5000
/-- R126. -/
def retryMs : Nat := 120000
/-- R126. -/
def holdMs : Nat := 60 * 60 * 1000
/-- R133: the counted failures after which the report caller is HELD. -/
def attemptLimit : Nat := 3
/-- R67. -/
def secondMs : Nat := 1000

/-- The bound on the part turns that one command may bring about: enough for every run of part work the
model can hold (log entry 3). It bounds a recursion and stands for nothing in the part. -/
def turnFuel : Nat := 16384

end Sys2Proof.Config
end

