-- ==== Sys2Proof/Machine/Types.lean ====
section
/-! DEFINITION. The data of the PX24's fifteen blocks: the named sets and states of the spec, and one
structure for the state each block holds (chapter "Block diagram"). A timer is the moment on the 1 ms
timebase at which it expires, or none while it is stopped (log entry 2). -/

namespace Sys2Proof.Machine

/-- A timer: the moment of the 1 ms timebase at which it expires, none while it does not run. -/
abbrev Timer := Option Nat

/-- Memory: (byte address, byte) pairs in canonical form, what is not listed reads as
`unlistedByte` says. -/
abbrev Memory := List Host.Cell

/-- A set of the eight call status flags, one bit each (R85, R188). -/
abbrev RatingFlags := BitVec 8

/-- A set of the sixteen event flags, one bit each (R165, R188). -/
abbrev EventSet := BitVec 16

/-- A set of alarm kinds: bit (code - 1) for each of the codes 1 to 12 (R188). -/
abbrev KindSet := BitVec 12

/-! ### Named sets -/

/-- The event flags, in bit order (R165, R188). -/
inductive EventFlag where
  | hook
  | coinIn
  | coinReject
  | number
  | call
  | creditLow
  | dialLow
  | dialRefused
  | mailboxDone
  | mailboxRefused
  | record
  | indexRefused
  | alarm
  | report
  | service
  | cash
deriving DecidableEq, Repr

/-- The call status flags, in bit order (R85, R188). -/
inductive RatingFlag where
  | clampHigh
  | clampLow
  | fallbackRate
  | clockUnset
  | saturated
  | hookFlash
  | answerAssumed
  | graceCut
deriving DecidableEq, Repr

/-- The tallies the part raises, in the order of their words (R158). -/
inductive TallyName where
  | offHooks
  | numbersCompleted
  | paidSeized
  | paidAnswered
  | free
  | emergency
  | barred
  | noTariff
  | depositTimeouts
  | coinsAccepted
  | rejects
  | unknownClass
  | collects
  | refunds
  | jams
  | returnsUnconfirmed
  | graceEntries
  | creditCuts
  | seizeFailures
  | reportAttempts
  | reportsAcknowledged
  | hookFlashes
  | merges
  | writesRefused
deriving DecidableEq, Repr

/-- The seven areas, in the order of their bases in the setup block (R152). -/
inductive AreaKind where
  | cash
  | live
  | mailbox
  | tally
  | aliasWindow
  | records
  | tariff
deriving DecidableEq, Repr

/-- The requesters at the memory port arbiter (R161). -/
inductive Requester where
  | setupLoader
  | cashStore
  | recordWriter
  | numberAnalyser
  | ratingEngine
  | mailbox
  | tallyLogic
deriving DecidableEq, Repr

/-! ### Times -/

/-- A calendar time as records and mirrors hold it, with the clock's set mark at the moment it was taken
(R94, R188). -/
structure CalTime where
  month : Nat
  day : Nat
  hour : Nat
  minute : Nat
  second : Nat
  isSet : Bool
deriving DecidableEq, Repr

/-- The calendar clock (R67): the date and time, the set mark, and the moment at which the next second
begins. -/
structure Clock where
  month : Nat
  day : Nat
  weekday : Nat
  hour : Nat
  minute : Nat
  second : Nat
  isSet : Bool
  nextAt : Nat
deriving DecidableEq, Repr

/-! ### Settings (chapter 11.1) -/

inductive DialMode where
  | tone
  | pulse
deriving DecidableEq, Repr

inductive AnswerSource where
  | reversal
  | metering
  | timed
deriving DecidableEq, Repr

inductive RatingSource where
  | internal
  | metering
deriving DecidableEq, Repr

/-- One Bool for each tamper input: a level (true for HIGH) or a status (true for ACTIVE). -/
structure TamperLevels where
  door : Bool
  housing : Bool
  vault : Bool
  cord : Bool
  shock : Bool
  key : Bool
deriving DecidableEq, Repr

/-- The bases of the seven areas, host byte addresses (R152). -/
structure AreaBases where
  cash : Nat
  live : Nat
  mailbox : Nat
  tally : Nat
  aliasWindow : Nat
  records : Nat
  tariff : Nat
deriving DecidableEq, Repr

/-- The current settings: one value for each setting of the table of chapter 11.1. -/
structure Settings where
  bases : AreaBases
  /-- coin class values, class 1 first -/
  classValues : List Nat
  creditCap : Nat
  vaultCapacity : Nat
  vaultFillMargin : Nat
  slugThreshold : Nat
  /-- seconds -/
  slugCooloff : Nat
  /-- ms -/
  tamperDebounce : Nat
  /-- ms -/
  hookDebounce : Nat
  /-- true for HIGH -/
  activeLevels : TamperLevels
  /-- ms -/
  hookFlashLimit : Nat
  /-- seconds -/
  interDigitTimeout : Nat
  /-- seconds -/
  depositWait : Nat
  /-- seconds -/
  dialToneWait : Nat
  /-- seconds -/
  answerWaitLimit : Nat
  dialMode : DialMode
  /-- ms -/
  toneOn : Nat
  /-- ms -/
  toneOff : Nat
  answerSource : AnswerSource
  /-- seconds -/
  timedAnswerDelay : Nat
  ratingSource : RatingSource
  /-- seconds -/
  graceTime : Nat
  defaultZone : Nat
  /-- digits, first dialled first -/
  reportNumber : List Nat
  /-- eight digits -/
  phoneIdentity : List Nat
  /-- the kinds of class URGENT -/
  urgentKinds : KindSet
  /-- the kinds whose report is enabled -/
  reportEnables : KindSet
  trapMask : RatingFlags
  defaultMask : EventSet
  dialLowThreshold : Nat
deriving DecidableEq, Repr

/-- The kind of the last load (R178). -/
inductive LoadKind where
  | file
  | builtIn
deriving DecidableEq, Repr

/-- What a load of the setup block is made for (R178). -/
inductive LoadPurpose where
  | start
  | reload
deriving DecidableEq, Repr

/-- A load in progress: its purpose and the words read so far, first word first. -/
structure SetupLoad where
  purpose : LoadPurpose
  words : List Word
deriving DecidableEq, Repr

/-- The setup loader: the current settings, the kind of the last load, a load in progress (R178). -/
structure SetupState where
  settings : Settings
  lastLoad : LoadKind
  load : Option SetupLoad
deriving DecidableEq, Repr

/-! ### Power and the starts (chapter 11.4) -/

/-- The cause of the latest start (R184). -/
inductive StartCause where
  | powerOn
  | resetLine
  | restart
deriving DecidableEq, Repr

/-- How far a power-on or reset-line start has come: the reads of steps 1 to 3, the wait for the first
levels of R186, or ended. -/
inductive StartPhase where
  | setupLoad
  | headerRead
  | restoreRead
  | inputWait
  | ended
deriving DecidableEq, Repr

/-- Supply and reset line, the progress of the start, and the start cause word (R168, R184). -/
structure PowerState where
  supplyOn : Bool
  resetAsserted : Bool
  phase : StartPhase
  cause : StartCause
deriving DecidableEq, Repr

/-- The levels of the field inputs as the pins carry them, whether or not the part acts on them. -/
structure Pins where
  flapHome : Bool
  leverPressed : Bool
  onHook : Bool
  tonePresent : Bool
  reversed : Bool
  loopCurrent : Bool
  linePresent : Bool
  /-- true for HIGH -/
  tamper : TamperLevels
deriving DecidableEq, Repr

/-! ### Coin handler (chapter 1) -/

/-- An item of the escrow: the class of a coin and its value at arrival (R7). -/
structure Coin where
  cls : Nat
  value : Nat
deriving DecidableEq, Repr

inductive EscrowOp where
  | idle
  | collecting
  | refunding
  | jammed
deriving DecidableEq, Repr

inductive PendingRequest where
  | none
  | collect
  | refund
deriving DecidableEq, Repr

inductive Actuator where
  | released
  | collect
  | refund
deriving DecidableEq, Repr

/-- The reasons of the paid-service state (R23). -/
inductive ServiceReason where
  | setupInvalid
  | sessionOpen
  | vaultFull
  | escrowJammed
  | lineLost
deriving DecidableEq, Repr

/-- The set of paid-service reasons (R23). -/
structure ServiceReasons where
  setupInvalid : Bool
  sessionOpen : Bool
  vaultFull : Bool
  escrowJammed : Bool
  lineLost : Bool
deriving DecidableEq, Repr

/-- The coin handler: escrow stack oldest first, gate coin, banked credit, escrow operation with its item
count, chute count and timers, actuator, pending request, slug counter and its timers, fill-warned flag
and paid-service reasons (R5 to R23). -/
structure CoinState where
  escrow : List Coin
  gate : Option Coin
  banked : Nat
  op : EscrowOp
  opItems : Nat
  chuteCount : Nat
  actuator : Actuator
  flapTimer : Timer
  settleTimer : Timer
  request : PendingRequest
  slug : Nat
  leakTimer : Timer
  cooloffTimer : Timer
  fillWarned : Bool
  reasons : ServiceReasons
deriving DecidableEq, Repr

/-- A debounced input: its debounced level, absent until the first level is taken at a start, and its
debounce timer (R17, R59, R105). -/
structure Debounce where
  level : Option Bool
  timer : Timer
deriving DecidableEq, Repr

/-! ### Number analyser (chapter 2) -/

inductive NumberPhase where
  | empty
  | collecting
  | waitDeposit
  | waitLine
  | dialling
  | dialled
  | refused
deriving DecidableEq, Repr

inductive RefusalCause where
  | barred
  | noTariff
  | notDiallable
  | depositAboveCap
  | depositTimeout
  | serviceUnavailable
  | incomplete
  | noDialTone
deriving DecidableEq, Repr

inductive ZoneKind where
  | paid
  | free
  | emergency
  | barred
deriving DecidableEq, Repr

/-- A read run of the number analyser: a prefix match over the digits as they stood when it began (R31),
or the completion read of a zone's entry (R33). -/
inductive AnalyserJob where
  | prefixMatch (digits : List Nat)
  | zoneEntry (zone : Nat)
deriving DecidableEq, Repr

/-- A read run in hand: what it reads, the words read so far, and whether its result is to be discarded
(R31, R33, R39). -/
structure AnalyserRead where
  job : AnalyserJob
  words : List Word
  discarded : Bool
deriving DecidableEq, Repr

/-- The number analyser: the number record of R28, the dial FIFO oldest first, the inter-digit timer with
its kept expiry, the completion decision mark, the deposit-wait timer, the DIAL_LOW armed mark and the
read runs in hand. -/
structure NumberState where
  phase : NumberPhase
  cause : Option RefusalCause
  digits : List Nat
  matchEntry : Option Nat
  zone : Option Nat
  minLength : Option Nat
  maxLength : Option Nat
  kind : Option ZoneKind
  deposit : Option Nat
  emitted : Nat
  fifo : List Nat
  decided : Bool
  interDigitTimer : Timer
  keptExpiry : Bool
  depositTimer : Timer
  lowArmed : Bool
  reads : List AnalyserRead
deriving DecidableEq, Repr

/-! ### Symbol emitter (chapter 2.9) -/

/-- Who handed an item to the emitter and is told of its end (R37, R38, R128, R131). -/
inductive ItemUse where
  | numberSymbol
  | inCallSymbol
  | reportDigit
  | messageSymbol
deriving DecidableEq, Repr

/-- The current item of the emitter (R41 to R44). -/
inductive EmitterItem where
  | toneOn (code : Nat) (use : ItemUse)
  | toneOff (code : Nat) (use : ItemUse)
  | pulseBreak (digit : Nat) (left : Nat) (use : ItemUse)
  | pulseMake (digit : Nat) (left : Nat) (use : ItemUse)
  | pulsePause (digit : Nat) (use : ItemUse)
  | pip
deriving DecidableEq, Repr

/-- The symbol emitter: the current item (none in IDLE) with its pacing timer, the pips that have fallen
due and not begun, and the moment the next pip falls due (R41, R44). -/
structure EmitterState where
  item : Option EmitterItem
  timer : Timer
  pipsDue : Nat
  pipTimer : Timer
deriving DecidableEq, Repr

/-! ### Line controller (chapter 3) -/

inductive LinePhase where
  | idle
  | guarded
  | seizing
  | dialling
  | awaitAnswer
  | connected
deriving DecidableEq, Repr

inductive Owner where
  | customer
  | report
deriving DecidableEq, Repr

inductive RequestClass where
  | emergency
  | paidFree
deriving DecidableEq, Repr

inductive HookPhase where
  | offHook
  | onHook
  | cleared
deriving DecidableEq, Repr

inductive LineStatus where
  | present
  | lost
deriving DecidableEq, Repr

/-- The line record of R45, with the start of the present count of tone-present (R50, R129, R132), the
moment of the latest polarity change (R52), and the qualified line status with its timer (R62). -/
structure LineState where
  phase : LinePhase
  owner : Option Owner
  attempt : Option Nat
  guardTimer : Timer
  dialToneTimer : Timer
  answerWaitTimer : Timer
  timedAnswerTimer : Timer
  clearTimer : Timer
  toneFrom : Option Nat
  polarityAt : Nat
  customerRequest : Option RequestClass
  reportRequest : Option Nat
  seizeTime : Option CalTime
  answerTime : Option CalTime
  status : LineStatus
  qualifyTimer : Timer
deriving DecidableEq, Repr

/-- The hook switch: its debounce, the hook state and the flash timer (R59). -/
structure HookState where
  debounce : Debounce
  phase : HookPhase
  flashTimer : Timer
deriving DecidableEq, Repr

/-! ### Rating engine (chapter 4) -/

inductive Band where
  | peak
  | day
  | evening
  | night
deriving DecidableEq, Repr

inductive DayType where
  | weekday
  | saturday
  | sunday
deriving DecidableEq, Repr

/-- The terms of one band in a zone entry: unit length in tenths of a second, multiplier in 1/1024 and
signed additive (R66). -/
structure BandTerms where
  length : Nat
  multiplier : Nat
  additive : Int
deriving DecidableEq, Repr

/-- The tariff snapshot of a PAID number (R65, R66). -/
structure Snapshot where
  setupCharge : Nat
  baseCharge : Nat
  depositUnits : Nat
  peak : BandTerms
  day : BandTerms
  evening : BandTerms
  night : BandTerms
  /-- the 72 words of the band map -/
  bandMap : List Word
  /-- the 16 words of the holiday list -/
  holidays : List Word
deriving DecidableEq, Repr

inductive CallPhase where
  | beforeAnswer
  | answered
deriving DecidableEq, Repr

inductive PaymentState where
  | settled
  | collectWait
  | grace
deriving DecidableEq, Repr

/-- A rated unit: its band, effective unit charge and length in tenths of a second (R64). -/
structure RatedUnit where
  band : Band
  charge : Nat
  length : Nat
deriving DecidableEq, Repr

/-- What raised a pending charge: the answer under INTERNAL rating (R73), a unit expiry with the unit its
payment starts (R76), or METERING rating (R74, R77). -/
inductive ChargeOrigin where
  | answer
  | unitExpiry (next : RatedUnit)
  | metering
deriving DecidableEq, Repr

/-- A pending charge: its amount, the units it carries and what raised it (R64). -/
structure Charge where
  amount : Nat
  units : Nat
  origin : ChargeOrigin
deriving DecidableEq, Repr

/-- The unit timer of INTERNAL rating (R76): stopped, running to a moment, standing still with a remaining
time in ms, or waiting at 0 for the answer charge. -/
inductive UnitTimer where
  | stopped
  | running (expiry : Nat)
  | still (left : Nat)
  | atZero
deriving DecidableEq, Repr

/-- The rating context of R64; `lastPulse` is the band and charge of the latest charged metering pulse,
which the live overlay shows (R89). -/
structure RatingContext where
  kind : Option ZoneKind
  snapshot : Option Snapshot
  phase : CallPhase
  payment : PaymentState
  charge : Option Charge
  unit : Option RatedUnit
  lastPulse : Option RatedUnit
  unitTimer : UnitTimer
  graceTimer : Timer
  cutWaiting : Bool
  units : Nat
  total : Nat
  coins : Nat
  status : RatingFlags
deriving DecidableEq, Repr

/-- A snapshot read run: the zone entry it follows, the words of the band map and holiday list read so
far, and whether its result is to be discarded (R65). -/
structure SnapshotRead where
  entry : List Word
  words : List Word
  discarded : Bool
deriving DecidableEq, Repr

/-- The rating engine: the context of the number in hand and the snapshot reads in hand (R64, R65). -/
structure RatingState where
  context : Option RatingContext
  reads : List SnapshotRead
deriving DecidableEq, Repr

/-! ### Record writer (chapter 5) -/

inductive RecordKind where
  | paid
  | free
  | emergency
  | report
  | merged
deriving DecidableEq, Repr

/-- The end causes of customer calls and report attempts (R91). -/
inductive EndCause where
  | localClear
  | remoteClear
  | creditExhausted
  | hostEnd
  | noAnswer
  | noDialTone
  | lineLost
  | session
  | restart
  | powerLost
  | ok
  | noGo
  | noAck
  | preempted
deriving DecidableEq, Repr

/-- A record; none stands for an absent field (R94). The seize time is absent only in a POWER_LOST record of a
mirror whose time memory held as absent (R103, R188). -/
structure CallRecord where
  kind : RecordKind
  cause : EndCause
  zone : Option Nat
  number : Option (List Nat)
  seizeTime : Option CalTime
  answerTime : Option CalTime
  endTime : CalTime
  units : Option Nat
  charge : Nat
  coins : Option Nat
  flags : RatingFlags
  calls : Nat
  alarms : Option KindSet
deriving DecidableEq, Repr

/-- The record writer's memory work, done in the order it joined: a record in a slot and then its
producer word (R98), the held-record flag written 1 (R100), written 0 if no record is held at its turn
(R102), written 0 whatever it read (R97), or an empty header (R97, R102). -/
inductive RecordJob where
  | slot (index : Nat) (record : CallRecord)
  | flagSet
  | flagClear
  | flagZero
  | emptyHeader
deriving DecidableEq, Repr

/-- The record writer: the ring header copy of R97, its own base, the memory work queue with the words
already written of its first job, a header read in progress, a base that waits for the queue to empty,
whether a header at a new base is still to be written (R102), and the held record (R100). -/
structure RecordState where
  base : Nat
  producer : Nat
  consumer : Nat
  writeIndex : Nat
  flag : Bool
  held : Option CallRecord
  jobs : List RecordJob
  written : Nat
  headerRead : Option (List Word)
  newBase : Option Nat
  headerOwed : Bool
deriving DecidableEq, Repr

/-! ### Tamper monitor (chapters 6 and 8) -/

/-- A tamper input: its debounce and its status, true for ACTIVE (R105). -/
structure TamperSwitch where
  debounce : Debounce
  active : Bool
deriving DecidableEq, Repr

/-- The tamper monitor: the six inputs, whether the first statuses have been set, the cord onset timer and
raised mark (R109), the shock window oldest first (R110), the session state and the vault-out mark
(R137). -/
structure TamperState where
  door : TamperSwitch
  housing : TamperSwitch
  vault : TamperSwitch
  cord : TamperSwitch
  shock : TamperSwitch
  key : TamperSwitch
  firstSet : Bool
  cordTimer : Timer
  cordRaised : Bool
  shockWindow : List Nat
  sessionOpen : Bool
  vaultOut : Bool
deriving DecidableEq, Repr

/-! ### Alarm table and report queue (chapter 6) -/

/-- The alarm kinds, in the order of their codes 1 to 12 (R112). -/
inductive AlarmKind where
  | doorForced
  | housingOpen
  | vaultRemoved
  | cordCut
  | shock
  | returnBlocked
  | coinJam
  | slugAttack
  | lineLost
  | memoryWrite
  | ratingAnomaly
  | vaultFull
deriving DecidableEq, Repr

inductive AlarmPhase where
  | quiet
  | raised
  | reporting
  | reported
  | noted
deriving DecidableEq, Repr

/-- An alarm entry; condition-active follows its owner and is read from there (R113). -/
structure AlarmEntry where
  phase : AlarmPhase
  count : Nat
  carried : Nat
  firstTime : Option CalTime
  lastTime : Option CalTime
deriving DecidableEq, Repr

/-- The twelve entries, one field for each kind, and the report queue, oldest entry first (R112, R115). -/
structure AlarmState where
  doorForced : AlarmEntry
  housingOpen : AlarmEntry
  vaultRemoved : AlarmEntry
  cordCut : AlarmEntry
  shock : AlarmEntry
  returnBlocked : AlarmEntry
  coinJam : AlarmEntry
  slugAttack : AlarmEntry
  lineLost : AlarmEntry
  memoryWrite : AlarmEntry
  ratingAnomaly : AlarmEntry
  vaultFull : AlarmEntry
  queue : List AlarmKind
deriving DecidableEq, Repr

/-! ### Report caller (chapter 7) -/

inductive ReportPhase where
  | idle
  | waitLine
  | dialling
  | awaitGo
  | sending
  | awaitAck
  | retryWait
  | held
deriving DecidableEq, Repr

/-- The report caller (R124): `digitsHanded` counts the digits of the report number handed to the emitter,
`handed` the message symbols, and `carriedKinds` is the set the message carries (R130). -/
structure ReportState where
  phase : ReportPhase
  attempts : Nat
  runTime : Option Nat
  statusMark : Bool
  message : List Nat
  handed : Nat
  digitsHanded : Nat
  carriedKinds : KindSet
  goTimer : Timer
  ackTimer : Timer
  retryTimer : Timer
  holdTimer : Timer
  goTime : Option CalTime
deriving DecidableEq, Repr

/-! ### Cash store (chapter 8) -/

/-- The money totals since the last collection close, 32-bit each (R18, R144). -/
structure MoneyTotals where
  accepted : Nat
  collected : Nat
  jammed : Nat
  refunded : Nat
  unconfirmed : Nat
  revenue : Nat
  forfeited : Nat
deriving DecidableEq, Repr

/-- The open-call mirror while its open flag is set (R145); the zone is absent only as R150 restores it, and the
seize time only as a start reads it absent (R188). -/
structure OpenCall where
  kind : ZoneKind
  zone : Option Nat
  seizeTime : Option CalTime
  charge : Nat
  flags : RatingFlags
deriving DecidableEq, Repr

/-- The last-collection block (R143): whether it has been used, for the times of an unused one are written as 0
(R190), and its close time, absent besides only as a start reads it absent (R188). -/
structure LastCollection where
  used : Bool
  closeTime : Option CalTime
  totals : MoneyTotals
  vaultCoins : Nat
deriving DecidableEq, Repr

inductive WriteBackPhase where
  | idle
  | queued
  | writing
deriving DecidableEq, Repr

/-- The cash store: the items of the cash image it alone holds (the banked, escrow and alarm mirrors are
read from their owners, which hand over every change in the event that makes it: R19, R122), the write
sequence, and the write-back with its frozen write copy, base and progress (R144 to R147), and a restore
read in progress (R149). -/
structure CashState where
  totals : MoneyTotals
  acceptedCounts : List Nat
  vaultCoins : Nat
  vaultCounts : List Nat
  openCall : Option OpenCall
  summary : RatingFlags
  lastCollection : LastCollection
  closeOwed : Bool
  suspect : Bool
  sequence : Word
  phase : WriteBackPhase
  again : Bool
  copyWords : List Word
  copyBase : Nat
  written : Nat
  restore : Option (List Word)
deriving DecidableEq, Repr

/-! ### Memory path (chapter 9) -/

/-- An entry of the tally logic's pending list (R159). -/
structure PendingTally where
  tally : TallyName
  amount : Nat
deriving DecidableEq, Repr

/-- The arbiter's part queue and part-owed mark, the pending list of the tally logic, the host accesses
held in bus wait, oldest first, the word the last host read returned, and the model's own count of flash
write cycles, which the free value of flash contents is applied to (log entry 4). -/
structure PathState where
  partQueue : List Requester
  partOwed : Bool
  tallies : List PendingTally
  busWait : List Instr
  readData : Word
  flashCycles : Nat
deriving DecidableEq, Repr

/-! ### Status block and mailbox (chapter 10) -/

/-- The event flags and the event mask (R165, R167). -/
structure StatusState where
  flags : EventSet
  mask : EventSet
deriving DecidableEq, Repr

/-- The progress of the command in hand through R170: argument words still to be read, the clearing of
word 0, the wait for the reading of the setup block, and the response words still to be written. -/
inductive CommandStep where
  | readArguments
  | clearSlot
  | waitReload
  | respond (written : Nat)
deriving DecidableEq, Repr

/-- The command in hand: its code, the MAILBOX base when it was posted (R176), the argument words read so
far, its progress, and its result and data words once carried out (R169). -/
structure Command where
  code : Word
  base : Nat
  arguments : List Word
  step : CommandStep
  result : Word
  data : List Word
deriving DecidableEq, Repr

/-- The mailbox: none in FREE, the command in hand in TAKEN (R169). -/
structure MailboxState where
  command : Option Command
deriving DecidableEq, Repr

end Sys2Proof.Machine
end

