-- ==== Sys2Proof/Machine/Defaults.lean ====
section
/-! DEFINITION. The built-in default settings (chapter 11.1, R182) and the condition in which a power-on or
reset-line start puts each block (R185 and the rules it names). -/

namespace Sys2Proof.Machine

/-- The built-in default bases (chapter 11.1). -/
def defaultBases : AreaBases where
  cash := 0x7F000
  live := 0x7F100
  mailbox := 0x7F180
  tally := 0x7F200
  aliasWindow := 0x7F400
  records := 0x78000
  tariff := 0xFC000

/-- The built-in default active levels: HIGH each (chapter 11.1). -/
def defaultLevels : TamperLevels := ⟨true, true, true, true, true, true⟩

/-- The kinds of class URGENT in the built-in defaults: codes 01, 02, 03 and 10 (R112). -/
def defaultUrgent : KindSet := 0x207#12

/-- CLAMP_HIGH, FALLBACK_RATE and HOOK_FLASH (chapter 11.1). -/
def defaultTrapMask : RatingFlags := 0x25#8

/-- HOOK, NUMBER, CALL, CREDIT_LOW, MAILBOX_DONE, RECORD, ALARM, SERVICE and CASH (chapter 11.1). -/
def defaultEventMask : EventSet := 0xD539#16

/-- The built-in defaults of the table of chapter 11.1. -/
def builtInSettings : Settings where
  bases := defaultBases
  classValues := [10, 20, 50, 100, 200, 0, 0, 0]
  creditCap := 20000
  vaultCapacity := 1500
  vaultFillMargin := 100
  slugThreshold := 10
  slugCooloff := 120
  tamperDebounce := 20
  hookDebounce := 30
  activeLevels := defaultLevels
  hookFlashLimit := 500
  interDigitTimeout := 5
  depositWait := 60
  dialToneWait := 3
  answerWaitLimit := 180
  dialMode := .tone
  toneOn := 80
  toneOff := 80
  answerSource := .reversal
  timedAnswerDelay := 15
  ratingSource := .internal
  graceTime := 15
  defaultZone := 15
  reportNumber := [0]
  phoneIdentity := [0, 0, 0, 0, 0, 0, 0, 0]
  urgentKinds := defaultUrgent
  reportEnables := 0xFFF#12
  trapMask := defaultTrapMask
  defaultMask := defaultEventMask
  dialLowThreshold := 4

/-- The pins of a phone at rest: handset on, lever released, flap home, no tone, polarity NORMAL, loop
open, line present, vault in place and every other tamper switch at rest (log entry 7). -/
def pinsAtRest : Pins where
  flapHome := true
  leverPressed := false
  onHook := true
  tonePresent := false
  reversed := false
  loopCurrent := false
  linePresent := true
  tamper := ⟨false, false, true, false, false, false⟩

/-- No paid-service reason (R23). -/
def noReasons : ServiceReasons := ⟨false, false, false, false, false⟩

/-- R24. -/
def coinAtStart : CoinState where
  escrow := []
  gate := none
  banked := 0
  op := .idle
  opItems := 0
  chuteCount := 0
  actuator := .released
  flapTimer := none
  settleTimer := none
  request := .none
  slug := 0
  leakTimer := none
  cooloffTimer := none
  fillWarned := false
  reasons := noReasons

/-- No debounced level yet and no debounce running (R17, R59, R105). -/
def debounceAtStart : Debounce := ⟨none, none⟩

/-- The EMPTY number record, empty FIFO and stopped timers of R28; the armed mark clear (R40). -/
def numberAtStart : NumberState where
  phase := .empty
  cause := none
  digits := []
  matchEntry := none
  zone := none
  minLength := none
  maxLength := none
  kind := none
  deposit := none
  emitted := 0
  fifo := []
  decided := false
  interDigitTimer := none
  keptExpiry := false
  depositTimer := none
  lowArmed := false
  reads := []

/-- IDLE with the tone output off (R41). -/
def emitterAtStart : EmitterState := ⟨none, none, 0, none⟩

/-- R45, R62: GUARD from its full 800 ms, no owner, no requests, status PRESENT with its timer running if
line-present reads absent. -/
def lineAtStart (now : Nat) (pins : Pins) : LineState where
  phase := .guarded
  owner := none
  attempt := none
  guardTimer := some (now + Config.guardMs)
  dialToneTimer := none
  answerWaitTimer := none
  timedAnswerTimer := none
  clearTimer := none
  toneFrom := if pins.tonePresent then some now else none
  polarityAt := now
  customerRequest := none
  reportRequest := none
  seizeTime := none
  answerTime := none
  status := .present
  qualifyTimer := if pins.linePresent then none else some (now + Config.lineQualifyMs)

/-- Until the first debounced level the hook state counts as CLEARED (R185). -/
def hookAtStart : HookState := ⟨debounceAtStart, .cleared, none⟩

/-- R64: no context. -/
def ratingAtStart : RatingState := ⟨none, []⟩

/-- R97, R185: the header copy is not yet read, the held record is lost. -/
def recordsAtStart (base : Nat) : RecordState where
  base := base
  producer := 0
  consumer := 0
  writeIndex := 0
  flag := false
  held := none
  jobs := []
  written := 0
  headerRead := none
  newBase := none
  headerOwed := false

/-- A tamper input before its first status (R105). -/
def switchAtStart : TamperSwitch := ⟨debounceAtStart, false⟩

/-- R105, R109, R110, R137. -/
def tamperAtStart : TamperState where
  door := switchAtStart
  housing := switchAtStart
  vault := switchAtStart
  cord := switchAtStart
  shock := switchAtStart
  key := switchAtStart
  firstSet := false
  cordTimer := none
  cordRaised := false
  shockWindow := []
  sessionOpen := false
  vaultOut := false

/-- A QUIET alarm entry (R113). -/
def quietEntry : AlarmEntry := ⟨.quiet, 0, 0, none, none⟩

/-- Every entry QUIET and the report queue empty. -/
def alarmsAtStart : AlarmState where
  doorForced := quietEntry
  housingOpen := quietEntry
  vaultRemoved := quietEntry
  cordCut := quietEntry
  shock := quietEntry
  returnBlocked := quietEntry
  coinJam := quietEntry
  slugAttack := quietEntry
  lineLost := quietEntry
  memoryWrite := quietEntry
  ratingAnomaly := quietEntry
  vaultFull := quietEntry
  queue := []

/-- R124. -/
def reportAtStart : ReportState where
  phase := .idle
  attempts := 0
  runTime := none
  statusMark := false
  message := []
  handed := 0
  digitsHanded := 0
  carriedKinds := 0#12
  goTimer := none
  ackTimer := none
  retryTimer := none
  holdTimer := none
  goTime := none

/-- All money totals 0. -/
def zeroTotals : MoneyTotals := ⟨0, 0, 0, 0, 0, 0, 0⟩

/-- The eight class counts at 0. -/
def zeroCounts : List Nat := [0, 0, 0, 0, 0, 0, 0, 0]

/-- The cash image before the restore read has given it its contents, with no write-back (R146). -/
def cashAtStart : CashState where
  totals := zeroTotals
  acceptedCounts := zeroCounts
  vaultCoins := 0
  vaultCounts := zeroCounts
  openCall := none
  summary := 0#8
  lastCollection := ⟨false, none, zeroTotals, 0⟩
  closeOwed := false
  suspect := false
  sequence := 0#16
  phase := .idle
  again := false
  copyWords := []
  copyBase := 0
  written := 0
  restore := none

/-- The unset clock of R68: month 1, day 1, weekday 1, 00:00:00, counting from `now`. -/
def clockUnset (now : Nat) : Clock := ⟨1, 1, 1, 0, 0, 0, false, now + Config.secondMs⟩

end Sys2Proof.Machine
end

