-- ==== Sys2Proof/Machine/State.lean ====
section
/-! DEFINITION. The state of the PX24, one field for each block, with the queue of commands that wait; the
reasons for which a step may stop; the state right after a power-on; and one named update for each
field. -/

namespace Sys2Proof.Machine

/-- The whole state of the part, the memory behind its port, and the commands that wait. -/
structure State where
  /-- the 1 ms timebase, in ms -/
  now : Nat
  mem : Memory
  pins : Pins
  power : PowerState
  clock : Clock
  setup : SetupState
  coin : CoinState
  lever : Debounce
  number : NumberState
  emitter : EmitterState
  line : LineState
  hook : HookState
  rating : RatingState
  records : RecordState
  tamper : TamperState
  alarms : AlarmState
  report : ReportState
  cash : CashState
  path : PathState
  status : StatusState
  mailbox : MailboxState
  /-- commands waiting, first in first out -/
  pending : List Instr
deriving DecidableEq, Repr

/-- Why a step stops with a fault. -/
inductive Fault where
  /-- Raised by HOST_WRITE and PROTECTED_WRITE for an address at or above 0x100000, which the 20-bit host
  bus cannot present and behind which no memory lies. Safe: the machine stops. -/
  | addressOutsideMemory (addr : Nat)
deriving DecidableEq, Repr

/-- Why a step is refused. -/
inductive Refusal where
  /-- Raised by `exec` alone, for a command that has no meaning yet. No arm uses it. Safe. -/
  | notModelled (mnemonic : String)
  /-- Raised by HOST_WRITE and PROTECTED_WRITE for a word access at an odd address: a word access presents
  an even address (chapter 9.1) and the spec describes no other. Safe. -/
  | oddWordAccess (addr : Nat)
deriving DecidableEq, Repr

/-- The part right after a power-on (R184, R185): every block in its start condition, the setup load of
step 1 waiting for its first part turn, memory with nothing listed, no command waiting. What the reads of the start
are yet to give, the kind of the last load among it, holds values of the model's choice: DESIGN CHOICE, log entry 8. -/
def State.reset : State where
  now := 0
  mem := []
  pins := pinsAtRest
  power := ⟨true, false, .setupLoad, .powerOn⟩
  clock := clockUnset 0
  setup := ⟨builtInSettings, .builtIn, some ⟨.start, []⟩⟩
  coin := coinAtStart
  lever := debounceAtStart
  number := numberAtStart
  emitter := emitterAtStart
  line := lineAtStart 0 pinsAtRest
  hook := hookAtStart
  rating := ratingAtStart
  records := recordsAtStart builtInSettings.bases.records
  tamper := tamperAtStart
  alarms := alarmsAtStart
  report := reportAtStart
  cash := cashAtStart
  path := ⟨[.setupLoader], false, [], [], 0#16, 0⟩
  status := ⟨0#16, 0#16⟩
  mailbox := ⟨none⟩
  pending := []

/-! ### Named updates, one for each field -/

def State.updNow (s : State) (f : Nat → Nat) : State := { s with now := f s.now }
def State.updMem (s : State) (f : Memory → Memory) : State := { s with mem := f s.mem }
def State.updPins (s : State) (f : Pins → Pins) : State := { s with pins := f s.pins }
def State.updPower (s : State) (f : PowerState → PowerState) : State := { s with power := f s.power }
def State.updClock (s : State) (f : Clock → Clock) : State := { s with clock := f s.clock }
def State.updSetup (s : State) (f : SetupState → SetupState) : State := { s with setup := f s.setup }
def State.updCoin (s : State) (f : CoinState → CoinState) : State := { s with coin := f s.coin }
def State.updLever (s : State) (f : Debounce → Debounce) : State := { s with lever := f s.lever }
def State.updNumber (s : State) (f : NumberState → NumberState) : State := { s with number := f s.number }
def State.updEmitter (s : State) (f : EmitterState → EmitterState) : State := { s with emitter := f s.emitter }
def State.updLine (s : State) (f : LineState → LineState) : State := { s with line := f s.line }
def State.updHook (s : State) (f : HookState → HookState) : State := { s with hook := f s.hook }
def State.updRating (s : State) (f : RatingState → RatingState) : State := { s with rating := f s.rating }
def State.updRecords (s : State) (f : RecordState → RecordState) : State := { s with records := f s.records }
def State.updTamper (s : State) (f : TamperState → TamperState) : State := { s with tamper := f s.tamper }
def State.updAlarms (s : State) (f : AlarmState → AlarmState) : State := { s with alarms := f s.alarms }
def State.updReport (s : State) (f : ReportState → ReportState) : State := { s with report := f s.report }
def State.updCash (s : State) (f : CashState → CashState) : State := { s with cash := f s.cash }
def State.updPath (s : State) (f : PathState → PathState) : State := { s with path := f s.path }
def State.updStatus (s : State) (f : StatusState → StatusState) : State := { s with status := f s.status }
def State.updMailbox (s : State) (f : MailboxState → MailboxState) : State := { s with mailbox := f s.mailbox }
def State.updPending (s : State) (f : List Instr → List Instr) : State := { s with pending := f s.pending }

end Sys2Proof.Machine
end

