-- ==== Sys2Proof/Machine/Operands.lean ====
section
/-! DEFINITION. The encodings of the words the host and the part share (R188): bytes and words, packed
nibbles, 32-bit amounts, calendar times, absent fields, decimal and BCD digits, and the codes of the
named sets. -/

namespace Sys2Proof.Machine

/-! ### Bytes, words and bit fields -/

/-- A number as a word: an unsigned 16-bit amount or count (R188). -/
def wordOf (n : Nat) : Word := BitVec.ofNat 16 n

/-- A Bool as the number of its bit. -/
def bitNat (b : Bool) : Nat := if b then 1 else 0

/-- The low byte of a word: bits 7-0 (chapter 12). -/
def lowByte (w : Word) : Byte := BitVec.ofNat 8 w.toNat

/-- The high byte of a word: bits 15-8 (chapter 12). -/
def highByte (w : Word) : Byte := BitVec.ofNat 8 (w.toNat / 256)

/-- A word from its high and low bytes. -/
def joinBytes (high low : Byte) : Word := BitVec.ofNat 16 (high.toNat * 256 + low.toNat)

/-- The field of `width` bits of a word whose lowest bit is bit `low`. -/
def field (w : Word) (low width : Nat) : Nat := w.toNat / 2 ^ low % 2 ^ width

/-- The word at an offset of a list of words read from memory. -/
def wordAt (ws : List Word) (k : Nat) : Word := ws.getD k 0#16

/-- The number held by the word at an offset. -/
def natAt (ws : List Word) (k : Nat) : Nat := (wordAt ws k).toNat

/-- The 32-bit amount at an offset: low word first (R188). -/
def natAt32 (ws : List Word) (k : Nat) : Nat := natAt ws k + 65536 * natAt ws (k + 1)

/-- A signed 16-bit word (R66). -/
def intAt (ws : List Word) (k : Nat) : Int := (wordAt ws k).toInt

/-- A 32-bit amount as two words, low word first (R188). -/
def words32 (n : Nat) : List Word := [wordOf (n % 65536), wordOf (n / 65536)]

/-! ### Absent fields -/

/-- A word-wide field: 0xFFFF when absent (R188). -/
def optWord (v : Option Nat) : Word :=
  match v with
  | some n => wordOf n
  | none => 0xFFFF#16

/-- A byte-wide field: 0xFF when absent (R188). -/
def optByte (v : Option Nat) : Nat :=
  match v with
  | some n => n
  | none => 0xFF

/-- A word of two byte-wide fields. -/
def bytesWord (high low : Nat) : Word := wordOf (high % 256 * 256 + low % 256)

/-! ### Packed nibbles -/

/-- Four 4-bit codes in a word, the first in bits 3-0 (R188). -/
def nibbleWord (a b c d : Nat) : Word := wordOf (a % 16 + 16 * (b % 16) + 256 * (c % 16) + 4096 * (d % 16))

/-- `count` words of packed codes; positions beyond the list read `filler`. -/
def packNibbles (filler : Nat) : Nat → List Nat → List Word
  | 0, _ => []
  | count + 1, codes =>
    nibbleWord (codes.getD 0 filler) (codes.getD 1 filler) (codes.getD 2 filler) (codes.getD 3 filler)
      :: packNibbles filler count (codes.drop 4)

/-- The four codes of a word, the code in bits 3-0 first. -/
def nibblesOf (w : Word) : List Nat := [field w 0 4, field w 4 4, field w 8 4, field w 12 4]

/-- The packed codes of `count` words from an offset. -/
def nibblesAt (ws : List Word) (k : Nat) : Nat → List Nat
  | 0 => []
  | count + 1 => nibblesOf (wordAt ws k) ++ nibblesAt ws (k + 1) count

/-! ### Times -/

/-- The two words of a calendar time, T0 then T1 (R188). -/
def timeWords (t : CalTime) : List Word :=
  [wordOf (t.month % 16 * 4096 + t.day % 32 * 128 + t.hour % 32 * 4 + bitNat t.isSet),
   wordOf (t.minute % 64 * 64 + t.second % 64)]

/-- The two words of a time that may be absent: 0xFFFF in both (R188). -/
def optTimeWords (t : Option CalTime) : List Word :=
  match t with
  | some t => timeWords t
  | none => [0xFFFF#16, 0xFFFF#16]

/-- The calendar time in the two words at an offset; bits outside the fields are ignored (R188). -/
def timeAt (ws : List Word) (k : Nat) : CalTime :=
  let t0 := wordAt ws k
  let t1 := wordAt ws (k + 1)
  { month := field t0 12 4, day := field t0 7 5, hour := field t0 2 5, minute := field t1 6 6,
    second := field t1 0 6, isSet := t0.getLsbD 0 }

/-- The time at an offset, absent when both words read 0xFFFF (R188). A first word of 0xFFFF beside a second of
another value is taken as a time like any other: DESIGN CHOICE, log entry 35. -/
def optTimeAt (ws : List Word) (k : Nat) : Option CalTime :=
  if wordAt ws k = 0xFFFF#16 && wordAt ws (k + 1) = 0xFFFF#16 then none else some (timeAt ws k)

/-- Times are compared by month, then day, hour, minute and second (R101). -/
def CalTime.stamp (t : CalTime) : Nat :=
  (((t.month * 32 + t.day) * 32 + t.hour) * 64 + t.minute) * 64 + t.second

/-- The earlier of two times (R101). Of two that compare equal the first stands, with its clock set mark: DESIGN
CHOICE, log entry 33. -/
def CalTime.earlier (a b : CalTime) : CalTime := if b.stamp < a.stamp then b else a

/-- The later of two times (R101). Of two that compare equal the first stands: DESIGN CHOICE, log entry 33. -/
def CalTime.later (a b : CalTime) : CalTime := if a.stamp < b.stamp then b else a

/-- The earlier of two times that may be absent; beside an absent one the present one stands: DESIGN CHOICE, log
entry 33. -/
def earlierTime (a b : Option CalTime) : Option CalTime :=
  match a, b with
  | some x, some y => some (x.earlier y)
  | some x, none => some x
  | none, b => b

/-! ### Decimal digits -/

/-- The last `width` decimal digits of a number, most significant first, with leading zeros (R130). -/
def decimalDigits : Nat → Nat → List Nat
  | 0, _ => []
  | width + 1, n => decimalDigits width (n / 10) ++ [n % 10]

/-- Four BCD digits: thousands in the highest nibble; 0x9999 above 9999 (R88). -/
def bcdWord (n : Nat) : Word :=
  let v := min n 9999
  wordOf (v / 1000 * 4096 + v / 100 % 10 * 256 + v / 10 % 10 * 16 + v % 10)

/-! ### Saturation -/

/-- A 16-bit count stops at 65535 (Terms, R158). -/
def saturate16 (n : Nat) : Nat := min n 65535

/-! ### Codes of the named sets (chapter 12.1) -/

def EventFlag.bit : EventFlag → Nat
  | .hook => 0
  | .coinIn => 1
  | .coinReject => 2
  | .number => 3
  | .call => 4
  | .creditLow => 5
  | .dialLow => 6
  | .dialRefused => 7
  | .mailboxDone => 8
  | .mailboxRefused => 9
  | .record => 10
  | .indexRefused => 11
  | .alarm => 12
  | .report => 13
  | .service => 14
  | .cash => 15

def RatingFlag.bit : RatingFlag → Nat
  | .clampHigh => 0
  | .clampLow => 1
  | .fallbackRate => 2
  | .clockUnset => 3
  | .saturated => 4
  | .hookFlash => 5
  | .answerAssumed => 6
  | .graceCut => 7

/-- The set that holds one call status flag. -/
def RatingFlag.only (f : RatingFlag) : RatingFlags := BitVec.ofNat 8 (2 ^ f.bit)

/-- Number of a tally's word in the TALLY area (R158). -/
def TallyName.index : TallyName → Nat
  | .offHooks => 0
  | .numbersCompleted => 1
  | .paidSeized => 2
  | .paidAnswered => 3
  | .free => 4
  | .emergency => 5
  | .barred => 6
  | .noTariff => 7
  | .depositTimeouts => 8
  | .coinsAccepted => 9
  | .rejects => 10
  | .unknownClass => 11
  | .collects => 12
  | .refunds => 13
  | .jams => 14
  | .returnsUnconfirmed => 15
  | .graceEntries => 16
  | .creditCuts => 17
  | .seizeFailures => 18
  | .reportAttempts => 19
  | .reportsAcknowledged => 20
  | .hookFlashes => 21
  | .merges => 22
  | .writesRefused => 23

/-- The codes 1 to 12 of the alarm kinds (R112). -/
def AlarmKind.code : AlarmKind → Nat
  | .doorForced => 1
  | .housingOpen => 2
  | .vaultRemoved => 3
  | .cordCut => 4
  | .shock => 5
  | .returnBlocked => 6
  | .coinJam => 7
  | .slugAttack => 8
  | .lineLost => 9
  | .memoryWrite => 10
  | .ratingAnomaly => 11
  | .vaultFull => 12

/-- The kind of a code, none outside 1 to 12 (R112). -/
def AlarmKind.ofCode : Nat → Option AlarmKind
  | 1 => some .doorForced
  | 2 => some .housingOpen
  | 3 => some .vaultRemoved
  | 4 => some .cordCut
  | 5 => some .shock
  | 6 => some .returnBlocked
  | 7 => some .coinJam
  | 8 => some .slugAttack
  | 9 => some .lineLost
  | 10 => some .memoryWrite
  | 11 => some .ratingAnomaly
  | 12 => some .vaultFull
  | _ => none

/-- The twelve kinds in order of code. -/
def AlarmKind.all : List AlarmKind :=
  [.doorForced, .housingOpen, .vaultRemoved, .cordCut, .shock, .returnBlocked, .coinJam, .slugAttack,
   .lineLost, .memoryWrite, .ratingAnomaly, .vaultFull]

/-- Membership in a set of alarm kinds: bit (code - 1) (R188). -/
def AlarmKind.isIn (k : AlarmKind) (set : KindSet) : Bool := set.getLsbD (k.code - 1)

/-- The set of the kinds of a list (R188). -/
def kindSetOf (ks : List AlarmKind) : KindSet :=
  ks.foldl (fun set k => set ||| BitVec.ofNat 12 (2 ^ (k.code - 1))) 0#12

def AlarmPhase.code : AlarmPhase → Nat
  | .quiet => 0
  | .raised => 1
  | .reporting => 2
  | .reported => 3
  | .noted => 4

/-- A state value that is not one of the five is taken as QUIET (R122). -/
def AlarmPhase.ofCode : Nat → AlarmPhase
  | 1 => .raised
  | 2 => .reporting
  | 3 => .reported
  | 4 => .noted
  | _ => .quiet

def RecordKind.code : RecordKind → Nat
  | .paid => 1
  | .free => 2
  | .emergency => 3
  | .report => 4
  | .merged => 5

def EndCause.code : EndCause → Nat
  | .localClear => 1
  | .remoteClear => 2
  | .creditExhausted => 3
  | .hostEnd => 4
  | .noAnswer => 5
  | .noDialTone => 6
  | .lineLost => 7
  | .session => 8
  | .restart => 9
  | .powerLost => 10
  | .ok => 11
  | .noGo => 12
  | .noAck => 13
  | .preempted => 14

def EscrowOp.code : EscrowOp → Nat
  | .idle => 0
  | .collecting => 1
  | .refunding => 2
  | .jammed => 3

def PendingRequest.code : PendingRequest → Nat
  | .none => 0
  | .collect => 1
  | .refund => 2

def HookPhase.code : HookPhase → Nat
  | .offHook => 0
  | .onHook => 1
  | .cleared => 2

def LineStatus.code : LineStatus → Nat
  | .present => 0
  | .lost => 1

def LinePhase.code : LinePhase → Nat
  | .idle => 0
  | .guarded => 1
  | .seizing => 2
  | .dialling => 3
  | .awaitAnswer => 4
  | .connected => 5

def Owner.code : Owner → Nat
  | .customer => 1
  | .report => 2

def NumberPhase.code : NumberPhase → Nat
  | .empty => 0
  | .collecting => 1
  | .waitDeposit => 2
  | .waitLine => 3
  | .dialling => 4
  | .dialled => 5
  | .refused => 6

def RefusalCause.code : RefusalCause → Nat
  | .barred => 1
  | .noTariff => 2
  | .notDiallable => 3
  | .depositAboveCap => 4
  | .depositTimeout => 5
  | .serviceUnavailable => 6
  | .incomplete => 7
  | .noDialTone => 8

def ReportPhase.code : ReportPhase → Nat
  | .idle => 0
  | .waitLine => 1
  | .dialling => 2
  | .awaitGo => 3
  | .sending => 4
  | .awaitAck => 5
  | .retryWait => 6
  | .held => 7

def Band.code : Band → Nat
  | .peak => 0
  | .day => 1
  | .evening => 2
  | .night => 3

def StartCause.code : StartCause → Nat
  | .powerOn => 1
  | .resetLine => 2
  | .restart => 3

/-- The kind code of a zone entry: 1 PAID, 2 FREE, 3 EMERGENCY, 4 BARRED (chapter 12.2). -/
def ZoneKind.code : ZoneKind → Nat
  | .paid => 1
  | .free => 2
  | .emergency => 3
  | .barred => 4

/-- The zone kind of a kind word: none for 0 (absent) and for values above 4 (R33). -/
def ZoneKind.ofCode : Nat → Option ZoneKind
  | 1 => some .paid
  | 2 => some .free
  | 3 => some .emergency
  | 4 => some .barred
  | _ => none

/-- The bits of a set of tamper levels or statuses, DOOR in bit 0 (R188). -/
def TamperLevels.toNat (t : TamperLevels) : Nat :=
  bitNat t.door + 2 * bitNat t.housing + 4 * bitNat t.vault + 8 * bitNat t.cord + 16 * bitNat t.shock
    + 32 * bitNat t.key

/-- The level or status of one input. -/
def TamperLevels.get (t : TamperLevels) : TamperInput → Bool
  | .door => t.door
  | .housing => t.housing
  | .vault => t.vault
  | .cord => t.cord
  | .shock => t.shock
  | .key => t.key

/-- The levels with that of one input replaced. -/
def TamperLevels.set (t : TamperLevels) (i : TamperInput) (v : Bool) : TamperLevels :=
  match i with
  | .door => { t with door := v }
  | .housing => { t with housing := v }
  | .vault => { t with vault := v }
  | .cord => { t with cord := v }
  | .shock => { t with shock := v }
  | .key => { t with key := v }

/-- The bits of the set of paid-service reasons, SETUP_INVALID in bit 0 (R188). -/
def ServiceReasons.toNat (r : ServiceReasons) : Nat :=
  bitNat r.setupInvalid + 2 * bitNat r.sessionOpen + 4 * bitNat r.vaultFull + 8 * bitNat r.escrowJammed
    + 16 * bitNat r.lineLost

end Sys2Proof.Machine
end

