-- ==== Sys2Proof/Machine/Flags.lean ====
section
/-! DEFINITION. Event flags, mask and the NATT output (R165, R167), membership in the call status field
(R85), and the set of paid-service reasons (R23) with the accept-inhibit reasons derived from the state
that owns each condition (R5). -/

namespace Sys2Proof.Machine

/-! ### Event flags -/

/-- Whether a flag stands in a set of event flags. -/
def EventFlag.isIn (f : EventFlag) (set : EventSet) : Bool := set.getLsbD f.bit

/-- The set that holds one event flag. -/
def EventFlag.only (f : EventFlag) : EventSet := BitVec.ofNat 16 (2 ^ f.bit)

/-- Sets an event flag; a flag already set stays set (R165). -/
def State.raise (s : State) (f : EventFlag) : State :=
  s.updStatus fun st => { st with flags := st.flags ||| f.only }

/-- Clears an event flag. -/
def State.lower (s : State) (f : EventFlag) : State :=
  s.updStatus fun st => { st with flags := st.flags &&& ~~~ f.only }

/-- Clears each flag whose bit is 1 in the value, except DIAL_LOW (R157, R166). -/
def State.clearFlags (s : State) (value : Word) : State :=
  s.updStatus fun st => { st with flags := st.flags &&& ~~~ (value &&& ~~~ EventFlag.dialLow.only) }

/-- Whether the part is held: the supply is off or the reset line asserted (R184). -/
def State.isHeld (s : State) : Bool := !s.power.supplyOn || s.power.resetAsserted

/-- The masked flags: set and in the mask (R167). -/
def State.maskedFlags (s : State) : EventSet := s.status.flags &&& s.status.mask

/-- NATT is asserted while a flag is both set and in the mask, and released while the part is held
(R167, R184). -/
def State.nattAsserted (s : State) : Bool := !s.isHeld && s.maskedFlags != 0#16

/-! ### Call status flags -/

/-- Whether a flag stands in a call status field. -/
def RatingFlag.isIn (f : RatingFlag) (set : RatingFlags) : Bool := set.getLsbD f.bit

/-! ### Paid service -/

/-- Whether a reason stands in the set. -/
def ServiceReasons.has (r : ServiceReasons) : ServiceReason → Bool
  | .setupInvalid => r.setupInvalid
  | .sessionOpen => r.sessionOpen
  | .vaultFull => r.vaultFull
  | .escrowJammed => r.escrowJammed
  | .lineLost => r.lineLost

/-- The set with one reason present or absent. -/
def ServiceReasons.put (r : ServiceReasons) (reason : ServiceReason) (v : Bool) : ServiceReasons :=
  match reason with
  | .setupInvalid => { r with setupInvalid := v }
  | .sessionOpen => { r with sessionOpen := v }
  | .vaultFull => { r with vaultFull := v }
  | .escrowJammed => { r with escrowJammed := v }
  | .lineLost => { r with lineLost := v }

/-- Paid service is UNAVAILABLE while the set holds at least one reason (R23). -/
def ServiceReasons.unavailable (r : ServiceReasons) : Bool :=
  r.setupInvalid || r.sessionOpen || r.vaultFull || r.escrowJammed || r.lineLost

/-! ### The purse and the accept-inhibit reasons -/

/-- The value of a list of escrow items (R7). -/
def coinsValue (cs : List Coin) : Nat := (cs.map Coin.value).sum

/-- The value of the gate coin, 0 while the gate is empty (R7). -/
def gateValue (g : Option Coin) : Nat :=
  match g with
  | some c => c.value
  | none => 0

/-- The escrow value: the items and the gate coin (R7). -/
def CoinState.escrowValue (c : CoinState) : Nat := coinsValue c.escrow + gateValue c.gate

/-- Total credit: banked credit plus escrow credit (R18). -/
def CoinState.totalCredit (c : CoinState) : Nat := c.banked + c.escrowValue

/-- Whether an escrow operation is in flight: COLLECTING or REFUNDING (R9). -/
def CoinState.inFlight (c : CoinState) : Bool := c.op == .collecting || c.op == .refunding

/-- The six accept-inhibit reasons, each as the condition R5 names for it. -/
structure InhibitReasons where
  onHook : Bool
  escrowBusy : Bool
  escrowNearFull : Bool
  creditCap : Bool
  slugCooloff : Bool
  service : Bool
deriving DecidableEq, Repr

/-- The set of inhibit reasons as the conditions of R5 stand (log entry 10). -/
def State.inhibitReasons (s : State) : InhibitReasons where
  onHook := s.hook.phase != .offHook
  escrowBusy := s.coin.inFlight
  escrowNearFull := decide (Config.escrowNearFull ≤ s.coin.escrow.length)
  creditCap := decide (s.setup.settings.creditCap ≤ s.coin.totalCredit)
  slugCooloff := s.coin.cooloffTimer.isSome
  service := s.coin.reasons.unavailable

/-- The bits of the inhibit reasons, ON_HOOK in bit 0 (R188). -/
def InhibitReasons.toNat (r : InhibitReasons) : Nat :=
  bitNat r.onHook + 2 * bitNat r.escrowBusy + 4 * bitNat r.escrowNearFull + 8 * bitNat r.creditCap
    + 16 * bitNat r.slugCooloff + 32 * bitNat r.service

/-- The accept-inhibit output: asserted while at least one reason holds, and while the part is held
(R5, R184). -/
def State.acceptInhibit (s : State) : Bool := s.isHeld || s.inhibitReasons.toNat != 0

end Sys2Proof.Machine
end

