-- ==== Sys2Proof/Machine/Memory.lean ====
section
/-! DEFINITION. The memory behind the port: 1 MiB of bytes, words little-endian, kept as a list of
(address, byte) pairs in one canonical form (chapter "Host side", Conventions). -/

namespace Sys2Proof.Machine

/-- What an address that memory does not list reads as: 0x00 in SRAM, 0xFF in erased flash (log
entry 6). -/
def unlistedByte (addr : Nat) : Byte := if addr < Config.flashBase then 0x00#8 else 0xFF#8

/-- The byte at an address. -/
def readByte : Memory → Nat → Byte
  | [], addr => unlistedByte addr
  | (a, b) :: rest, addr => if a = addr then b else readByte rest addr

/-- Writes a byte, keeping the addresses rising and listing nothing that reads as unlisted. -/
def writeByte : Memory → Nat → Byte → Memory
  | [], addr, b => if b = unlistedByte addr then [] else [(addr, b)]
  | (a, old) :: rest, addr, b =>
    if addr < a then
      if b = unlistedByte addr then (a, old) :: rest else (addr, b) :: (a, old) :: rest
    else if addr = a then
      if b = unlistedByte addr then rest else (addr, b) :: rest
    else (a, old) :: writeByte rest addr b

/-- Every address of the list lies above `low`, addresses rise strictly, and no entry equals what an
unlisted address reads as. -/
def wellFormedAbove : Nat → Memory → Bool
  | _, [] => true
  | low, (a, b) :: rest => decide (low ≤ a) && b != unlistedByte a && wellFormedAbove (a + 1) rest

/-- The canonical form of memory. -/
def Memory.wf (m : Memory) : Bool := wellFormedAbove 0 m

/-- The word at an even byte address: the low byte at the even address (Conventions). -/
def readWord (m : Memory) (addr : Nat) : Word := joinBytes (readByte m (addr + 1)) (readByte m addr)

/-- Writes both bytes of the word at an even byte address. -/
def writeWord (m : Memory) (addr : Nat) (w : Word) : Memory :=
  writeByte (writeByte m addr (lowByte w)) (addr + 1) (highByte w)

/-- The byte address of word `k` of an area (Conventions). -/
def wordAddr (base k : Nat) : Nat := base + 2 * k

end Sys2Proof.Machine
end

