-- ==== Sys2Proof/Machine/Ops.lean ====
section
/-! DEFINITION. The operations that every block uses: the timebase and its timers, the calendar clock, the
part queue and the tallies, the change of the cash image, writes at the memory port, 32-bit money, and
access to the alarm entries. -/

namespace Sys2Proof.Machine

/-! ### When events act -/

/-- Whether the start has come past its reads: steps 4 to 8 have been taken (R164, R185). -/
def State.restored (s : State) : Bool := s.power.phase == .inputWait || s.power.phase == .ended

/-- Whether host accesses are held in bus wait: while the part is held, and during the reads of a start
(R164, R184). -/
def State.holdsHost (s : State) : Bool := s.isHeld || !s.restored

/-- An event of a field input or a timer: not acted on while the part is held (R184). -/
def State.whenLive (s : State) (f : State → State) : State := if s.isHeld then s else f s

/-! ### Timebase (log entry 2) -/

/-- A moment has been reached: the timebase stands at it or later. -/
def State.reach (s : State) (moment : Nat) : State := s.updNow fun n => max n moment

/-- A running timer expires: the timebase has reached its moment, and the effect follows. A timer that
does not run has no expiry. -/
def State.onExpiry (s : State) (t : Timer) (f : State → State) : State :=
  match t with
  | some moment => f (s.reach moment)
  | none => s

/-- The moment `ms` after the present one. -/
def State.later (s : State) (ms : Nat) : Timer := some (s.now + ms)

/-! ### Calendar clock (R67) -/

/-- The calendar time as the clock stands. -/
def State.calendar (s : State) : CalTime where
  month := s.clock.month
  day := s.clock.day
  hour := s.clock.hour
  minute := s.clock.minute
  second := s.clock.second
  isSet := s.clock.isSet

/-- The length of a month; month 2 has 28 days (R67). -/
def monthLength : Nat → Nat
  | 2 => 28
  | 4 => 30
  | 6 => 30
  | 9 => 30
  | 11 => 30
  | _ => 31

/-- The date a day after: the day is at or above the length of its month, or day + 1; the weekday advances
with it (R67). -/
def Clock.nextDay (c : Clock) : Clock :=
  let weekday := if c.weekday = 7 then 1 else c.weekday + 1
  if monthLength c.month ≤ c.day then
    { c with day := 1, month := if c.month = 12 then 1 else c.month + 1, weekday := weekday }
  else { c with day := c.day + 1, weekday := weekday }

/-- The clock a second on (R67). -/
def Clock.nextSecond (c : Clock) : Clock :=
  if c.second < 59 then { c with second := c.second + 1 }
  else if c.minute < 59 then { c with second := 0, minute := c.minute + 1 }
  else if c.hour < 23 then { c with second := 0, minute := 0, hour := c.hour + 1 }
  else Clock.nextDay { c with second := 0, minute := 0, hour := 0 }

/-! ### Part queue and tallies -/

/-- A requester with a word ready joins the part queue at the newest end unless it is in it (R161). Requesters that
one event readies join in the order in which the model's text hands over their work: DESIGN CHOICE, log entry
37. -/
def State.join (s : State) (r : Requester) : State :=
  s.updPath fun p => if r ∈ p.partQueue then p else { p with partQueue := p.partQueue ++ [r] }

/-- Adds 1 to the pending amount of a tally, saturating, or appends an entry for it (R159). -/
def addTally : List PendingTally → TallyName → List PendingTally
  | [], t => [⟨t, 1⟩]
  | e :: rest, t => if e.tally = t then ⟨t, saturate16 (e.amount + 1)⟩ :: rest else e :: addTally rest t

/-- An increment of a tally is handed to the tally logic (R158, R159). -/
def State.tally (s : State) (t : TallyName) : State :=
  (s.updPath fun p => { p with tallies := addTally p.tallies t }).join .tallyLogic

/-! ### Cash image -/

/-- The write-back state after a change of the image (R146). -/
def CashState.changed (c : CashState) : CashState :=
  match c.phase with
  | .idle => { c with phase := .queued }
  | .queued => c
  | .writing => { c with again := true }

/-- A change of the cash image queues a write-back (R146); before the restore read has ended the
write-back state stays IDLE. -/
def State.cashChanged (s : State) : State :=
  if s.restored then (s.updCash CashState.changed).join .cashStore else s

/-! ### Writes at the memory port -/

/-- What a byte written at an address leaves in memory: the byte itself in SRAM; in flash what the flash
makes of the write cycle, a free value (log entry 4). -/
def storedByte (s : State) (addr : Nat) (b : Byte) : Byte :=
  if addr < Config.flashBase then b else Config.flashByte s.path.flashCycles addr (readByte s.mem addr) b

/-- One byte of a write turn. -/
def State.putByte (s : State) (addr : Nat) (b : Byte) : State :=
  s.updMem fun m => writeByte m addr (storedByte s addr b)

/-- A write cycle that reaches the flash is counted by the model (log entry 4). -/
def State.countFlash (s : State) (addr : Nat) : State :=
  if addr < Config.flashBase then s else s.updPath fun p => { p with flashCycles := p.flashCycles + 1 }

/-- A byte write at the memory port. -/
def State.storeByte (s : State) (addr : Nat) (b : Byte) : State := (s.putByte addr b).countFlash addr

/-- A word write at the memory port, at an even address. -/
def State.storeWord (s : State) (addr : Nat) (w : Word) : State :=
  ((s.putByte addr (lowByte w)).putByte (addr + 1) (highByte w)).countFlash addr

/-! ### Money -/

/-- A 32-bit money total after an addition; a sum that does not fit 32 bits leaves a free value (log
entry 5). -/
def addMoney (total amount : Nat) : Nat :=
  if total + amount < 2 ^ 32 then total + amount else (Config.moneyOverflow total amount).toNat

/-- Adds to the saturating 16-bit count of a class, 1 to 8 (R144). -/
def addClassCount (counts : List Nat) (cls amount : Nat) : List Nat :=
  counts.modify (cls - 1) fun n => saturate16 (n + amount)

/-! ### Alarm entries -/

/-- The entry of a kind (R112). -/
def AlarmState.get (a : AlarmState) : AlarmKind → AlarmEntry
  | .doorForced => a.doorForced
  | .housingOpen => a.housingOpen
  | .vaultRemoved => a.vaultRemoved
  | .cordCut => a.cordCut
  | .shock => a.shock
  | .returnBlocked => a.returnBlocked
  | .coinJam => a.coinJam
  | .slugAttack => a.slugAttack
  | .lineLost => a.lineLost
  | .memoryWrite => a.memoryWrite
  | .ratingAnomaly => a.ratingAnomaly
  | .vaultFull => a.vaultFull

/-- The table with the entry of a kind replaced. -/
def AlarmState.put (a : AlarmState) (k : AlarmKind) (e : AlarmEntry) : AlarmState :=
  match k with
  | .doorForced => { a with doorForced := e }
  | .housingOpen => { a with housingOpen := e }
  | .vaultRemoved => { a with vaultRemoved := e }
  | .cordCut => { a with cordCut := e }
  | .shock => { a with shock := e }
  | .returnBlocked => { a with returnBlocked := e }
  | .coinJam => { a with coinJam := e }
  | .slugAttack => { a with slugAttack := e }
  | .lineLost => { a with lineLost := e }
  | .memoryWrite => { a with memoryWrite := e }
  | .ratingAnomaly => { a with ratingAnomaly := e }
  | .vaultFull => { a with vaultFull := e }

/-- The report queue with another list of kinds. -/
def AlarmState.requeue (a : AlarmState) (q : List AlarmKind) : AlarmState := { a with queue := q }

/-! ### The tamper switches -/

/-- The switch of an input. -/
def TamperState.get (t : TamperState) : TamperInput → TamperSwitch
  | .door => t.door
  | .housing => t.housing
  | .vault => t.vault
  | .cord => t.cord
  | .shock => t.shock
  | .key => t.key

/-- The tamper state with the switch of an input replaced. -/
def TamperState.put (t : TamperState) (i : TamperInput) (w : TamperSwitch) : TamperState :=
  match i with
  | .door => { t with door := w }
  | .housing => { t with housing := w }
  | .vault => { t with vault := w }
  | .cord => { t with cord := w }
  | .shock => { t with shock := w }
  | .key => { t with key := w }

/-- The six inputs in bit order. -/
def tamperInputs : List TamperInput := [.door, .housing, .vault, .cord, .shock, .key]

end Sys2Proof.Machine
end

