-- ==== Sys2Proof/Machine/Images.lean ====
section
/-! DEFINITION. The words of a call record (chapter 12.3, R189) and of the cash image (chapter 12.4, R190),
and the reading of the cash area back into the items of the image (R122, R149, R150, R190). -/

namespace Sys2Proof.Machine

/-! ### Records -/

/-- The word of a set of alarm kinds, 0xFFFF when absent (R188, R189). -/
def optKindWord (set : Option KindSet) : Word := optWord (set.map BitVec.toNat)

/-- The 24 words of a record (chapter 12.3, R189). -/
def recordWords (r : CallRecord) : List Word :=
  [bytesWord r.cause.code r.kind.code, optWord r.zone, optWord (r.number.map List.length)]
    ++ packNibbles 0xF 5 (r.number.getD [])
    ++ optTimeWords r.seizeTime ++ optTimeWords r.answerTime ++ timeWords r.endTime
    ++ [optWord r.units, wordOf r.charge, optWord r.coins, wordOf r.flags.toNat, wordOf r.calls,
        optKindWord r.alarms, 0#16, 0#16, 0#16, 0#16]

/-! ### The cash image -/

/-- The 14 words of a block of totals (chapter 12.4). -/
def totalsWords (t : MoneyTotals) : List Word :=
  words32 t.accepted ++ words32 t.collected ++ words32 t.jammed ++ words32 t.refunded
    ++ words32 t.unconfirmed ++ words32 t.revenue ++ words32 t.forfeited

/-- The eight words of the counts of the classes. -/
def countWords (counts : List Nat) : List Word := (List.range 8).map fun k => wordOf (counts.getD k 0)

/-- Words 37 to 41: the open-call mirror, all 0 while the open flag is clear (R190). -/
def openCallWords (c : Option OpenCall) : List Word :=
  match c with
  | some o =>
    wordOf (0x8000 + o.kind.code * 4096 + optByte o.zone % 256) :: optTimeWords o.seizeTime
      ++ [wordOf o.charge, wordOf o.flags.toNat]
  | none => [0#16, 0#16, 0#16, 0#16, 0#16]

/-- The five words of an alarm entry; the times of a QUIET entry are 0 (R190). -/
def alarmEntryWords (e : AlarmEntry) : List Word :=
  bytesWord e.carried e.count ::
    match e.phase with
    | .quiet => [0#16, 0#16, 0#16, 0#16]
    | _ => optTimeWords e.firstTime ++ optTimeWords e.lastTime

/-- Words 42 to 107: the alarm mirror (chapter 12.4). -/
def alarmWords (a : AlarmState) : List Word :=
  AlarmKind.all.flatMap (fun k => alarmEntryWords (a.get k))
    ++ packNibbles 0 3 (AlarmKind.all.map fun k => (a.get k).phase.code)
    ++ packNibbles 0 3 (a.queue.map AlarmKind.code)

/-- The two words of the close time of the last-collection block, 0 while it is unused (R188, R190). -/
def closeTimeWords (l : LastCollection) : List Word :=
  if l.used then optTimeWords l.closeTime else [0#16, 0#16]

/-- The gate byte: the class of the gate coin, 0 with none (chapter 12.4). -/
def gateClass (g : Option Coin) : Nat :=
  match g with
  | some c => c.cls
  | none => 0

/-- The field words of the cash image, words 1 to 126 (chapter 12.4, R190). -/
def cashFields (s : State) : List Word :=
  totalsWords s.cash.totals ++ countWords s.cash.acceptedCounts ++ [wordOf s.cash.vaultCoins]
    ++ countWords s.cash.vaultCounts ++ words32 s.coin.banked
    ++ packNibbles 0 2 (s.coin.escrow.map Coin.cls)
    ++ [bytesWord (gateClass s.coin.gate) s.coin.escrow.length]
    ++ openCallWords s.cash.openCall ++ alarmWords s.alarms ++ [wordOf s.cash.summary.toNat]
    ++ closeTimeWords s.cash.lastCollection ++ totalsWords s.cash.lastCollection.totals
    ++ [wordOf s.cash.lastCollection.vaultCoins,
        wordOf (bitNat s.cash.closeOwed + 2 * bitNat s.cash.suspect)]

/-- The sum of words mod 65536 (R147, R179). -/
def sumWords (ws : List Word) : Word := wordOf (ws.map BitVec.toNat).sum

/-- A word of the cash image: the even sequence, a field word, or the check word (R148). -/
def cashImageWord (s : State) (k : Nat) : Word :=
  if k = 0 then s.cash.sequence
  else if k = 127 then sumWords (cashFields s)
  else wordAt (cashFields s) (k - 1)

/-! ### Reading the cash area back; `ws` holds its 128 words -/

/-- The seven totals from an offset. -/
def totalsAt (ws : List Word) (k : Nat) : MoneyTotals where
  accepted := natAt32 ws k
  collected := natAt32 ws (k + 2)
  jammed := natAt32 ws (k + 4)
  refunded := natAt32 ws (k + 6)
  unconfirmed := natAt32 ws (k + 8)
  revenue := natAt32 ws (k + 10)
  forfeited := natAt32 ws (k + 12)

/-- The eight counts from an offset. -/
def countsAt (ws : List Word) (k : Nat) : List Nat := (List.range 8).map fun c => natAt ws (k + c)

/-- A class the part's coins can have (R2). -/
def isClass (c : Nat) : Bool := decide (1 ≤ c) && decide (c ≤ 8)

/-- The number of escrow items in the mirror: the low byte of word 36 (R190). -/
def mirroredCount (ws : List Word) : Nat := (lowByte (wordAt ws 36)).toNat

/-- The classes of the mirrored items before any is removed: at most 8 (R150, R190). -/
def mirroredClasses (ws : List Word) : List Nat := (nibblesAt ws 34 2).take (min (mirroredCount ws) 8)

/-- The gate byte of the mirror: the high byte of word 36. -/
def mirroredGate (ws : List Word) : Nat := (highByte (wordAt ws 36)).toNat

/-- The value of a class in a table of class values, 0 outside 1 to 8 (R1). -/
def classValue (values : List Nat) (cls : Nat) : Nat := if isClass cls then values.getD (cls - 1) 0 else 0

/-- The escrow as the start restores it, oldest first, with values of the loaded settings (R1, R150,
R190). -/
def restoredEscrow (values : List Nat) (ws : List Word) : List Coin :=
  ((mirroredClasses ws).filter isClass).map fun c => ⟨c, classValue values c⟩

/-- The gate coin as the start restores it (R190). -/
def restoredGate (values : List Nat) (ws : List Word) : Option Coin :=
  if isClass (mirroredGate ws) then some ⟨mirroredGate ws, classValue values (mirroredGate ws)⟩ else none

/-- Banked credit as the start restores it: at most 64999, and at most 64999 less the value of the restored
coins (R150). -/
def restoredBanked (values : List Nat) (ws : List Word) : Nat :=
  min (natAt32 ws 32)
    (Config.creditLimit - (coinsValue (restoredEscrow values ws) + gateValue (restoredGate values ws)))

/-- Whether the open flag of the open-call mirror is set. -/
def mirroredOpen (ws : List Word) : Bool := (wordAt ws 37).getLsbD 15

/-- The kind code and the zone byte of the open-call mirror. -/
def mirroredKind (ws : List Word) : Nat := field (wordAt ws 37) 12 2
def mirroredZone (ws : List Word) : Nat := field (wordAt ws 37) 0 8

/-- The kind taken for an open-call mirror: PAID when the code names no kind of a call (R150). -/
def openKind : Nat → ZoneKind
  | 2 => .free
  | 3 => .emergency
  | _ => .paid

/-- The open-call mirror as the start restores it (R150). -/
def restoredOpenCall (ws : List Word) : Option OpenCall :=
  if mirroredOpen ws then
    some { kind := openKind (mirroredKind ws)
           zone := if mirroredZone ws ≤ 15 then some (mirroredZone ws) else none
           seizeTime := optTimeAt ws 38
           charge := natAt ws 40
           flags := BitVec.ofNat 8 (natAt ws 41) }
  else none

/-- Whether a value read lies outside the limits of R150, so that cash-suspect and CASH are set. -/
def outsideLimits (values : List Nat) (ws : List Word) : Bool :=
  decide (natAt32 ws 32 ≠ restoredBanked values ws)
    || decide (8 < mirroredCount ws)
    || (mirroredClasses ws).any (fun c => !isClass c)
    || decide (8 < mirroredGate ws)
    || (mirroredOpen ws && (decide (mirroredKind ws = 0) || decide (15 < mirroredZone ws)))
    || decide (highByte (wordAt ws 108) ≠ 0#8)

/-- The restore read passes its check: the sequence is even and the check word equals the sum of the field
words mod 65536 (R149). -/
def restoreChecks (ws : List Word) : Bool :=
  !(wordAt ws 0).getLsbD 0 && wordAt ws 127 == sumWords ((ws.drop 1).take 126)

/-- The sequence the image takes: as read if even, plus 1 if odd (R149). -/
def restoredSequence (ws : List Word) : Word :=
  if (wordAt ws 0).getLsbD 0 then wordAt ws 0 + 1#16 else wordAt ws 0

/-- The last-collection block as the start restores it: unused when the words of its time read as an unused
block has them, 0 (R188, R190). -/
def restoredLastCollection (ws : List Word) : LastCollection where
  used := !(wordAt ws 109 = 0#16 && wordAt ws 110 = 0#16)
  closeTime := if wordAt ws 109 = 0#16 && wordAt ws 110 = 0#16 then none else optTimeAt ws 109
  totals := totalsAt ws 111
  vaultCoins := natAt ws 125

/-- The cash store's own items as the start restores them, before cash-suspect is judged (R149, R150). -/
def restoredCash (ws : List Word) : CashState where
  totals := totalsAt ws 1
  acceptedCounts := countsAt ws 15
  vaultCoins := natAt ws 23
  vaultCounts := countsAt ws 24
  openCall := restoredOpenCall ws
  summary := BitVec.ofNat 8 (natAt ws 108)
  lastCollection := restoredLastCollection ws
  closeOwed := (wordAt ws 126).getLsbD 0
  suspect := (wordAt ws 126).getLsbD 1
  sequence := restoredSequence ws
  phase := .idle
  again := false
  copyWords := []
  copyBase := 0
  written := 0
  restore := none

/-! ### The alarm mirror (R122) -/

/-- The state value mirrored for a kind. -/
def mirroredPhase (ws : List Word) (k : AlarmKind) : AlarmPhase :=
  AlarmPhase.ofCode ((nibblesAt ws 102 3).getD (k.code - 1) 0)

/-- A REPORTING kind is RAISED after a start; the others keep their state (R122). -/
def AlarmPhase.rebuilt : AlarmPhase → AlarmPhase
  | .reporting => .raised
  | p => p

/-- The count that a rebuilt state allows: at least 1 in RAISED and NOTED, 0 in QUIET and REPORTED, at most
99 (R122). -/
def rebuiltCount (p : AlarmPhase) (count : Nat) : Nat :=
  match p with
  | .raised => max 1 (min count Config.alarmCountLimit)
  | .noted => max 1 (min count Config.alarmCountLimit)
  | .reporting => max 1 (min count Config.alarmCountLimit)
  | .quiet => 0
  | .reported => 0

/-- The rebuilt entry of a kind (R122). -/
def rebuiltEntry (ws : List Word) (k : AlarmKind) : AlarmEntry :=
  let at0 := 42 + 5 * (k.code - 1)
  match (mirroredPhase ws k).rebuilt with
  | .quiet => quietEntry
  | p =>
    { phase := p, count := rebuiltCount p (lowByte (wordAt ws at0)).toNat, carried := 0,
      firstTime := optTimeAt ws (at0 + 1), lastTime := optTimeAt ws (at0 + 3) }

/-- The codes of the mirrored queue: the nibbles up to the first 0 (R190). -/
def mirroredQueue (ws : List Word) : List Nat := (nibblesAt ws 105 3).takeWhile (· ≠ 0)

/-- Takes each code that names a RAISED kind once, in list order (R122). -/
def takeRaised (a : AlarmState) : List AlarmKind → List Nat → List AlarmKind
  | taken, [] => taken
  | taken, c :: rest =>
    match AlarmKind.ofCode c with
    | some k =>
      if (a.get k).phase = .raised ∧ k ∉ taken then takeRaised a (taken ++ [k]) rest
      else takeRaised a taken rest
    | none => takeRaised a taken rest

/-- The alarm table rebuilt from the mirror: entries, then the queue with the RAISED kinds the list does not
name appended in order of code (R122). -/
def rebuiltAlarms (ws : List Word) : AlarmState :=
  let table := AlarmKind.all.foldl (fun a k => a.put k (rebuiltEntry ws k)) alarmsAtStart
  let listed := takeRaised table [] (mirroredQueue ws)
  table.requeue (listed ++ AlarmKind.all.filter fun k => (table.get k).phase == .raised && k ∉ listed)

end Sys2Proof.Machine
end

