-- ==== Sys2Proof/Machine/RecordRing.lean ====
section
/-! DEFINITION. The record ring: offering a record (R98), the held record and merging (R100, R101), the
consumer index (R99), the move to a new base (R102) and the record writer's words at the memory port (R97,
R98, R189). -/

namespace Sys2Proof.Machine

/-- The sum of two counts that may be absent, saturating; an absent value counts as 0 (R101). -/
def sumCounts (a b : Option Nat) : Option Nat := some (saturate16 (a.getD 0 + b.getD 0))

/-- The held record with an offered record folded into it (R101). -/
def mergeRecords (held offered : CallRecord) : CallRecord where
  kind := .merged
  cause := offered.cause
  zone := none
  number := none
  seizeTime := earlierTime held.seizeTime offered.seizeTime
  answerTime := none
  endTime := held.endTime.later offered.endTime
  units := sumCounts held.units offered.units
  charge := saturate16 (held.charge + offered.charge)
  coins := sumCounts held.coins offered.coins
  flags := held.flags ||| offered.flags
  calls := saturate16 (held.calls + offered.calls)
  alarms := none

/-- The distance from one slot index to another around the ring. -/
def ringDistance (first last : Nat) : Nat := (last + Config.ringSlots - first) % Config.ringSlots

/-- The slot after a slot. -/
def nextSlot (k : Nat) : Nat := (k + 1) % Config.ringSlots

/-- The ring is full for the record writer (R97). -/
def RecordState.full (r : RecordState) : Bool := ringDistance r.consumer r.writeIndex == Config.ringSlots - 1

/-- A record takes slot w and joins the write queue (R98). -/
def RecordState.assign (r : RecordState) (rec : CallRecord) : RecordState :=
  { r with jobs := r.jobs ++ [.slot r.writeIndex rec], writeIndex := nextSlot r.writeIndex }

/-- A record becomes the held record, and the flag word is to be written as 1 (R100), behind the records that wait
in the write queue, among which R100 gives it no place; so it may still read 0 when the held record has left for the
queue (R102): DESIGN CHOICE, log entry 42. -/
def RecordState.hold (r : RecordState) (rec : CallRecord) : RecordState :=
  { r with held := some rec, flag := true, jobs := r.jobs ++ [.flagSet] }

/-- The piece of work is a record in a slot, and so of the write queue of R97. -/
def RecordJob.isSlot : RecordJob → Bool
  | .slot _ _ => true
  | .flagSet => false
  | .flagClear => false
  | .flagZero => false
  | .emptyHeader => false

/-- A record offered to the ring (R98): merged, held, or assigned the next slot. -/
def State.offerRecord (s : State) (rec : CallRecord) : State :=
  match s.records.held with
  | some h => (s.updRecords fun r => { r with held := some (mergeRecords h rec) }).tally .merges
  | none =>
    if s.records.full then ((s.updRecords fun r => r.hold rec).join .recordWriter).raise .record
    else (s.updRecords fun r => r.assign rec).join .recordWriter

/-- The held record leaves for the ring (R102). -/
def RecordState.leave (r : RecordState) : RecordState :=
  match r.held with
  | some h =>
    let r := RecordState.assign { r with held := none } h
    { r with jobs := r.jobs ++ [.flagClear] }
  | none => r

/-- The new base takes effect: an empty ring there, its header owed, and a held record in slot 0; flag words that
still waited are left out, for the empty header writes the flag (R102, log entry 21). -/
def RecordState.moveTo (r : RecordState) (base : Nat) : RecordState :=
  let empty : RecordState :=
    { r with base := base, producer := 0, consumer := 0, writeIndex := 0, flag := false, held := none,
             jobs := [.emptyHeader], written := 0, newBase := none, headerOwed := true }
  match r.held with
  | some h => empty.assign h
  | none => empty

/-- The write queue is empty: no record is assigned to a slot and not yet published (R97). -/
def RecordState.queueEmpty (r : RecordState) : Bool := r.jobs.all fun j => !j.isSlot

/-- A new base takes effect once the write queue is empty (R102, log entry 21). -/
def RecordState.settleBase (r : RecordState) : RecordState :=
  match r.newBase with
  | some b => if r.queueEmpty then r.moveTo b else r
  | none => r

/-- A reload that moves the RECORDS area (R102). One that comes while an earlier new base still waits takes that
base's place: DESIGN CHOICE, log entry 34. -/
def State.moveRecords (s : State) (base : Nat) : State :=
  let s := s.updRecords fun r => RecordState.settleBase { r with newBase := some base }
  if s.records.jobs = [] then s else s.join .recordWriter

/-! ### The consumer index (R99) -/

/-- The value lies in the occupied span of a ring whose header stands (R99, R102). -/
def RecordState.takes (r : RecordState) (v : Nat) : Bool :=
  r.newBase.isNone && !r.headerOwed && decide (v ≤ 31)
    && decide (ringDistance r.consumer v ≤ ringDistance r.consumer r.producer)

/-- A taken consumer index: the slots are freed, and a held record leaves if at least one was (R99, R102). -/
def State.takeIndex (s : State) (v : Nat) : State :=
  if s.records.consumer ≠ v && s.records.held.isSome then
    (s.updRecords fun r => RecordState.leave { r with consumer := v }).join .recordWriter
  else s.updRecords fun r => { r with consumer := v }

/-- A refused consumer index (R99). -/
def State.refuseIndex (s : State) : State := (s.raise .indexRefused).tally .writesRefused

/-! ### The record writer at the memory port -/

/-- The words of an empty header (R97). -/
def emptyHeaderWords : List Word := [0#16, 0#16, 0#16, 32#16]

/-- The word offset of word `k` of a slot (chapter 12.3). -/
def slotOffset (slot k : Nat) : Nat := 4 + Config.slotWords * slot + k

/-- A word written in the RECORDS area at the record writer's own base. -/
def State.storeRecordWord (s : State) (k : Nat) (w : Word) : State :=
  s.storeWord (wordAddr s.records.base k) w

/-- The job in hand has another word written. -/
def State.jobWord (s : State) : State := s.updRecords fun r => { r with written := r.written + 1 }

/-- The job in hand is done; a base that waits for the queue may take effect. -/
def State.jobDone (s : State) : State :=
  s.updRecords fun r => RecordState.settleBase { r with jobs := r.jobs.tail, written := 0 }

/-- The producer word of a record is written and the record is published (R98). -/
def State.publish (s : State) (slot : Nat) : State :=
  (((s.storeRecordWord 0 (wordOf (nextSlot slot))).updRecords fun r =>
      { r with producer := nextSlot slot }).jobDone).raise .record

/-- One word of the record writer's memory work. A flag clear is judged by the held record at its turn alone, so
that it writes 0 although a later held record has left for the queue, whose own flag word follows: DESIGN CHOICE,
log entry 34. -/
def State.recordJobWord (s : State) : RecordJob → State
  | .slot slot rec =>
    if s.records.written < Config.slotWords then
      (s.storeRecordWord (slotOffset slot s.records.written)
        (wordAt (recordWords rec) s.records.written)).jobWord
    else s.publish slot
  | .flagSet => ((s.storeRecordWord 2 1#16).updRecords fun r => { r with flag := true }).jobDone
  | .flagClear =>
    if s.records.held.isSome then s.jobDone
    else ((s.storeRecordWord 2 0#16).updRecords fun r => { r with flag := false }).jobDone
  | .flagZero => (s.storeRecordWord 2 0#16).jobDone
  | .emptyHeader =>
    let t := s.storeRecordWord s.records.written (wordAt emptyHeaderWords s.records.written)
    if s.records.written < 3 then t.jobWord
    else (t.updRecords fun r => { r with headerOwed := false }).jobDone

/-- The header read is valid (R97). -/
def headerValid (ws : List Word) : Bool :=
  decide (natAt ws 3 = 32) && decide (natAt ws 0 ≤ 31) && decide (natAt ws 1 ≤ 31)

/-- The ring header copy that a header read gives (R97). -/
def RecordState.fromHeader (r : RecordState) (ws : List Word) : RecordState :=
  if headerValid ws then
    { r with producer := natAt ws 0, consumer := natAt ws 1, writeIndex := natAt ws 0, flag := false,
             held := none, jobs := [.flagZero], written := 0, headerRead := none }
  else
    { r with producer := 0, consumer := 0, writeIndex := 0, flag := false, held := none,
             jobs := [.emptyHeader], written := 0, headerRead := none }

end Sys2Proof.Machine
end

