-- ==== Sys2Proof/Machine/SetupBlock.lean ====
section
/-! DEFINITION. The setup block: its check word (R179), the area layout (R181), the reading of each setting
with its clamping and the count of clamped values (R180, chapter 12.7), and the area table (R152). -/

namespace Sys2Proof.Machine

/-! ### Check word and layout -/

/-- The block passes its check when its 256 words sum to 0 mod 65536 (R179). -/
def setupChecks (ws : List Word) : Bool := sumWords ws == 0#16

/-- The seven bases of a block, 32-bit byte addresses (chapter 12.7). -/
def basesAt (ws : List Word) : AreaBases where
  cash := natAt32 ws 0
  live := natAt32 ws 2
  mailbox := natAt32 ws 4
  tally := natAt32 ws 6
  aliasWindow := natAt32 ws 8
  records := natAt32 ws 10
  tariff := natAt32 ws 12

/-- The base of an area. -/
def AreaBases.get (b : AreaBases) : AreaKind → Nat
  | .cash => b.cash
  | .live => b.live
  | .mailbox => b.mailbox
  | .tally => b.tally
  | .aliasWindow => b.aliasWindow
  | .records => b.records
  | .tariff => b.tariff

/-- The size of an area in words (R152). -/
def AreaKind.words : AreaKind → Nat
  | .cash => Config.cashWords
  | .live => Config.liveWords
  | .mailbox => Config.mailboxWords
  | .tally => Config.tallyWords
  | .aliasWindow => Config.aliasWords
  | .records => Config.recordsWords
  | .tariff => Config.tariffWords

def AreaKind.all : List AreaKind := [.cash, .live, .mailbox, .tally, .aliasWindow, .records, .tariff]

/-- The byte after the last of an area. -/
def AreaBases.top (b : AreaBases) (k : AreaKind) : Nat := b.get k + 2 * k.words

/-- An area lies where R181 lets it: an even base, all in SRAM, or for TARIFF all in SRAM or all in flash
below the setup block. -/
def areaPlaced (b : AreaBases) (k : AreaKind) : Bool :=
  decide (b.get k % 2 = 0) &&
    (decide (b.top k ≤ Config.flashBase) ||
      (k == .tariff && decide (Config.flashBase ≤ b.get k) && decide (b.top k ≤ Config.setupBase)))

/-- No byte lies in both areas. -/
def areasApart (b : AreaBases) (j k : AreaKind) : Bool :=
  decide (b.top j ≤ b.get k) || decide (b.top k ≤ b.get j)

/-- The area layout is valid (R181). -/
def layoutValid (b : AreaBases) : Bool :=
  AreaKind.all.all fun k => areaPlaced b k && AreaKind.all.all fun j => j == k || areasApart b j k

/-! ### Ranges (R180) -/

/-- A value brought within its range, with the number of values clamped. -/
structure Clamped (α : Type) where
  value : α
  count : Nat
deriving Repr

/-- A number with a range. -/
def clampRange (low high n : Nat) : Clamped Nat :=
  if n < low then ⟨low, 1⟩ else if high < n then ⟨high, 1⟩ else ⟨n, 0⟩

/-- The vault fill margin: within 0 to 255, then below the clamped vault capacity; at most one clamped
value. -/
def clampMargin (capacity n : Nat) : Clamped Nat :=
  let m := min n 255
  let m := if capacity ≤ m then capacity - 1 else m
  ⟨m, if m = n then 0 else 1⟩

/-- The DIAL_LOW threshold: the greatest listed value not above the one read. -/
def clampThreshold (n : Nat) : Clamped Nat :=
  let t := if 16 ≤ n then 16 else if 8 ≤ n then 8 else if 4 ≤ n then 4 else 0
  ⟨t, if t = n then 0 else 1⟩

/-- Digits above 9 are taken as 9, each counted. -/
def clampDigits (ds : List Nat) : Clamped (List Nat) :=
  ⟨ds.map fun d => min d 9, ds.countP fun d => decide (9 < d)⟩

/-- The coin class values, each class counted. -/
def clampClasses (ws : List Word) : Clamped (List Nat) :=
  let raw := countsAt ws 14
  ⟨raw.map fun v => min v 5000, raw.countP fun v => decide (5000 < v)⟩

def dialModeOf : Nat → Clamped DialMode
  | 0 => ⟨.tone, 0⟩
  | 1 => ⟨.pulse, 0⟩
  | _ => ⟨builtInSettings.dialMode, 1⟩

def answerSourceOf : Nat → Clamped AnswerSource
  | 0 => ⟨.reversal, 0⟩
  | 1 => ⟨.metering, 0⟩
  | 2 => ⟨.timed, 0⟩
  | _ => ⟨builtInSettings.answerSource, 1⟩

def ratingSourceOf : Nat → Clamped RatingSource
  | 0 => ⟨.internal, 0⟩
  | 1 => ⟨.metering, 0⟩
  | _ => ⟨builtInSettings.ratingSource, 1⟩

/-- The active levels: 1 is HIGH (R188). -/
def levelsOf (w : Word) : TamperLevels where
  door := w.getLsbD 0
  housing := w.getLsbD 1
  vault := w.getLsbD 2
  cord := w.getLsbD 3
  shock := w.getLsbD 4
  key := w.getLsbD 5

/-- The settings of a block that has passed its check and its layout, with the number of values clamped
(R180, chapter 12.7). -/
def settingsOf (ws : List Word) : Clamped Settings :=
  let classes := clampClasses ws
  let cap := clampRange 100 55000 (natAt ws 22)
  let capacity := clampRange 200 4000 (natAt ws 23)
  let margin := clampMargin capacity.value (natAt ws 24)
  let threshold := clampRange 3 30 (natAt ws 25)
  let cooloff := clampRange 30 600 (natAt ws 26)
  let tamper := clampRange 0 255 (natAt ws 27)
  let hook := clampRange 10 100 (natAt ws 28)
  let flash := clampRange 100 1000 (natAt ws 30)
  let interDigit := clampRange 2 15 (natAt ws 31)
  let deposit := clampRange 10 120 (natAt ws 32)
  let dialTone := clampRange 1 10 (natAt ws 33)
  let answerWait := clampRange 30 300 (natAt ws 34)
  let mode := dialModeOf (natAt ws 35)
  let toneOn := clampRange 40 200 (natAt ws 36)
  let toneOff := clampRange 40 200 (natAt ws 37)
  let answer := answerSourceOf (natAt ws 38)
  let timed := clampRange 5 60 (natAt ws 39)
  let rating := ratingSourceOf (natAt ws 40)
  let grace := clampRange 5 60 (natAt ws 41)
  let zone := clampRange 0 15 (natAt ws 42)
  let length := clampRange 1 20 (natAt ws 43)
  let number := clampDigits ((nibblesAt ws 44 5).take length.value)
  let identity := clampDigits (nibblesAt ws 49 2)
  let low := clampThreshold (natAt ws 55)
  { value :=
      { bases := basesAt ws, classValues := classes.value, creditCap := cap.value,
        vaultCapacity := capacity.value, vaultFillMargin := margin.value,
        slugThreshold := threshold.value, slugCooloff := cooloff.value, tamperDebounce := tamper.value,
        hookDebounce := hook.value, activeLevels := levelsOf (wordAt ws 29),
        hookFlashLimit := flash.value, interDigitTimeout := interDigit.value,
        depositWait := deposit.value, dialToneWait := dialTone.value,
        answerWaitLimit := answerWait.value, dialMode := mode.value, toneOn := toneOn.value,
        toneOff := toneOff.value, answerSource := answer.value, timedAnswerDelay := timed.value,
        ratingSource := rating.value, graceTime := grace.value, defaultZone := zone.value,
        reportNumber := number.value, phoneIdentity := identity.value,
        urgentKinds := BitVec.ofNat 12 (natAt ws 51), reportEnables := BitVec.ofNat 12 (natAt ws 52),
        trapMask := BitVec.ofNat 8 (natAt ws 53), defaultMask := wordAt ws 54,
        dialLowThreshold := low.value }
    count :=
      classes.count + cap.count + capacity.count + margin.count + threshold.count + cooloff.count
        + tamper.count + hook.count + flash.count + interDigit.count + deposit.count + dialTone.count
        + answerWait.count + mode.count + toneOn.count + toneOff.count + answer.count + timed.count
        + rating.count + grace.count + zone.count + length.count + number.count + identity.count
        + low.count }

/-! ### The area table (R152) -/

/-- Whether a byte address lies in an area: base ≤ a < base + 2 × size. -/
def AreaBases.holds (b : AreaBases) (k : AreaKind) (addr : Nat) : Bool :=
  decide (b.get k ≤ addr) && decide (addr < b.top k)

/-- The area a byte address lies in, none for plain memory. -/
def AreaBases.areaAt (b : AreaBases) (addr : Nat) : Option AreaKind := AreaKind.all.find? fun k => b.holds k addr

/-- The word offset of a byte address in an area. -/
def AreaBases.offset (b : AreaBases) (k : AreaKind) (addr : Nat) : Nat := (addr - b.get k) / 2

end Sys2Proof.Machine
end

