-- ==== Sys2Proof/Machine/LineGrants.lean ====
section
/-! DEFINITION. The line controller's release and guard (R46), seize requests and the grant order (R47, R48),
and the entry to SEIZING (R50). -/

namespace Sys2Proof.Machine

/-! ### Release (R46) -/

/-- The item in progress is abandoned: the emitter returns to IDLE with the tone off, no end is reported
(R41). -/
def State.abandonItem (s : State) : State := s.updEmitter fun e => { e with item := none, timer := none }

/-- The line record in GUARD at moment `now`, its guard timer from full and every other timer stopped. -/
def LineState.guardFrom (l : LineState) (now : Nat) : LineState :=
  { l with phase := .guarded, guardTimer := some (now + Config.guardMs), dialToneTimer := none,
           answerWaitTimer := none, timedAnswerTimer := none, clearTimer := none }

/-- The line record without an owner and without the times of a call in hand. -/
def LineState.disown (l : LineState) : LineState :=
  { l with owner := none, attempt := none, seizeTime := none, answerTime := none }

/-- A release that ends a call (R46): in GUARD it only removes the kept owner of a retry, in IDLE it has no
effect. -/
def State.releaseLine (s : State) : State :=
  match s.line.phase with
  | .idle => s
  | .guarded => s.updLine LineState.disown
  | _ => s.abandonItem.updLine fun l => (l.guardFrom s.now).disown

/-- The release after a failed first try keeps the owner, and the try becomes 2 (R46, R50). -/
def State.releaseForRetry (s : State) : State :=
  s.abandonItem.updLine fun l => { l.guardFrom s.now with attempt := some 2 }

/-! ### The grant (R48) -/

/-- The loop relay closes and the wait for dial tone begins; tone already present counts from here (R50). -/
def State.enterSeizing (s : State) : State :=
  s.updLine fun l =>
    { l with phase := .seizing, guardTimer := none,
             dialToneTimer := some (s.now + 1000 * s.setup.settings.dialToneWait),
             toneFrom := if s.pins.tonePresent then some s.now else none }

/-- A party becomes the owner: its request is spent, the try is 1 and the seize time is taken (R48). -/
def State.takeLine (s : State) (o : Owner) : State :=
  (s.updLine fun l =>
    { l with owner := some o, attempt := some 1, seizeTime := some s.calendar, answerTime := none,
             customerRequest := match o with
               | .customer => none
               | .report => l.customerRequest,
             reportRequest := match o with
               | .customer => l.reportRequest
               | .report => none }).enterSeizing

/-- The flags of the call status field, empty with no context (R85). -/
def State.callStatus (s : State) : RatingFlags :=
  match s.rating.context with
  | some c => c.status
  | none => 0#8

/-- The open-call mirror of a call granted now (R145). -/
def State.openMirror (s : State) (k : ZoneKind) : State :=
  (s.updCash fun c =>
    { c with openCall := some { kind := k, zone := s.number.zone, seizeTime := some s.calendar, charge := 0,
                                flags := s.callStatus } }).cashChanged

/-- The tally a grant raises for a kind (R36). -/
def State.tallyGrant (s : State) : ZoneKind → State
  | .paid => s.tally .paidSeized
  | .free => s.tally .free
  | .emergency => s.tally .emergency
  | .barred => s

/-- The grant to the customer: CALL, the tally of the zone kind and the open-call mirror (R36, R48, R145). -/
def State.grantCustomer (s : State) : State :=
  let s := (s.takeLine .customer).raise .call
  match s.number.kind with
  | some k => (s.tallyGrant k).openMirror k
  | none => s

/-- The report queue holds at least one kind of class URGENT (R48, R115). -/
def State.urgentQueued (s : State) : Bool := s.alarms.queue.any fun k => k.isIn s.setup.settings.urgentKinds

/-- The party whose request stands first in the grant order (R48). -/
def State.nextGrant (s : State) : Option Owner :=
  match s.line.customerRequest, s.line.reportRequest with
  | some .emergency, _ => some .customer
  | some .paidFree, none => some .customer
  | some .paidFree, some t =>
    if s.urgentQueued || decide (Config.reportAgeMs ≤ s.now - t) then some .report else some .customer
  | none, some _ => some .report
  | none, none => none

/-- A line in IDLE grants the first waiting request (R47, R48). -/
def State.grantWaiting (s : State) : State :=
  if s.line.phase = .idle then
    match s.nextGrant with
    | some .customer => s.grantCustomer
    | some .report => s.takeLine .report
    | none => s
  else s

/-- A report request is placed, carrying its run time (R47). -/
def State.placeReport (s : State) (runTime : Nat) : State :=
  (s.updLine fun l => { l with reportRequest := some runTime }).grantWaiting

/-- The customer's waiting request is withdrawn (R47). -/
def State.withdrawCustomer (s : State) : State := s.updLine fun l => { l with customerRequest := none }

end Sys2Proof.Machine
end

