-- ==== Sys2Proof/Machine/AlarmTable.lean ====
section
/-! DEFINITION. The alarm table and the report queue: what an occurrence, a message build, an
acknowledgement, a failure, a clear and a reload do to the entries (R113 to R121), and condition-active
(R113). -/

namespace Sys2Proof.Machine

/-- A count of occurrences saturates at 99 (R113). -/
def saturate99 (n : Nat) : Nat := min n Config.alarmCountLimit

/-- The entry that begins a cycle (R114). -/
def cycleEntry (p : AlarmPhase) (t : CalTime) : AlarmEntry := ⟨p, 1, 0, some t, some t⟩

/-- A further occurrence in the present cycle (R114). -/
def AlarmEntry.again (e : AlarmEntry) (t : CalTime) : AlarmEntry :=
  { e with count := saturate99 (e.count + 1), lastTime := some t }

/-- A kind in this state begins a new cycle at its next occurrence (R113). -/
def AlarmPhase.outOfCycle (p : AlarmPhase) : Bool := p == .quiet || p == .reported

/-- An occurrence of a kind changes its entry and the queue (R114). -/
def AlarmState.occur (a : AlarmState) (k : AlarmKind) (enabled : Bool) (t : CalTime) : AlarmState :=
  if (a.get k).phase.outOfCycle then
    if enabled then (a.put k (cycleEntry .raised t)).requeue (a.queue ++ [k])
    else a.put k (cycleEntry .noted t)
  else a.put k ((a.get k).again t)

/-- The build of a message fixes the count of a queued kind (R116). -/
def AlarmState.carry (a : AlarmState) (k : AlarmKind) : AlarmState :=
  a.put k { a.get k with phase := .reporting, carried := (a.get k).count }

/-- The build takes every kind in the queue, in queue order (R116). -/
def AlarmState.build (a : AlarmState) : AlarmState := a.queue.foldl AlarmState.carry a

/-- An acknowledgement settles one REPORTING kind (R117). -/
def AlarmState.settle (a : AlarmState) (k : AlarmKind) : AlarmState :=
  let e := a.get k
  if e.phase = .reporting then
    let q := a.queue.filter fun j => j != k
    if e.count - e.carried = 0 then
      (a.put k { e with phase := .reported, count := 0, carried := 0 }).requeue q
    else
      (a.put k { e with phase := .raised, count := e.count - e.carried, carried := 0 }).requeue (q ++ [k])
  else a

/-- An acknowledgement settles each REPORTING kind in queue order (R117). -/
def AlarmState.acknowledge (a : AlarmState) : AlarmState := a.queue.foldl AlarmState.settle a

/-- A REPORTING kind goes back to RAISED (R118). -/
def AlarmEntry.unreported (e : AlarmEntry) : AlarmEntry :=
  match e.phase with
  | .reporting => { e with phase := .raised, carried := 0 }
  | _ => e

/-- An attempt that ends without an acknowledgement (R118). -/
def AlarmState.fail (a : AlarmState) : AlarmState :=
  AlarmKind.all.foldl (fun a k => a.put k (a.get k).unreported) a

/-- A kind that a clear returns to QUIET (R119). -/
def AlarmPhase.clearable (p : AlarmPhase) : Bool := p == .reported || p == .noted

/-- A clear of one kind (R119). -/
def AlarmState.clear (a : AlarmState) (k : AlarmKind) : AlarmState :=
  if (a.get k).phase.clearable then a.put k quietEntry else a

/-- A clear of every kind that is REPORTED or NOTED (R119, R120). -/
def AlarmState.clearAll (a : AlarmState) : AlarmState := AlarmKind.all.foldl AlarmState.clear a

/-- How many kinds a clear of them all would return to QUIET (R175). -/
def AlarmState.clearableCount (a : AlarmState) : Nat :=
  AlarmKind.all.countP fun k => (a.get k).phase.clearable

/-- What a reload's report enable does to one kind (R121). -/
def AlarmState.reenable (enables : KindSet) (a : AlarmState) (k : AlarmKind) : AlarmState :=
  let e := a.get k
  match e.phase with
  | .raised =>
    if k.isIn enables then a
    else (a.put k { e with phase := .noted }).requeue (a.queue.filter fun j => j != k)
  | .noted =>
    if k.isIn enables then (a.put k { e with phase := .raised }).requeue (a.queue ++ [k]) else a
  | _ => a

/-- A reload's report enables applied to every kind, in order of code (R121). -/
def AlarmState.reload (a : AlarmState) (enables : KindSet) : AlarmState :=
  AlarmKind.all.foldl (AlarmState.reenable enables) a

/-! ### Condition-active (R113) -/

/-- Condition-active of a kind, as the owner of the condition holds it (R113). Before the first statuses are set
no input has a status, and each condition of an input reads clear: DESIGN CHOICE, log entry 28. -/
def State.conditionActive (s : State) : AlarmKind → Bool
  | .doorForced => s.tamper.door.active
  | .housingOpen => s.tamper.housing.active
  | .vaultRemoved => s.tamper.firstSet && !s.tamper.vault.active
  | .cordCut => s.tamper.cordRaised
  | .coinJam => s.coin.reasons.escrowJammed
  | .slugAttack => s.coin.cooloffTimer.isSome
  | .lineLost => s.line.status == .lost
  | .vaultFull => s.coin.fillWarned
  | .shock => false
  | .returnBlocked => false
  | .memoryWrite => false
  | .ratingAnomaly => false

end Sys2Proof.Machine
end

