-- ==== Sys2Proof/Machine/ReportCaller.lean ====
section
/-! DEFINITION. The report caller: runs, notices and pauses (R125 to R127), the message (R130), the end of an
attempt (R133), and the taking of an occurrence by the alarm table with its notice (R114). -/

namespace Sys2Proof.Machine

/-! ### Runs -/

/-- A new run begins: attempts 0, the run time taken from the timebase, a request placed (R125, R126). -/
def State.beginRun (s : State) : State :=
  (s.updReport fun r =>
    { r with phase := .waitLine, attempts := 0, runTime := some s.now, retryTimer := none,
             holdTimer := none }).placeReport s.now

/-- In IDLE with a kind in the queue a run begins (R125). -/
def State.checkQueue (s : State) : State :=
  if s.report.phase = .idle ∧ s.alarms.queue ≠ [] then s.beginRun else s

/-- The alarm table's notice of a new kind (R114, R125, R126). -/
def State.noticeNewKind (s : State) : State :=
  match s.report.phase with
  | .idle => s.checkQueue
  | .retryWait => s.beginRun
  | .held => s.beginRun
  | _ => s

/-- An occurrence taken by the alarm table: the entry changes, ALARM is set, the cash store is handed the
change, and a kind that enters RAISED gives the report caller notice (R114). -/
def State.occurrence (s : State) (k : AlarmKind) : State :=
  let enabled := k.isIn s.setup.settings.reportEnables
  let fresh := (s.alarms.get k).phase.outOfCycle && enabled
  let s := ((s.updAlarms fun a => a.occur k enabled s.calendar).raise .alarm).cashChanged
  if fresh then s.noticeNewKind else s

/-- The run ends and the report caller rests in IDLE (R126). -/
def State.endRun (s : State) : State :=
  s.updReport fun r => { r with phase := .idle, attempts := 0, runTime := none }

/-- Something is to be reported when a pause ends (R126). -/
def State.reportWanted (s : State) : Bool := !s.alarms.queue.isEmpty || s.report.statusMark

/-- The request is placed again within the run (R126, R133). -/
def State.resumeRun (s : State) : State :=
  (s.updReport fun r => { r with phase := .waitLine }).placeReport (s.report.runTime.getD s.now)

/-! ### The message (R130) -/

/-- The four digits of a kind carried: its code, then its carried count (R130). -/
def AlarmState.group (a : AlarmState) (k : AlarmKind) : List Nat :=
  decimalDigits 2 k.code ++ decimalDigits 2 (a.get k).carried

/-- The digits of the vault value (R130). -/
def vaultDigits (collected : Nat) : List Nat := decimalDigits 6 (min collected 999999)

/-- The message for an identity, a table just built and a collected value (R130). -/
def reportMessage (identity : List Nat) (a : AlarmState) (collected : Nat) : List Nat :=
  let groups := a.queue.flatMap a.group
  let vault := vaultDigits collected
  let check := (identity.sum + groups.sum + vault.sum) % 10
  10 :: identity ++ 12 :: groups ++ 12 :: vault ++ [check, 15]

/-- The alarm table fixes every queued kind for a build, and hands the changes to the cash store: with an empty
queue there are none (R116). -/
def State.carryQueue (s : State) : State :=
  if s.alarms.queue = [] then s else (s.updAlarms AlarmState.build).cashChanged

/-- The message is built: every queued kind becomes REPORTING and the buffer is filled (R116, R130). -/
def State.buildReport (s : State) : State :=
  let s := s.carryQueue
  s.updReport fun r =>
    { r with message := reportMessage s.setup.settings.phoneIdentity s.alarms s.cash.totals.collected,
             handed := 0, carriedKinds := kindSetOf s.alarms.queue }

/-! ### The end of an attempt (R133) -/

/-- The REPORT record of an attempt (R96). -/
def State.reportRecord (s : State) (outcome : EndCause) (seize : CalTime) : CallRecord where
  kind := .report
  cause := outcome
  zone := none
  number := some s.setup.settings.reportNumber
  seizeTime := some seize
  answerTime := s.report.goTime
  endTime := s.calendar
  units := some 0
  charge := 0
  coins := some 0
  flags := 0#8
  calls := 1
  alarms := some s.report.carriedKinds

/-- Step 1 of R133: the failure or abandonment is handed to the alarm table (R118). -/
def State.failReporting (s : State) : State :=
  if s.alarms.fail = s.alarms then s else (s.updAlarms AlarmState.fail).cashChanged

/-- Step 4 of R133: the message buffer and the go time are cleared, the timers of the attempt stop, and
REPORT is set. -/
def State.clearAttempt (s : State) : State :=
  (s.updReport fun r =>
    { r with message := [], handed := 0, digitsHanded := 0, carriedKinds := 0#12, goTime := none,
             goTimer := none, ackTimer := none }).raise .report

/-- A counted failure: RETRY_WAIT, or HELD at the third (R133). -/
def State.failedAttempt (s : State) : State :=
  (s.updReport fun r =>
    if r.attempts + 1 < Config.attemptLimit then
      { r with attempts := r.attempts + 1, phase := .retryWait, retryTimer := s.later Config.retryMs }
    else
      { r with attempts := min (r.attempts + 1) Config.attemptLimit, phase := .held,
               holdTimer := s.later Config.holdMs }).tally .reportAttempts

/-- An acknowledged attempt ends the run (R133). The report-attempts increment is handed over before the
reports-acknowledged one (R159 leaves the order open): DESIGN CHOICE, log entry 40. -/
def State.acknowledgedAttempt (s : State) : State :=
  (s.endRun.updReport fun r => { r with statusMark := false }).tally .reportAttempts
    |>.tally .reportsAcknowledged

/-- Step 3 of R133, by outcome, after step 4, whose clearing it does not read. -/
def State.attemptOutcome (s : State) : EndCause → State
  | .ok => s.acknowledgedAttempt.checkQueue
  | .preempted => s.resumeRun
  | .restart => s.resumeRun
  | _ => s.failedAttempt

/-- The close of an attempt whose release the line controller has handed back (R133). -/
def State.closeAttempt (s : State) (outcome : EndCause) (seize : CalTime) : State :=
  let s := if outcome = .ok then s else s.failReporting
  ((s.offerRecord (s.reportRecord outcome seize)).clearAttempt).attemptOutcome outcome

/-- The report call is released with an outcome and the attempt is closed (R57, R133). -/
def State.endReport (s : State) (outcome : EndCause) : State :=
  s.releaseLine.closeAttempt outcome (s.line.seizeTime.getD s.calendar)

end Sys2Proof.Machine
end

