-- ==== Sys2Proof/Machine/Tariff.lean ====
section
/-! DEFINITION. The tariff as the part reads it: prefix entries and the best match (R30, R31), the zone entry
with its replacements (R66), the day type and the band of a moment (R69, R70), and the effective unit
charge (R71). -/

namespace Sys2Proof.Machine

/-! ### The prefix table (R30, R31) -/

/-- A prefix-table entry as R30 treats it; `length` is 0 for an empty entry. -/
structure PrefixEntry where
  length : Nat
  symbols : List Nat
  zone : Nat
  minLength : Nat
  maxLength : Nat
deriving DecidableEq, Repr

/-- A length field: 0 is read as 1, values above 20 are taken as 20 (R30). -/
def readLength (n : Nat) : Nat := if n = 0 then 1 else min n Config.numberLimit

/-- Entry `e` of the 256 words of the prefix table (R30, chapter 12.2). -/
def prefixEntry (ws : List Word) (e : Nat) : PrefixEntry :=
  let length := field (wordAt ws (4 * e)) 0 4
  let maxLength := readLength (field (wordAt ws (4 * e + 1)) 0 5)
  { length := if 8 < length then 0 else length
    symbols := nibblesAt ws (4 * e + 2) 2
    zone := field (wordAt ws (4 * e)) 4 4
    minLength := min (readLength (field (wordAt ws (4 * e)) 8 5)) maxLength
    maxLength := maxLength }

/-- An entry matches when it is not empty, its prefix is no longer than the number, and its symbols, all of
them symbols a number can hold, equal the first digits (R30). -/
def PrefixEntry.fits (p : PrefixEntry) (digits : List Nat) : Bool :=
  decide (0 < p.length) && decide (p.length ≤ digits.length)
    && (p.symbols.take p.length).all (fun c => decide (c < 12))
    && p.symbols.take p.length == digits.take p.length

/-- Of two matching entries the one with the longer prefix wins; the first keeps a tie (R31). -/
def betterMatch (ws : List Word) (digits : List Nat) (best : Option Nat) (e : Nat) : Option Nat :=
  if (prefixEntry ws e).fits digits then
    match best with
    | none => some e
    | some b => if (prefixEntry ws b).length < (prefixEntry ws e).length then some e else some b
  else best

/-- The index of the winning entry: the longest prefix, of equal ones the lowest index (R31). -/
def winningEntry (ws : List Word) (digits : List Nat) : Option Nat :=
  (List.range 64).foldl (betterMatch ws digits) none

/-! ### The zone entry (R66, chapter 12.2) -/

/-- S of a zone entry. -/
def entrySetup (ws : List Word) : Nat := natAt ws 1

/-- U of a zone entry. -/
def entryBase (ws : List Word) : Nat := natAt ws 2

/-- S and U lie in their ranges, so no NO_TARIFF finding is made (R66). -/
def chargesInRange (ws : List Word) : Bool :=
  decide (entrySetup ws ≤ 9999) && decide (1 ≤ entryBase ws) && decide (entryBase ws ≤ 9999)

/-- The deposit units; out of range they are replaced by 1 (R66). -/
def unitsInRange (n : Nat) : Bool := decide (1 ≤ n) && decide (n ≤ 4)

/-- L(b) in range (R66). -/
def lengthInRange (n : Nat) : Bool := decide (10 ≤ n) && decide (n ≤ 36000)

/-- m(b) in range (R66). -/
def multiplierInRange (n : Nat) : Bool := decide (256 ≤ n) && decide (n ≤ 4095)

/-- a(b) in range (R66). -/
def additiveInRange (n : Int) : Bool := decide (-99 ≤ n) && decide (n ≤ 99)

/-- The terms of band `b` with the replacements of R66. -/
def bandTerms (ws : List Word) (b : Nat) : BandTerms where
  length := if lengthInRange (natAt ws (4 + 3 * b)) then natAt ws (4 + 3 * b) else 600
  multiplier := if multiplierInRange (natAt ws (5 + 3 * b)) then natAt ws (5 + 3 * b) else 1024
  additive := if additiveInRange (intAt ws (6 + 3 * b)) then intAt ws (6 + 3 * b) else 0

/-- No term of band `b` needs a replacement. -/
def bandSound (ws : List Word) (b : Nat) : Bool :=
  lengthInRange (natAt ws (4 + 3 * b)) && multiplierInRange (natAt ws (5 + 3 * b))
    && additiveInRange (intAt ws (6 + 3 * b))

/-- At least one replacement is made in the entry, so that FALLBACK_RATE is added (R66). -/
def entryReplaced (ws : List Word) : Bool :=
  !(unitsInRange (natAt ws 3) && bandSound ws 0 && bandSound ws 1 && bandSound ws 2 && bandSound ws 3)

/-- The snapshot of a zone entry and the 88 words of the band map and holiday list (R65, R66). -/
def snapshotOf (entry words : List Word) : Snapshot where
  setupCharge := entrySetup entry
  baseCharge := entryBase entry
  depositUnits := if unitsInRange (natAt entry 3) then natAt entry 3 else 1
  peak := bandTerms entry 0
  day := bandTerms entry 1
  evening := bandTerms entry 2
  night := bandTerms entry 3
  bandMap := words.take 72
  holidays := (words.drop 72).take 16

/-! ### Day type and band (R69, R70) -/

/-- A holiday entry matches the date; an entry whose month or day is out of range matches none (R69). -/
def holidayMatches (w : Word) (month day : Nat) : Bool :=
  let m := (highByte w).toNat
  let d := (lowByte w).toNat
  decide (1 ≤ m) && decide (m ≤ 12) && decide (1 ≤ d) && decide (d ≤ 31) && decide (m = month)
    && decide (d = day)

/-- The day type of the clock's date (R69). -/
def dayType (snap : Snapshot) (c : Clock) : DayType :=
  if c.weekday = 7 || snap.holidays.any (fun w => holidayMatches w c.month c.day) then .sunday
  else if c.weekday = 6 then .saturday
  else .weekday

/-- The row of the band map (R70). -/
def DayType.row : DayType → Nat
  | .weekday => 0
  | .saturday => 1
  | .sunday => 2

/-- The half-hour slot of the clock's time (R70). -/
def slotOf (c : Clock) : Nat := (60 * c.hour + c.minute) / 30

/-- Byte `k` of a list of words, the even byte in the low byte of its word (chapter 12.2). -/
def byteAt (ws : List Word) (k : Nat) : Nat :=
  if k % 2 = 0 then (lowByte (wordAt ws (k / 2))).toNat else (highByte (wordAt ws (k / 2))).toNat

/-- The band of a map byte, none above 3 (R70). -/
def Band.ofCode : Nat → Option Band
  | 0 => some .peak
  | 1 => some .day
  | 2 => some .evening
  | 3 => some .night
  | _ => none

/-- A band lookup: the band at the clock's moment and the flags the lookup adds (R70). -/
def bandLookup (snap : Snapshot) (c : Clock) : Band × RatingFlags :=
  if c.isSet then
    match Band.ofCode (byteAt snap.bandMap (48 * (dayType snap c).row + slotOf c)) with
    | some b => (b, 0#8)
    | none => (.day, RatingFlag.fallbackRate.only)
  else (.day, RatingFlag.clockUnset.only)

/-! ### Effective unit charge (R71) -/

/-- The terms of a band. -/
def Snapshot.terms (snap : Snapshot) : Band → BandTerms
  | .peak => snap.peak
  | .day => snap.day
  | .evening => snap.evening
  | .night => snap.night

/-- q of R71: the multiplied base charge, the half rounded up. -/
def multiplied (base multiplier : Nat) : Nat := (base * multiplier + 512) / 1024

/-- Ueff of a base charge under a multiplier and an additive, with the clamp flag it adds (R71). -/
def effectiveCharge (base multiplier : Nat) (additive : Int) : Nat × RatingFlags :=
  let v := (multiplied base multiplier : Int) + additive
  if 9999 < v then (9999, RatingFlag.clampHigh.only)
  else if v < 1 then (1, RatingFlag.clampLow.only)
  else (v.toNat, 0#8)

/-- Ueff of a band of the snapshot (R71). -/
def Snapshot.effective (snap : Snapshot) (b : Band) : Nat × RatingFlags :=
  effectiveCharge snap.baseCharge (snap.terms b).multiplier (snap.terms b).additive

/-- A lookup with its unit: band, Ueff and length, and all the flags it adds (R70, R71). -/
def ratedUnit (snap : Snapshot) (c : Clock) : RatedUnit × RatingFlags :=
  let found := bandLookup snap c
  let charge := snap.effective found.1
  (⟨found.1, charge.1, (snap.terms found.1).length⟩, found.2 ||| charge.2)

/-- The required deposit D = S + P × Ueff(b) (R72). -/
def requiredDeposit (snap : Snapshot) (ueff : Nat) : Nat := snap.setupCharge + snap.depositUnits * ueff

end Sys2Proof.Machine
end

