-- ==== Sys2Proof/Machine/NumberAnalysis.lean ====
section
/-! DEFINITION. The number analyser: the dial FIFO with DIAL_LOW (R26, R40), postings (R27, R29), matches and
the completion decision (R31, R32), the completion checks (R33), refusal (R34), the waits (R35, R36) and the
end of a number (R39). -/

namespace Sys2Proof.Machine

/-! ### FIFO and state -/

/-- The FIFO takes new contents and DIAL_LOW follows its level (R26, R40). -/
def State.setFifo (s : State) (q : List Nat) : State :=
  let threshold := s.setup.settings.dialLowThreshold
  let old := s.number.fifo.length
  let t := s.updNumber fun n => { n with fifo := q }
  if threshold = 0 then (t.updNumber fun n => { n with lowArmed := false }).lower .dialLow
  else if old ≤ threshold ∧ threshold < q.length then
    (t.updNumber fun n => { n with lowArmed := true }).lower .dialLow
  else if q.length < old ∧ q.length ≤ threshold ∧ s.number.lowArmed then
    (t.updNumber fun n => { n with lowArmed := false }).raise .dialLow
  else t

/-- The number state changes, which sets NUMBER (R28). -/
def State.setNumberPhase (s : State) (p : NumberPhase) : State :=
  if s.number.phase = p then s else (s.updNumber fun n => { n with phase := p }).raise .number

/-- A read run is a prefix match. -/
def AnalyserRead.isMatch (r : AnalyserRead) : Bool :=
  match r.job with
  | .prefixMatch _ => true
  | .zoneEntry _ => false

/-- A prefix match is in flight (R29). -/
def NumberState.matchInFlight (n : NumberState) : Bool := n.reads.any AnalyserRead.isMatch

/-- The reads in flight have their results discarded (R31, R33, R39). -/
def State.discardReads (s : State) : State :=
  (s.updNumber fun n => { n with reads := n.reads.map fun r => { r with discarded := true } }).updRating
    fun r => { r with reads := r.reads.map fun x => { x with discarded := true } }

/-- The rating context is discarded (R64, R87). -/
def State.discardContext (s : State) : State := s.updRating fun r => { r with context := none }

/-- The inter-digit and deposit-wait timers stop. -/
def State.stopNumberTimers (s : State) : State :=
  s.updNumber fun n => { n with interDigitTimer := none, keptExpiry := false, depositTimer := none }

/-- The tally that a refusal raises (R33, R35). -/
def State.tallyRefusal (s : State) : RefusalCause → State
  | .barred => s.tally .barred
  | .noTariff => s.tally .noTariff
  | .depositTimeout => s.tally .depositTimeouts
  | _ => s

/-- A refusal (R34): the purse is not touched, the digits, zone and kind stay in the record. -/
def State.refuseNumber (s : State) (cause : RefusalCause) : State :=
  (((((s.updNumber fun n => { n with cause := some cause }).setNumberPhase .refused).setFifo []).withdrawCustomer
    ).stopNumberTimers.discardReads.discardContext).tallyRefusal cause

/-- The number record with every field absent or 0 in the given state (R28). -/
def NumberState.blank (n : NumberState) : NumberState :=
  { n with cause := none, digits := [], matchEntry := none, zone := none, minLength := none,
           maxLength := none, kind := none, deposit := none, emitted := 0, decided := false }

/-- The end of a number (R39). -/
def State.endNumber (s : State) : State :=
  ((((s.setNumberPhase .empty).updNumber NumberState.blank).setFifo []).withdrawCustomer
    ).stopNumberTimers.discardReads.discardContext

/-! ### Waiting for the deposit and for the line (R35, R36, R49) -/

/-- A customer EMERGENCY request placed while REPORT owns the line abandons the report call (R49). -/
def State.preemptReport (s : State) : State :=
  if s.line.owner = some .report then s.endReport .preempted else s

/-- The customer seize request is placed (R36, R47). -/
def State.placeCustomer (s : State) (cls : RequestClass) : State :=
  let s := s.updLine fun l => { l with customerRequest := some cls }
  match cls with
  | .emergency => s.preemptReport.grantWaiting
  | .paidFree => s.grantWaiting

/-- The class of the request for a zone kind (R36). -/
def ZoneKind.requestClass : ZoneKind → RequestClass
  | .emergency => .emergency
  | _ => .paidFree

/-- Entry to WAIT_LINE (R36). -/
def State.toWaitLine (s : State) : State :=
  (s.stopNumberTimers.setNumberPhase .waitLine).placeCustomer
    ((s.number.kind.map ZoneKind.requestClass).getD .paidFree)

/-- Entry to WAIT_DEPOSIT, its timer from full (R35). -/
def State.toWaitDeposit (s : State) : State :=
  (s.stopNumberTimers.setNumberPhase .waitDeposit).updNumber fun n =>
    { n with depositTimer := s.later (1000 * s.setup.settings.depositWait) }

/-- A PAID number waits for the line with its request not yet granted (R36). -/
def State.paidRequestWaits (s : State) : Bool :=
  s.number.phase == .waitLine && s.line.customerRequest.isSome && s.number.kind == some .paid

/-- A change of total credit re-checks a number that waits (R19, R35, R36). -/
def State.recheckDeposit (s : State) : State :=
  match s.number.deposit with
  | none => s
  | some d =>
    if s.number.phase = .waitDeposit then
      if d ≤ s.coin.totalCredit then s.toWaitLine else s
    else if s.paidRequestWaits && decide (s.coin.totalCredit < d) then s.withdrawCustomer.toWaitDeposit
    else s

/-- A change of paid service to UNAVAILABLE refuses a PAID number that waits (R35, R36). -/
def State.serviceLost (s : State) : State :=
  if s.number.phase = .waitDeposit || s.paidRequestWaits then s.refuseNumber .serviceUnavailable else s

/-- A change of total or banked credit is handed on: to the cash store and the number analyser (R19). -/
def State.creditChanged (s : State) : State := s.cashChanged.recheckDeposit

/-- A paid-service reason is added by its owner (R23). -/
def State.addReason (s : State) (r : ServiceReason) : State :=
  if s.coin.reasons.has r then s
  else ((s.updCoin fun c => { c with reasons := c.reasons.put r true }).raise .service).serviceLost

/-- A paid-service reason is removed by its owner (R23). -/
def State.removeReason (s : State) (r : ServiceReason) : State :=
  if s.coin.reasons.has r then
    (s.updCoin fun c => { c with reasons := c.reasons.put r false }).raise .service
  else s

/-! ### Collecting and matching (R29, R31, R32) -/

/-- The oldest symbol not yet taken joins the number and a prefix match begins, when none is in flight and
the completion decision has not been made (R29). -/
def State.takeSymbol (s : State) : State :=
  if s.number.phase = .collecting && !s.number.decided && !s.number.matchInFlight then
    match s.number.fifo[s.number.digits.length]? with
    | some c =>
      (s.updNumber fun n =>
        { n with digits := n.digits ++ [c],
                 reads := n.reads ++ [⟨.prefixMatch (n.digits ++ [c]), [], false⟩] }).join .numberAnalyser
    | none => s
  else s

/-- A context as the completion decision creates it (R64, R85). -/
def freshContext : RatingContext where
  kind := none
  snapshot := none
  phase := .beforeAnswer
  payment := .settled
  charge := none
  unit := none
  lastPulse := none
  unitTimer := .stopped
  graceTimer := none
  cutWaiting := false
  units := 0
  total := 0
  coins := 0
  status := 0#8

/-- Under PULSE the symbols waiting untaken at the completion are removed, once with DIAL_REFUSED (R32). -/
def State.dropUntaken (s : State) : State :=
  if s.setup.settings.dialMode = .pulse ∧ s.number.digits.length < s.number.fifo.length then
    (s.setFifo (s.number.fifo.take s.number.digits.length)).raise .dialRefused
  else s

/-- The zone of the number in hand. -/
def State.numberZone (s : State) : Nat := s.number.zone.getD s.setup.settings.defaultZone

/-- The completion decision: the tally rises, the context is created and the completion read begins (R32,
R33, R64). -/
def State.completeNumber (s : State) : State :=
  (((((s.updNumber fun n => { n with decided := true }).stopNumberTimers).dropUntaken.tally .numbersCompleted
    ).updRating fun r => { r with context := some freshContext }).updNumber fun n =>
      { n with reads := n.reads ++ [⟨.zoneEntry s.numberZone, [], false⟩] }).join .numberAnalyser

/-- An inter-digit expiry is decided (R32). -/
def State.decideExpiry (s : State) : State :=
  if s.number.minLength.getD 1 ≤ s.number.digits.length then s.completeNumber
  else s.refuseNumber .incomplete

/-- The result of a match is taken into the record (R31). -/
def NumberState.applyMatch (n : NumberState) (ws : List Word) (digits : List Nat) (defaultZone : Nat) :
    NumberState :=
  match winningEntry ws digits with
  | some e =>
    { n with matchEntry := some e, zone := some (prefixEntry ws e).zone,
             minLength := some (prefixEntry ws e).minLength, maxLength := some (prefixEntry ws e).maxLength }
  | none =>
    { n with matchEntry := none, zone := some defaultZone, minLength := some 1,
             maxLength := some Config.numberLimit }

/-- After a match: complete by length, a kept expiry decided, or the next symbol taken (R32). -/
def State.judgeMatch (s : State) : State :=
  if s.number.maxLength.getD Config.numberLimit ≤ s.number.digits.length then s.completeNumber
  else if s.number.keptExpiry && decide (s.number.fifo.length ≤ s.number.digits.length) then
    s.decideExpiry
  else s.takeSymbol

/-- A prefix match has read its last word (R31). -/
def State.prefixMatchDone (s : State) (digits : List Nat) (ws : List Word) (discarded : Bool) : State :=
  if discarded then s.takeSymbol
  else (s.updNumber fun n => n.applyMatch ws digits s.setup.settings.defaultZone).judgeMatch

/-- The inter-digit timer has expired (R32). -/
def State.interDigitExpired (s : State) : State :=
  let s := s.updNumber fun n => { n with interDigitTimer := none }
  if s.number.matchInFlight || decide (s.number.digits.length < s.number.fifo.length) then
    s.updNumber fun n => { n with keptExpiry := true }
  else s.decideExpiry

/-! ### Postings (R27, R29) -/

/-- The number is complete and not yet ended, so a posting is an in-call symbol (R27, R38). -/
def NumberState.inCall (n : NumberState) : Bool :=
  match n.phase with
  | .collecting => n.decided
  | .waitDeposit => true
  | .waitLine => true
  | .dialling => true
  | .dialled => true
  | .empty => false
  | .refused => false

/-- The symbols of the FIFO that wait to be taken into the number (R27). -/
def NumberState.untaken (n : NumberState) : Nat := if n.decided then 0 else n.fifo.length - n.digits.length

/-- A posting is dropped in one of the five cases of R27. -/
def State.dropsPosting (s : State) (code : Nat) : Bool :=
  s.hook.phase == .cleared || decide (12 ≤ code) || decide (Config.fifoLimit ≤ s.number.fifo.length)
    || (s.number.phase == .collecting
      && decide (Config.numberLimit ≤ s.number.digits.length + s.number.untaken))
    || (s.setup.settings.dialMode == .pulse && s.number.inCall)

/-- An accepted symbol joins the FIFO. -/
def State.appendSymbol (s : State) (code : Nat) : State := s.setFifo (s.number.fifo ++ [code])

/-- The inter-digit timer starts from full, and a kept expiry is discarded (R32). -/
def State.startInterDigit (s : State) : State :=
  s.updNumber fun n =>
    { n with interDigitTimer := s.later (1000 * s.setup.settings.interDigitTimeout), keptExpiry := false }

/-- An accepted posting in EMPTY or REFUSED starts a new number (R29). -/
def State.startNumber (s : State) (code : Nat) : State :=
  ((((s.setNumberPhase .collecting).updNumber NumberState.blank).appendSymbol code).startInterDigit).takeSymbol

/-- A symbol code is offered to the number analyser (R27, R29). -/
def State.postSymbol (s : State) (code : Nat) : State :=
  if s.dropsPosting code then s.raise .dialRefused
  else
    match s.number.phase with
    | .empty => s.startNumber code
    | .refused => s.startNumber code
    | .collecting =>
      if s.number.decided then s.appendSymbol code
      else ((s.appendSymbol code).startInterDigit).takeSymbol
    | _ => s.appendSymbol code

/-! ### The completion checks (R33) -/

/-- The digits hold a `*` or a `#` (R33). -/
def NumberState.hasKeySymbol (n : NumberState) : Bool := n.digits.any fun d => decide (10 ≤ d)

/-- The kind is stored in the record and the context (R33, R64). -/
def State.storeKind (s : State) (k : ZoneKind) : State :=
  (s.updNumber fun n => { n with kind := some k }).updRating fun r =>
    { r with context := r.context.map fun c => { c with kind := some k } }

/-- The snapshot step begins: 88 words are to be read after the zone entry (R65). -/
def State.beginSnapshot (s : State) (entry : List Word) : State :=
  (s.updRating fun r => { r with reads := r.reads ++ [⟨entry, [], false⟩] }).join .ratingEngine

/-- Checks 4 and 5 of a PAID entry: paid service, then the range of S and U, after which check 4 has been
applied again to the same state (R33, R65). -/
def State.checkPaidEntry (s : State) (entry : List Word) : State :=
  if s.coin.reasons.unavailable then s.refuseNumber .serviceUnavailable
  else if chargesInRange entry then s.beginSnapshot entry
  else s.refuseNumber .noTariff

/-- Checks 1 to 5 and 9 at the end of the completion read (R33). -/
def State.checkEntry (s : State) (entry : List Word) : State :=
  match ZoneKind.ofCode (natAt entry 0) with
  | none => s.refuseNumber .noTariff
  | some .barred => (s.storeKind .barred).refuseNumber .barred
  | some k =>
    let s := s.storeKind k
    if s.setup.settings.dialMode = .pulse && s.number.hasKeySymbol then s.refuseNumber .notDiallable
    else
      match k with
      | .paid => s.checkPaidEntry entry
      | _ => s.toWaitLine

/-- The completion read has read its last word (R33). -/
def State.zoneEntryDone (s : State) (entry : List Word) (discarded : Bool) : State :=
  if discarded then s else s.checkEntry entry

/-- Flags are added to the call status field before the grant (R66, R70, R71). -/
def RatingContext.addFlags (c : RatingContext) (f : RatingFlags) : RatingContext :=
  { c with status := c.status ||| f }

/-- Checks 4 and 6 to 8, with the required deposit just computed (R33). -/
def State.checkDeposit (s : State) (d : Nat) : State :=
  if s.coin.reasons.unavailable then s.refuseNumber .serviceUnavailable
  else if s.setup.settings.creditCap < d then s.refuseNumber .depositAboveCap
  else if s.coin.totalCredit < d then s.toWaitDeposit
  else s.toWaitLine

/-- The snapshot is taken into the context, with FALLBACK_RATE for a replacement and the flags of the
deposit lookup (R65, R66, R70). -/
def State.storeSnapshot (s : State) (snap : Snapshot) (flags : RatingFlags) : State :=
  s.updRating fun r =>
    { r with context := r.context.map fun c => { (c.addFlags flags) with snapshot := some snap } }

/-- The flags of a snapshot and its deposit lookup. -/
def snapshotFlags (entry : List Word) (lookup : RatingFlags) : RatingFlags :=
  (if entryReplaced entry then RatingFlag.fallbackRate.only else 0#8) ||| lookup

/-- The snapshot step has read its last word (R65). -/
def State.snapshotDone (s : State) (entry words : List Word) (discarded : Bool) : State :=
  if discarded then s
  else
    let snap := snapshotOf entry words
    let rated := ratedUnit snap s.clock
    let d := requiredDeposit snap rated.1.charge
    ((s.storeSnapshot snap (snapshotFlags entry rated.2)).updNumber fun n =>
      { n with deposit := some d }).checkDeposit d

end Sys2Proof.Machine
end

