-- ==== Sys2Proof/Machine/SymbolEmitter.lean ====
section
/-! DEFINITION. The symbol emitter: which item begins next (R37, R38, R41, R44, R128, R131), the pacing of
tones and pulses (R42, R43) and the warning pips (R44). -/

namespace Sys2Proof.Machine

/-- The emitter begins an item, with its first pacing time in ms. -/
def State.beginItem (s : State) (item : EmitterItem) (ms : Nat) : State :=
  s.updEmitter fun e => { e with item := some item, timer := s.later ms }

/-- A tone symbol begins: its tone sounds for the tone on time (R42). -/
def State.beginTone (s : State) (code : Nat) (use : ItemUse) : State :=
  s.beginItem (.toneOn code use) s.setup.settings.toneOn

/-- The breaks of a pulse digit: n for 1 to 9, 10 for 0 (R43). -/
def pulseBreaks (digit : Nat) : Nat := if digit = 0 then 10 else digit

/-- A digit of a number begins as the dial mode has it (R37, R128); `left` counts the breaks after the one
that begins. -/
def State.beginDigit (s : State) (code : Nat) (use : ItemUse) : State :=
  match s.setup.settings.dialMode with
  | .tone => s.beginTone code use
  | .pulse => s.beginItem (.pulseBreak code (pulseBreaks code - 1) use) Config.pulseBreakMs

/-- A due pip begins (R44). -/
def State.beginPip (s : State) : State :=
  (s.updEmitter fun e => { e with pipsDue := e.pipsDue - 1 }).beginItem .pip Config.pipMs

/-- The oldest symbol leaves the FIFO as the emitter begins it (R37, R38). -/
def State.shiftFifo (s : State) : State := s.setFifo s.number.fifo.tail

/-- The next item of a customer owner: a due pip, then the symbols of the number in DIALLING, or the in-call
symbols while the number is DIALLED and the line CONNECTED (R37, R38, R44). -/
def State.nextCustomerItem (s : State) : State :=
  if 0 < s.emitter.pipsDue then s.beginPip
  else
    match s.number.fifo with
    | [] => s
    | c :: _ =>
      if s.line.phase = .dialling ∧ s.number.phase = .dialling ∧
          s.number.emitted < s.number.digits.length then
        s.shiftFifo.beginDigit c .numberSymbol
      else if s.line.phase = .connected ∧ s.number.phase = .dialled then
        s.shiftFifo.beginTone c .inCallSymbol
      else s

/-- The next item of a REPORT owner: a digit of the report number, or a message symbol (R128, R131). -/
def State.nextReportItem (s : State) : State :=
  match s.report.phase with
  | .dialling =>
    match s.setup.settings.reportNumber[s.report.digitsHanded]? with
    | some d =>
      (s.updReport fun r => { r with digitsHanded := r.digitsHanded + 1 }).beginDigit d .reportDigit
    | none => s
  | .sending =>
    match s.report.message[s.report.handed]? with
    | some c => (s.updReport fun r => { r with handed := r.handed + 1 }).beginTone c .messageSymbol
    | none => s
  | _ => s

/-- An idle emitter takes the next item of the line's owner (R41). -/
def State.emitNext (s : State) : State :=
  if s.emitter.item.isSome then s
  else
    match s.line.owner with
    | some .customer => s.nextCustomerItem
    | some .report => s.nextReportItem
    | none => s

/-- The item in progress has ended (R42, R43, R44). -/
def State.clearItem (s : State) : State := s.updEmitter fun e => { e with item := none, timer := none }

/-! ### Pips (R44) -/

/-- A pip falls due, and the next one 2 s after the moment it fell due. -/
def State.pipFallsDue (s : State) (moment : Nat) : State :=
  (s.updEmitter fun e =>
    { e with pipsDue := e.pipsDue + 1, pipTimer := some (moment + Config.pipPeriodMs) }).emitNext

/-- Grace ends: a pip that has fallen due and not begun is discarded, one in progress runs on. -/
def State.endPips (s : State) : State := s.updEmitter fun e => { e with pipsDue := 0, pipTimer := none }

/-! ### Outputs of the emitter (R41 to R43, R51) -/

/-- What the tone output sounds. -/
inductive ToneOutput where
  | off
  | symbol (code : Nat)
  | pip
deriving DecidableEq, Repr

/-- The tone output, off while the part is held (R41, R184). -/
def State.toneOutput (s : State) : ToneOutput :=
  if s.isHeld then .off
  else
    match s.emitter.item with
    | some (.toneOn code _) => .symbol code
    | some .pip => .pip
    | _ => .off

/-- A break of a pulse digit is in progress (R43). -/
def State.inBreak (s : State) : Bool :=
  match s.emitter.item with
  | some (.pulseBreak _ _ _) => true
  | _ => false

/-- The loop relay is closed while an owner holds the line, but for the breaks of pulse dialling, and open
while the part is held (R45, R51, R184). -/
def State.relayClosed (s : State) : Bool :=
  !s.isHeld && !s.inBreak &&
    match s.line.phase with
    | .idle => false
    | .guarded => false
    | .seizing => true
    | .dialling => true
    | .awaitAnswer => true
    | .connected => true

end Sys2Proof.Machine
end

