-- ==== Sys2Proof/Machine/CallClose.lean ====
section
/-! DEFINITION. The close of a customer call (R58, R87, R90, R95), the trap check (R92) and the open-call
mirror (R145). -/

namespace Sys2Proof.Machine

/-- The trap check over a call status field (R92). -/
def State.trapCheck (s : State) (flags : RatingFlags) : State :=
  let fresh := flags &&& s.setup.settings.trapMask &&& ~~~ s.cash.summary
  let s := if fresh = 0#8 then s else s.occurrence .ratingAnomaly
  if s.cash.summary ||| flags = s.cash.summary then s
  else (s.updCash fun c => { c with summary := c.summary ||| flags }).cashChanged

/-- The open-call mirror is cleared (R103, R145). -/
def State.clearMirror (s : State) : State :=
  match s.cash.openCall with
  | some _ => (s.updCash fun c => { c with openCall := none }).cashChanged
  | none => s

/-- The kind of the record of a customer call (R95). -/
def ZoneKind.recordKind : ZoneKind → RecordKind
  | .paid => .paid
  | .free => .free
  | .emergency => .emergency
  | .barred => .paid

/-- The record of a customer call that ends now with a cause (R90, R95). -/
def State.customerRecord (s : State) (cause : EndCause) : CallRecord where
  kind := (s.number.kind.map ZoneKind.recordKind).getD .paid
  cause := cause
  zone := s.number.zone
  number := some s.number.digits
  seizeTime := some (s.line.seizeTime.getD s.calendar)
  answerTime := s.line.answerTime
  endTime := s.calendar
  units := some ((s.rating.context.map RatingContext.units).getD 0)
  charge := (s.rating.context.map RatingContext.total).getD 0
  coins := some ((s.rating.context.map RatingContext.coins).getD 0)
  flags := s.callStatus
  calls := 1
  alarms := none

/-- The number meets the end of its call: it is refused with NO_DIAL_TONE, or ends (R36, R58). -/
def State.numberAfterCall (s : State) : EndCause → State
  | .noDialTone => s.refuseNumber .noDialTone
  | _ => s.endNumber

/-- The customer call ends with a cause: the release (R46), then the close at each block (R58, R90). The
context goes with the number (R34, R39, R64). The release abandons the item in progress, a warning pip too
(R41, R46), although R44 lets a pip run to its end when grace ends: DESIGN CHOICE, log entry 32. -/
def State.endCall (s : State) (cause : EndCause) : State :=
  (((((s.releaseLine.endPips).trapCheck s.callStatus).clearMirror).offerRecord
    (s.customerRecord cause)).numberAfterCall cause).raise .call

/-- A request to end the customer call: without effect when the customer does not own the line (R57). -/
def State.endCustomerCall (s : State) (cause : EndCause) : State :=
  if s.line.owner = some .customer then s.endCall cause else s

end Sys2Proof.Machine
end

