-- ==== Sys2Proof/Machine/Purse.lean ====
section
/-! DEFINITION. The coin handler's requests and operation starts (R9, R15, R16), forfeiture (R20), the slug
counter (R21), the vault fill levels (R22) and the collection close (R142, R143). -/

namespace Sys2Proof.Machine

/-! ### Requests and starts (R9, R16) -/

/-- An operation starts over the items in the escrow (R9). -/
def State.startOp (s : State) (op : EscrowOp) (drive : Actuator) : State :=
  s.updCoin fun c =>
    { c with op := op, opItems := c.escrow.length, chuteCount := 0, actuator := drive,
             flapTimer := s.later Config.flapHomeMs, settleTimer := none }

/-- A collect starts (R9). -/
def State.startCollect (s : State) : State := s.startOp .collecting .collect

/-- A refund starts (R9). -/
def State.startRefund (s : State) : State := s.startOp .refunding .refund

/-- A COLLECT request (R9, R16). -/
def State.requestCollect (s : State) : State :=
  if s.coin.inFlight then
    s.updCoin fun c => { c with request := if c.request = .none then .collect else c.request }
  else if s.coin.escrow = [] then s
  else s.startCollect

/-- A REFUND request (R9, R16). -/
def State.requestRefund (s : State) : State :=
  if s.coin.inFlight then s.updCoin fun c => { c with request := .refund }
  else if s.coin.escrow = [] then s
  else s.startRefund

/-- The standing refund condition: the hook is cleared or a session is open (R15). -/
def State.standingRefund (s : State) : Bool := s.hook.phase == .cleared || s.tamper.sessionOpen

/-- A collect is in flight or pending (R82, R83). -/
def CoinState.collectDue (c : CoinState) : Bool := c.op == .collecting || c.request == .collect

/-- The escrow counts as available to pay a charge (R78). -/
def CoinState.available (c : CoinState) : Bool :=
  (!c.escrow.isEmpty || c.gate.isSome) && c.op != .refunding && c.request != .refund

/-! ### Forfeiture (R20) -/

/-- Banked credit moves to forfeited value (R20). -/
def State.forfeit (s : State) : State :=
  if s.coin.banked = 0 then s
  else
    ((s.updCash fun c =>
        { c with totals := { c.totals with forfeited := addMoney c.totals.forfeited s.coin.banked } }).updCoin
      fun c => { c with banked := 0 }).creditChanged

/-! ### Slug detection (R21) -/

/-- The slug counter reaches the threshold (R21). -/
def State.slugAttack (s : State) : State :=
  (s.updCoin fun c =>
    { c with slug := 0, leakTimer := none,
             cooloffTimer := s.later (1000 * s.setup.settings.slugCooloff) }).occurrence .slugAttack

/-- A reject pulse, or a strobe treated as one (R3, R4, R21). -/
def State.rejectCoin (s : State) : State :=
  let s := (s.tally .rejects).raise .coinReject
  if s.setup.settings.slugThreshold ≤ s.coin.slug + 1 then s.slugAttack
  else
    s.updCoin fun c =>
      { c with slug := c.slug + 1,
               leakTimer := if c.slug = 0 then s.later Config.slugLeakMs else c.leakTimer }

/-! ### Vault fill (R22) -/

/-- The fill level: capacity less the margin. -/
def Settings.fillLevel (t : Settings) : Nat := t.vaultCapacity - t.vaultFillMargin

/-- One VAULT_FULL occurrence and the fill-warned flag (R22). -/
def State.warnFill (s : State) : State :=
  (s.updCoin fun c => { c with fillWarned := true }).occurrence .vaultFull

/-- The vault count has risen from `old` (R22). -/
def State.checkFill (s : State) (old : Nat) : State :=
  let level := s.setup.settings.fillLevel
  let t := if old < level ∧ level ≤ s.cash.vaultCoins ∧ s.coin.fillWarned = false then s.warnFill else s
  if s.setup.settings.vaultCapacity ≤ t.cash.vaultCoins then t.addReason .vaultFull else t

/-! ### The collection close (R142, R143) -/

/-- The condition of a collection close (R142). -/
def CoinState.settled (c : CoinState) : Bool :=
  c.escrow.isEmpty && c.gate.isNone && !c.inFlight && c.banked == 0

/-- The cash image after a collection close at a time (R143). -/
def CashState.close (c : CashState) (t : CalTime) : CashState :=
  { c with lastCollection := ⟨true, some t, c.totals, c.vaultCoins⟩, totals := zeroTotals,
           acceptedCounts := zeroCounts, vaultCoins := 0, vaultCounts := zeroCounts, closeOwed := false }

/-- The collection close (R143). -/
def State.collectionClose (s : State) : State :=
  ((((s.updCash fun c => c.close s.calendar).updCoin fun c => { c with fillWarned := false }).removeReason
    .vaultFull).raise .cash).cashChanged

/-- The cash store's test of an owed close (R142). -/
def State.closeTest (s : State) : State :=
  if s.cash.closeOwed && s.coin.settled then s.collectionClose else s

/-- What an event must change for the test to be made after it: the escrow, the gate, the escrow operation state
or banked credit (R142). -/
def CoinState.purse (c : CoinState) : List Coin × Option Coin × EscrowOp × Nat :=
  (c.escrow, c.gate, c.op, c.banked)

/-- An event, and the test of an owed close after it if it has changed the purse (R142). -/
def State.thenTest (s : State) (event : State → State) : State :=
  let t := event s
  if t.coin.purse = s.coin.purse then t else t.closeTest

end Sys2Proof.Machine
end

