-- ==== Sys2Proof/Machine/RatingEngine.lean ====
section
/-! DEFINITION. The rating engine: the call status field (R85, R86), the answer (R73 to R75), the unit timer
(R76), metering pulses (R77), payment (R78, R79), collect completions (R80) and grace (R81 to R84). -/

namespace Sys2Proof.Machine

/-! ### Context and call status field -/

/-- A change of the rating context, if there is one. -/
def State.updContext (s : State) (f : RatingContext → RatingContext) : State :=
  s.updRating fun r => { r with context := r.context.map f }

/-- While a call is seized the open-call mirror takes the charge total and the call status field (R86). -/
def State.mirrorCall (s : State) (c : RatingContext) : State :=
  match s.cash.openCall with
  | some o =>
    if o.charge = c.total ∧ o.flags = c.status then s
    else (s.updCash fun k =>
      { k with openCall := some { o with charge := c.total, flags := c.status } }).cashChanged
  | none => s

/-- Flags are added to the call status field, and handed to the mirror after the grant (R85, R86). -/
def State.addStatus (s : State) (f : RatingFlags) : State :=
  match s.rating.context with
  | some c => (s.updContext fun x => x.addFlags f).mirrorCall (c.addFlags f)
  | none => s

/-- The rating engine asks for a collect at an answer while the escrow is non-empty (R73 to R75). -/
def State.collectAtAnswer (s : State) : State := if s.coin.escrow = [] then s else s.requestCollect

/-! ### Grace (R81) -/

/-- In grace the timer of unit 1 stands still while the answer charge is pending (R76). -/
def UnitTimer.pause (t : UnitTimer) (now : Nat) : UnitTimer :=
  match t with
  | .running e => .still (e - now)
  | t => t

/-- It runs on from where it stood when the charge is paid (R76). -/
def UnitTimer.resume (t : UnitTimer) (now : Nat) : UnitTimer :=
  match t with
  | .still left => .running (now + left)
  | t => t

/-- Entry to grace (R81); the first pip falls due at once (R44). -/
def State.enterGrace (s : State) : State :=
  (((s.updContext fun c =>
      { c with payment := .grace, graceTimer := s.later (1000 * s.setup.settings.graceTime),
               cutWaiting := false, unitTimer := c.unitTimer.pause s.now }).raise .creditLow).tally
    .graceEntries).pipFallsDue s.now

/-! ### Payment (R78, R79) -/

/-- Banked credit falls and revenue rises by a charge (R18, R79). -/
def State.drawBanked (s : State) (amount : Nat) : State :=
  ((s.updCoin fun c => { c with banked := c.banked - amount }).updCash fun c =>
    { c with totals := { c.totals with revenue := addMoney c.totals.revenue amount } }).creditChanged

/-- An addition to the call charge total or the units is limited at 65535 (R79). -/
def saturates (c : RatingContext) (charge : Charge) : Bool :=
  decide (65535 < c.total + charge.amount) || decide (65535 < c.units + charge.units)

/-- The context after a charge has been paid (R79, R82). -/
def RatingContext.paid (c : RatingContext) (charge : Charge) (now : Nat) : RatingContext :=
  { c with
    charge := none
    payment := .settled
    graceTimer := none
    cutWaiting := false
    total := saturate16 (c.total + charge.amount)
    units := saturate16 (c.units + charge.units)
    status := if saturates c charge then c.status ||| RatingFlag.saturated.only else c.status
    unit := match charge.origin with
      | .unitExpiry next => some next
      | _ => c.unit
    unitTimer := match charge.origin with
      | .unitExpiry next => .running (now + 100 * next.length)
      | .answer => c.unitTimer.resume now
      | .metering => c.unitTimer }

/-- A pending charge is paid whole (R79), and grace, if the call was in it, ends (R82). -/
def State.payCharge (s : State) (c : RatingContext) (charge : Charge) : State :=
  (((s.drawBanked charge.amount).updContext fun x => x.paid charge s.now).mirrorCall
    (c.paid charge s.now)).endPips

/-- A charge that banked credit does not cover: a collect is awaited, or the call enters grace (R78). The request is
made whatever operation is in flight, and so becomes pending by R16 at an answer whose own collect has just started,
where a worked example of chapter 1 has nothing pending: DESIGN CHOICE, log entry 41. -/
def State.awaitCredit (s : State) : State :=
  if s.coin.available then
    (s.updContext fun c => { c with payment := .collectWait }).requestCollect
  else s.enterGrace

/-- The payment check over a charge that no further unit expiry can follow at once (R78). -/
def State.checkCharge (s : State) : State :=
  match s.rating.context with
  | some c =>
    match c.charge with
    | some charge => if charge.amount ≤ s.coin.banked then s.payCharge c charge else s.awaitCredit
    | none => s
  | none => s

/-- A charge becomes the pending charge. -/
def State.raiseCharge (s : State) (amount units : Nat) (origin : ChargeOrigin) : State :=
  s.updContext fun c => { c with charge := some ⟨amount, units, origin⟩ }

/-- A unit has ended and the charge for the next falls due (R76). -/
def State.unitEnds (s : State) : State :=
  match s.rating.context with
  | some c =>
    match c.snapshot with
    | some snap =>
      let rated := ratedUnit snap s.clock
      ((((s.updContext fun x => { x with unitTimer := .stopped }).addStatus rated.2).raiseCharge rated.1.charge 1
        (.unitExpiry rated.1))).checkCharge
    | none => s
  | none => s

/-- A payment, after which unit 1 expires at once if its timer waits at 0 for the answer charge (R76, R79). -/
def State.payAndGoOn (s : State) (c : RatingContext) (charge : Charge) : State :=
  let t := s.payCharge c charge
  if charge.origin = .answer ∧ c.unitTimer = .atZero then t.unitEnds else t

/-- The payment check of the pending charge (R78). -/
def State.paymentCheck (s : State) : State :=
  match s.rating.context with
  | some c =>
    match c.charge with
    | some charge => if charge.amount ≤ s.coin.banked then s.payAndGoOn c charge else s.awaitCredit
    | none => s
  | none => s

/-! ### The cut (R84) -/

/-- The call is cut for want of credit (R84). -/
def State.cutCall (s : State) : State :=
  ((s.addStatus RatingFlag.graceCut.only).tally .creditCuts).endCustomerCall .creditExhausted

/-! ### The answer (R73 to R75) -/

/-- The answer of a PAID call under INTERNAL rating (R73). -/
def State.answerInternal (s : State) (snap : Snapshot) : State :=
  let s := s.collectAtAnswer
  let rated := ratedUnit snap s.clock
  (((s.addStatus rated.2).updContext fun c =>
      { c with unit := some rated.1, unitTimer := .running (s.now + 100 * rated.1.length) }).raiseCharge
    (snap.setupCharge + rated.1.charge) 1 .answer).paymentCheck

/-- The answer of a PAID call under METERING rating (R74). -/
def State.answerMetering (s : State) (snap : Snapshot) : State :=
  let s := s.collectAtAnswer
  if 0 < snap.setupCharge then (s.raiseCharge snap.setupCharge 0 .metering).paymentCheck else s

/-- The answer of a customer call handed to the rating engine (R73, R74, R75). -/
def State.rateAnswer (s : State) : State :=
  let s := s.updContext fun c => { c with phase := .answered }
  match s.rating.context with
  | some c =>
    match c.snapshot with
    | some snap =>
      match s.setup.settings.ratingSource with
      | .internal => s.answerInternal snap
      | .metering => s.answerMetering snap
    | none => s.collectAtAnswer
  | none => s

/-! ### Metering pulses (R77) -/

/-- A charged pulse: the lookup's flags, and the unit it charges (R70, R77, R89). -/
def State.chargePulse (s : State) (rated : RatedUnit × RatingFlags) : State :=
  (s.addStatus rated.2).updContext fun c => { c with lastPulse := some rated.1 }

/-- The pending charge takes a further unit (R77). -/
def RatingContext.addUnit (c : RatingContext) (charge : Nat) : RatingContext :=
  { c with charge := c.charge.map fun p => { p with amount := p.amount + charge, units := p.units + 1 } }

/-- A metering pulse on a PAID call under METERING rating, by payment state (R77). -/
def State.ratePulse (s : State) (c : RatingContext) (snap : Snapshot) : State :=
  let rated := ratedUnit snap s.clock
  match c.payment with
  | .settled => ((s.chargePulse rated).raiseCharge rated.1.charge 1 .metering).paymentCheck
  | .collectWait =>
    if (c.charge.map Charge.units).getD 0 ≤ 1 then
      (s.chargePulse rated).updContext fun x => x.addUnit rated.1.charge
    else s.cutCall
  | .grace => s.cutCall

/-- A metering pulse handed to the rating engine while a customer call is CONNECTED (R55, R77). -/
def State.meterConnected (s : State) : State :=
  match s.rating.context with
  | some c =>
    match c.snapshot with
    | some snap =>
      match s.setup.settings.ratingSource with
      | .internal => s
      | .metering => s.ratePulse c snap
    | none => s
  | none => s

/-! ### Collect completions and coins in grace (R80, R82, R83) -/

/-- The value of a collect is added to coins taken (R80). -/
def State.countCoins (s : State) (v : Nat) : State :=
  s.updContext fun c => { c with coins := saturate16 (c.coins + v) }

/-- The re-check of a call in grace at a collect completion (R82, R83). -/
def State.graceRecheck (s : State) (c : RatingContext) : State :=
  match c.charge with
  | none => s
  | some charge =>
    if charge.amount ≤ s.coin.banked then s.payAndGoOn c charge
    else if c.cutWaiting then s.cutCall
    else if s.coin.available && !s.coin.collectDue then s.requestCollect
    else s

/-- A collect completion taken by an answered context, after its coins are counted (R80). -/
def State.recheckPayment (s : State) : State :=
  match s.rating.context with
  | some c =>
    match c.payment with
    | .settled => s
    | .collectWait => s.paymentCheck
    | .grace => s.graceRecheck c
  | none => s

/-- The end of a collect of value `v` is handed to the rating engine (R14, R80). -/
def State.collectCompletion (s : State) (v : Nat) : State :=
  match s.rating.context with
  | some c =>
    match c.phase with
    | .beforeAnswer => s
    | .answered => (s.countCoins v).recheckPayment
  | none => s

/-- The arrival of a coin is offered to a rating engine in GRACE, which asks for a collect, but not after the
cut-waiting mark has been set (R2, R82, R83). -/
def State.graceArrival (s : State) : State :=
  match s.rating.context with
  | some c => if c.payment = .grace ∧ c.cutWaiting = false then s.requestCollect else s
  | none => s

/-- The grace timer has expired (R83). -/
def State.graceExpired (s : State) : State :=
  if s.coin.collectDue then s.updContext fun c => { c with graceTimer := none, cutWaiting := true }
  else (s.updContext fun c => { c with graceTimer := none }).cutCall

/-- The unit timer has run out: it waits at 0 while the answer charge is pending, and else the unit ends
(R76). -/
def State.unitExpired (s : State) : State :=
  match s.rating.context with
  | some c =>
    match c.charge with
    | some _ => s.updContext fun x => { x with unitTimer := .atZero }
    | none => s.unitEnds
  | none => s

end Sys2Proof.Machine
end

