-- ==== Sys2Proof/Machine/EscrowOps.lean ====
section
/-! DEFINITION. Taking a coin (R2, R3) and the end of an escrow operation: the result of a collect (R11) or a
refund (R12), the jammed end (R13) and what follows every end (R14). -/

namespace Sys2Proof.Machine

/-! ### A coin taken (R2) -/

/-- The escrow or the gate has room for a reported coin (R2). -/
def CoinState.hasRoom (c : CoinState) : Bool :=
  if c.inFlight then c.gate.isNone else decide (c.escrow.length < Config.escrowLimit)

/-- A strobe is taken under R2; before the purse has been restored none is (R185). -/
def State.takesCoin (s : State) (code : Nat) : Bool :=
  isClass code && s.restored && s.coin.hasRoom
    && decide (s.coin.totalCredit + classValue s.setup.settings.classValues code ≤ Config.creditLimit)

/-- A coin joins the escrow, or rests on the gate while an operation is in flight (R2, R8). -/
def CoinState.place (c : CoinState) (coin : Coin) : CoinState :=
  if c.inFlight then { c with gate := some coin } else { c with escrow := c.escrow ++ [coin] }

/-- The accepted value and count rise (R2). -/
def CashState.accept (c : CashState) (coin : Coin) : CashState :=
  { c with totals := { c.totals with accepted := addMoney c.totals.accepted coin.value },
           acceptedCounts := addClassCount c.acceptedCounts coin.cls 1 }

/-- The customer call is CONNECTED (R2, R55). -/
def State.customerConnected (s : State) : Bool :=
  s.line.owner == some .customer && s.line.phase == .connected

/-- A coin that has joined the escrow completes its conditions: the seventh item of a CONNECTED call, the
standing refund condition, and a call in GRACE (R2, R15). -/
def State.arrivalConditions (s : State) : State :=
  let s :=
    if Config.escrowNearFull ≤ s.coin.escrow.length ∧ s.customerConnected then s.requestCollect else s
  let s := if s.standingRefund && !s.coin.inFlight then s.startRefund else s
  s.graceArrival

/-- The tallies and the flag of a coin taken (R2). The coins-accepted increment is handed over before the
unknown-class one (R159 leaves the order open): DESIGN CHOICE, log entry 40. -/
def State.countCoin (s : State) (coin : Coin) : State :=
  let s := s.tally .coinsAccepted
  (if coin.value = 0 then s.tally .unknownClass else s).raise .coinIn

/-- A coin is taken (R2, R19): the cash store is handed its change before the tally logic its increment (the
example of chapter 9.6), and then a waiting number is re-checked. -/
def State.takeCoin (s : State) (coin : Coin) : State :=
  let placed := (s.updCash fun c => c.accept coin).updCoin fun c => c.place coin
  let s' := (placed.cashChanged.countCoin coin).recheckDeposit
  if s.coin.inFlight then s' else s'.arrivalConditions

/-! ### Results (R11, R12) -/

/-- The value of each class of the items is counted in the vault (R11, R22). -/
def countVault (counts : List Nat) (items : List Coin) : List Nat :=
  items.foldl (fun cs c => addClassCount cs c.cls 1) counts

/-- The cash image after a collect of items of which `k` were seen to pass (R11). -/
def CashState.collect (c : CashState) (items : List Coin) (k : Nat) : CashState :=
  { c with totals := { c.totals with collected := addMoney c.totals.collected (coinsValue items),
                                     jammed := addMoney c.totals.jammed (coinsValue (items.drop k)) },
           vaultCoins := saturate16 (c.vaultCoins + items.length),
           vaultCounts := countVault c.vaultCounts items }

/-- The cash image after a refund of items of which `k` were seen to pass (R12). -/
def CashState.refund (c : CashState) (items : List Coin) (k : Nat) : CashState :=
  { c with totals := { c.totals with refunded := addMoney c.totals.refunded (coinsValue (items.take k)),
                                     unconfirmed :=
                                       addMoney c.totals.unconfirmed (coinsValue (items.drop k)) } }

/-- The items of the operation in flight (R9). -/
def CoinState.items (c : CoinState) : List Coin := c.escrow.take c.opItems

/-- The items leave the escrow and the operation is no longer in flight (R11 to R13). -/
def CoinState.finish (c : CoinState) (op : EscrowOp) (credited : Nat) : CoinState :=
  { c with op := op, actuator := .released, flapTimer := none, settleTimer := none,
           escrow := c.escrow.drop c.opItems, opItems := 0, chuteCount := 0,
           banked := c.banked + credited }

/-- A collect's result with `k` passages; the operation state becomes `op` (R11, R13, R22). -/
def State.collectResult (s : State) (op : EscrowOp) (k : Nat) : State :=
  (((s.updCash fun c => c.collect s.coin.items k).updCoin fun c =>
      c.finish op (coinsValue s.coin.items)).creditChanged).checkFill s.cash.vaultCoins

/-- A refund's result with `k` passages; the operation state becomes `op` (R12, R13). -/
def State.refundResult (s : State) (op : EscrowOp) (k : Nat) : State :=
  ((s.updCash fun c => c.refund s.coin.items k).updCoin fun c => c.finish op 0).creditChanged

/-! ### After the result (R14) -/

/-- The gate coin becomes the first item of the escrow (R8, R14). -/
def State.moveGate (s : State) : State :=
  match s.coin.gate with
  | some g => (s.updCoin fun c => { c with escrow := g :: c.escrow, gate := none }).cashChanged
  | none => s

/-- Step 3 of R14: a pending request starts or is discarded; with none pending the standing refund condition
may start a refund. -/
def State.nextOperation (s : State) : State :=
  let t := s.updCoin fun c => { c with request := .none }
  match s.coin.request with
  | .collect => if s.coin.escrow = [] then t else t.startCollect
  | .refund => if s.coin.escrow = [] then t else t.startRefund
  | .none => if s.coin.escrow ≠ [] ∧ s.standingRefund then t.startRefund else t

/-- The end of a collect that credited `v` (R14, R20). -/
def State.collectEnd (s : State) (v : Nat) : State :=
  let s := (s.tally .collects).moveGate.nextOperation
  let s := if 0 < v ∧ s.standingRefund then s.forfeit else s
  (s.collectCompletion v).closeTest

/-- The end of a refund (R14). -/
def State.refundEnd (s : State) : State :=
  let t := (s.tally .refunds).moveGate.nextOperation
  (if s.coin.gate.isSome then t.graceArrival else t).closeTest

/-- The settle window of a collect ends (R10, R11). Its VAULT_FULL occurrence is handed over before its COIN_JAM
(R111 leaves the order open): DESIGN CHOICE, log entry 36. -/
def State.settleCollect (s : State) : State :=
  let items := s.coin.items
  let k := min s.coin.chuteCount items.length
  let t := s.collectResult .idle k
  let t := if k < items.length then (t.occurrence .coinJam).tally .jams else t
  t.collectEnd (coinsValue items)

/-- The settle window of a refund ends (R10, R12). -/
def State.settleRefund (s : State) : State :=
  let items := s.coin.items
  let k := min s.coin.chuteCount items.length
  let t := s.refundResult .idle k
  let t := if k < items.length then (t.occurrence .returnBlocked).tally .returnsUnconfirmed else t
  t.refundEnd

/-- The jammed end of any operation: JAMMED, COIN_JAM, the tally and the reason (R13). -/
def State.jam (s : State) : State :=
  ((((s.updCoin fun c => { c with op := .jammed, actuator := .released, flapTimer := none }).occurrence
    .coinJam).tally .jams).addReason .escrowJammed)

/-- The flap-home timer expires on a collect (R13). Its COIN_JAM occurrence is handed over before a VAULT_FULL of the
count it raises (R111 leaves the order open): DESIGN CHOICE, log entry 36. -/
def State.jamCollect (s : State) : State :=
  (s.jam.collectResult .jammed 0).collectEnd (coinsValue s.coin.items)

/-- The flap-home timer expires on a refund (R13). The jams increment is handed over before the returns-unconfirmed
one (R159 leaves the order open): DESIGN CHOICE, log entry 40. -/
def State.jamRefund (s : State) : State :=
  ((s.jam.refundResult .jammed 0).tally .returnsUnconfirmed).refundEnd

end Sys2Proof.Machine
end

