-- ==== Sys2Proof/Machine/LineCalls.lean ====
section
/-! DEFINITION. The course of a call on the line: dial tone (R50), the last dialled symbol (R51), answer (R52,
R53), remote clear (R56), the hook (R59 to R61) and line loss (R62); and the end of an emitter item, which
drives it (R37, R128, R131). -/

namespace Sys2Proof.Machine

/-- The customer owns the line: a customer call is seized (R17, R57). -/
def State.customerOwns (s : State) : Bool := s.line.owner == some .customer

/-! ### Answer (R52, R53) -/

/-- CONNECTED with the answer time, the answer timers stopped, and the clear timer running if loop current is
already absent (R53). -/
def State.connectCall (s : State) : State :=
  s.updLine fun l =>
    { l with phase := .connected, answerTime := some s.calendar, answerWaitTimer := none,
             timedAnswerTimer := none,
             clearTimer := if s.pins.loopCurrent then none else s.later Config.clearMs }

/-- The answer of a customer call; `assumed` under the TIMED answer source (R53). -/
def State.answerCall (s : State) (assumed : Bool) : State :=
  let t := s.connectCall.raise .call
  let t := if s.number.kind = some .paid then t.tally .paidAnswered else t
  let t := if assumed then t.addStatus RatingFlag.answerAssumed.only else t
  t.rateAnswer

/-- A polarity that has already read REVERSED for 50 ms at the entry to AWAIT_ANSWER (R52). -/
def State.reversedLongEnough (s : State) : Bool :=
  s.setup.settings.answerSource == .reversal && s.pins.reversed
    && decide (s.line.polarityAt + Config.polarityMs ≤ s.now)

/-- AWAIT_ANSWER of a customer call: its answer timers start (R51, R52, R54). -/
def State.awaitCustomerAnswer (s : State) : State :=
  let t := s.updLine fun l =>
    { l with phase := .awaitAnswer,
             answerWaitTimer := s.later (1000 * s.setup.settings.answerWaitLimit),
             timedAnswerTimer := if s.setup.settings.answerSource = .timed then
               s.later (1000 * s.setup.settings.timedAnswerDelay) else none }
  if s.reversedLongEnough then t.answerCall false else t

/-- The tone count begins now if tone is present (R129, R132). -/
def State.restartToneCount (s : State) : State :=
  s.updLine fun l => { l with toneFrom := if s.pins.tonePresent then some s.now else none }

/-- AWAIT_ANSWER of the report call: the report caller enters AWAIT_GO (R128, R129). -/
def State.awaitGo (s : State) : State :=
  ((s.updLine fun l => { l with phase := .awaitAnswer }).restartToneCount).updReport fun r =>
    { r with phase := .awaitGo, goTimer := s.later Config.goTimerMs }

/-- The message has been sent: AWAIT_ACK (R131, R132). -/
def State.awaitAck (s : State) : State :=
  s.restartToneCount.updReport fun r => { r with phase := .awaitAck, ackTimer := s.later Config.ackTimerMs }

/-! ### The end of an item (R37, R38, R128, R131) -/

/-- A symbol of the number has ended; after the last the number is DIALLED and the line awaits the answer
(R37, R51). -/
def State.numberSymbolEnds (s : State) : State :=
  let t := s.updNumber fun n => { n with emitted := n.emitted + 1 }
  if s.number.digits.length ≤ s.number.emitted + 1 then
    (t.setNumberPhase .dialled).awaitCustomerAnswer
  else t

/-- A digit of the report number has ended (R128). -/
def State.reportDigitEnds (s : State) : State :=
  if s.setup.settings.reportNumber.length ≤ s.report.digitsHanded then s.awaitGo else s

/-- A message symbol has ended (R131). -/
def State.messageSymbolEnds (s : State) : State :=
  if s.report.message.length ≤ s.report.handed then s.awaitAck else s

/-- The end of an item is reported to the party that handed it (R41). -/
def State.reportEnd (s : State) : ItemUse → State
  | .numberSymbol => s.numberSymbolEnds
  | .inCallSymbol => s
  | .reportDigit => s.reportDigitEnds
  | .messageSymbol => s.messageSymbolEnds

/-- An item ends: its end is reported and the next item waiting begins (R41, R42, R43); an answer that it brings
about may pay a charge (R52, R142). -/
def State.endItem (s : State) (use : ItemUse) : State :=
  s.thenTest fun s => (s.clearItem.reportEnd use).emitNext

/-! ### Dial tone (R50) -/

/-- Dial tone is found: DIALLING, and the owner is told that the line is ready (R37, R50, R128). -/
def State.dialToneReady (s : State) : State :=
  let t := s.updLine fun l => { l with phase := .dialling, dialToneTimer := none }
  match s.line.owner with
  | some .customer => (t.setNumberPhase .dialling).emitNext
  | some .report => (t.updReport fun r => { r with phase := .dialling, digitsHanded := 0 }).emitNext
  | none => t

/-- A line call ends with a cause that the line controller gives to either owner (R50, R58, R62). -/
def State.endOwner (s : State) (cause : EndCause) : State :=
  match s.line.owner with
  | some .customer => s.endCall cause
  | some .report => s.endReport cause
  | none => s

/-- A seizure try finds no dial tone (R50). -/
def State.tryFails (s : State) : State :=
  if s.line.attempt = some 1 then s.releaseForRetry
  else (s.tally .seizeFailures).endOwner .noDialTone

/-- The guard has run out: a kept owner tries again, and otherwise the line is IDLE and grants (R46, R50). -/
def State.guardEnds (s : State) : State :=
  match s.line.owner with
  | some _ => s.enterSeizing
  | none => (s.updLine fun l => { l with phase := .idle, guardTimer := none }).grantWaiting

/-! ### The hook (R59 to R61) -/

/-- A flash (R61). -/
def State.flash (s : State) : State :=
  let t := (s.tally .hookFlashes).raise .hook
  if s.customerOwns then t.addStatus RatingFlag.hookFlash.only else t

/-- The debounced hook input changes to on-hook (R59). -/
def State.hookOn (s : State) : State :=
  match s.hook.phase with
  | .offHook =>
    s.updHook fun h =>
      { h with phase := .onHook, flashTimer := s.later s.setup.settings.hookFlashLimit }
  | _ => s

/-- The debounced hook input changes to off-hook (R59). -/
def State.hookOff (s : State) : State :=
  let t := s.updHook fun h => { h with phase := .offHook, flashTimer := none }
  match s.hook.phase with
  | .offHook => s
  | .onHook => t.flash
  | .cleared => (t.tally .offHooks).raise .hook

/-- The number, or the call and with it the number, ends at a hook clear (R39, R60). -/
def State.endAtClear (s : State) : State :=
  if s.customerOwns then s.endCall .localClear
  else if s.number.phase = .empty then s
  else s.endNumber

/-- A hook clear (R59, R60). -/
def State.hookClear (s : State) : State :=
  s.thenTest fun s =>
    ((((s.updHook fun h => { h with phase := .cleared, flashTimer := none }).raise .hook).forfeit).requestRefund
      ).endAtClear

/-! ### Line lost (R62) -/

/-- The line is qualified LOST (R62): the owner's call ends, then LINE_LOST is an occurrence, and then its reason is
added. The rule names no order among the three: DESIGN CHOICE, log entry 38. -/
def State.lineLost (s : State) : State :=
  ((((s.updLine fun l => { l with status := .lost, qualifyTimer := none }).endOwner .lineLost).occurrence
    .lineLost).addReason .lineLost)

/-- The line is qualified PRESENT again (R62). -/
def State.lineFound (s : State) : State :=
  (s.updLine fun l => { l with status := .present, qualifyTimer := none }).removeReason .lineLost

end Sys2Proof.Machine
end

