-- ==== Sys2Proof/Machine/TamperMonitor.lean ====
section
/-! DEFINITION. The tamper monitor: statuses and edges (R105, R107, R109, R110), the standing conditions (R108,
R120), the collection session (R137 to R140) and the vault exchange (R141); and the effects of a reload on
the blocks (R183). -/

namespace Sys2Proof.Machine

/-! ### Statuses -/

/-- The status of an input at a debounced level: ACTIVE when it equals the active level (R105). -/
def Settings.statusOf (t : Settings) (i : TamperInput) (high : Bool) : Bool := t.activeLevels.get i == high

/-- The tamper switch of an input changes. -/
def State.updSwitch (s : State) (i : TamperInput) (f : TamperSwitch → TamperSwitch) : State :=
  s.updTamper fun t => t.put i (f (t.get i))

/-- One occurrence for each standing condition of the door, the housing and the vault (R108, R120), in this order
where R111 leaves it open: DESIGN CHOICE, log entry 36. -/
def State.standingConditions (s : State) : State :=
  let s := if s.tamper.door.active then s.occurrence .doorForced else s
  let s := if s.tamper.housing.active then s.occurrence .housingOpen else s
  if s.tamper.vault.active then s else s.occurrence .vaultRemoved

/-! ### The session (R138, R140) -/

/-- A session opens (R138); the test of an owed close follows if it has changed the purse (R142). -/
def State.openSession (s : State) : State :=
  s.thenTest fun s =>
    (((((s.endCustomerCall .session).updTamper fun t => { t with sessionOpen := true }).forfeit).requestRefund
      ).addReason .sessionOpen).updTamper fun t => { t with vaultOut := !t.vault.active }

/-- The summary rating field and cash-suspect are cleared; a change queues a write-back (R93, R140, R146). -/
def State.clearSummary (s : State) : State :=
  if s.cash.summary = 0#8 ∧ s.cash.suspect = false then s
  else (s.updCash fun c => { c with summary := 0#8, suspect := false }).cashChanged

/-- The alarm table clears every kind that is REPORTED or NOTED (R119, R120). -/
def State.clearAlarms (s : State) : State :=
  if s.alarms.clearableCount = 0 then s
  else ((s.updAlarms AlarmState.clearAll).raise .alarm).cashChanged

/-- A session closes (R140). -/
def State.closeSession (s : State) : State :=
  let t := (s.updTamper fun t => { t with sessionOpen := false }).removeReason .sessionOpen
  let t := if t.pins.flapHome then t.removeReason .escrowJammed else t
  (t.clearSummary.clearAlarms.standingConditions).updTamper fun t => { t with vaultOut := false }

/-! ### Edges -/

/-- A collection close is owed; an exchange completed while one is owed already changes nothing (R142, R146). -/
def State.oweClose (s : State) : State :=
  if s.cash.closeOwed then s else (s.updCash fun c => { c with closeOwed := true }).cashChanged

/-- A VAULT edge: a removal outside a session, or a step of the vault exchange inside one (R107, R141). -/
def State.vaultEdge (s : State) (active : Bool) : State :=
  if s.tamper.sessionOpen then
    if active then
      if s.tamper.vaultOut then
        ((s.updTamper fun t => { t with vaultOut := false }).oweClose).closeTest
      else s
    else s.updTamper fun t => { t with vaultOut := true }
  else if active then s
  else s.occurrence .vaultRemoved

/-- A CORD edge starts or stops the onset timer and clears the raised mark (R109). -/
def State.cordEdge (s : State) (active : Bool) : State :=
  s.updTamper fun t =>
    { t with cordRaised := false, cordTimer := if active then s.later Config.cordOnsetMs else none }

/-- The shock window with a new edge: older times removed, the new one appended (R110). -/
def shockTimes (window : List Nat) (now : Nat) : List Nat :=
  (window.filter fun t => decide (now < t + Config.shockWindowMs)) ++ [now]

/-- An active edge of SHOCK (R110). -/
def State.shockEdge (s : State) : State :=
  let w := shockTimes s.tamper.shockWindow s.now
  if 3 ≤ w.length then (s.updTamper fun t => { t with shockWindow := [] }).occurrence .shock
  else s.updTamper fun t => { t with shockWindow := w }

/-- The detections act on an edge of an input's status (R107, R109, R110, R137, R141). -/
def State.actOnEdge (s : State) (i : TamperInput) (active : Bool) : State :=
  match i with
  | .door => if active && !s.tamper.sessionOpen then s.occurrence .doorForced else s
  | .housing => if active && !s.tamper.sessionOpen then s.occurrence .housingOpen else s
  | .vault => s.vaultEdge active
  | .cord => s.cordEdge active
  | .shock => if active then s.shockEdge else s
  | .key =>
    if active then (if s.tamper.sessionOpen then s else s.openSession)
    else (if s.tamper.sessionOpen then s.closeSession else s)

/-- The status of an input follows its debounced level, and a change is an edge (R105, R106). -/
def State.followLevel (s : State) (i : TamperInput) : State :=
  match (s.tamper.get i).debounce.level with
  | none => s
  | some high =>
    let active := s.setup.settings.statusOf i high
    if s.tamper.firstSet && active != (s.tamper.get i).active then
      (s.updSwitch i fun w => { w with active := active }).actOnEdge i active
    else s

/-- The debounced level of an input changes to the raw level (R105). -/
def State.settleLevel (s : State) (i : TamperInput) : State :=
  (s.updSwitch i fun w => { w with debounce := ⟨some (s.pins.tamper.get i), none⟩ }).followLevel i

/-! ### The first statuses (R105, R108) -/

/-- The input has a first level, or one whose debounce runs. -/
def TamperSwitch.ready (w : TamperSwitch) : Bool := w.debounce.level.isSome || w.debounce.timer.isSome

/-- The moment at which every input has held its first level. -/
def TamperState.firstMoment (t : TamperState) : Nat :=
  (tamperInputs.filterMap fun i =>
    if (t.get i).debounce.level.isNone then (t.get i).debounce.timer else none).foldl max 0

/-- The debounced level of an input at the moment of the first statuses: a debounce that has run out has set
it. -/
def Debounce.atMoment (d : Debounce) (raw : Bool) (now : Nat) : Debounce :=
  match d.timer with
  | some t => if t ≤ now then ⟨some raw, none⟩ else d
  | none => d

/-- An input takes its first level and its status from it, without an edge (R105). -/
def State.firstLevel (s : State) (i : TamperInput) : State :=
  let d := (s.tamper.get i).debounce.atMoment (s.pins.tamper.get i) s.now
  s.updSwitch i fun _ => ⟨d, s.setup.settings.statusOf i (d.level.getD (s.pins.tamper.get i))⟩

/-- The first statuses are acted on (R108). -/
def State.actOnFirst (s : State) : State :=
  let t := if s.tamper.key.active then s.openSession else s.standingConditions
  if t.tamper.cord.active then t.cordEdge true else t

/-- The first statuses are set and acted on, and the start ends with the close-owed test (R108, R142, R186). -/
def State.firstStatuses (s : State) : State :=
  let t := tamperInputs.foldl State.firstLevel s
  let t := (t.updTamper fun w => { w with firstSet := true }).actOnFirst
  (t.updPower fun p => { p with phase := .ended }).closeTest

/-! ### A successful reload (R183) -/

/-- The fill levels are evaluated against the new settings (R22). -/
def State.reloadFill (s : State) : State :=
  let count := s.cash.vaultCoins
  let t := if count < s.setup.settings.vaultCapacity then s.removeReason .vaultFull else s.addReason .vaultFull
  if count < s.setup.settings.fillLevel then t.updCoin fun c => { c with fillWarned := false }
  else if s.coin.fillWarned then t
  else t.warnFill

/-- The report enables are applied to the alarm table, and the report caller checks the queue (R121, R125). -/
def State.reloadAlarms (s : State) : State :=
  let enables := s.setup.settings.reportEnables
  if s.alarms.reload enables = s.alarms then s
  else (((s.updAlarms fun a => a.reload enables).raise .alarm).cashChanged).checkQueue

/-- A DIAL_LOW threshold of 0 clears the flag and the armed mark at once (R40, R183). -/
def State.reloadThreshold (s : State) : State :=
  if s.setup.settings.dialLowThreshold = 0 then
    (s.updNumber fun n => { n with lowArmed := false }).lower .dialLow
  else s

/-- A moved CASH area queues a write-back (R151). -/
def State.reloadCashBase (s : State) (old : Nat) : State :=
  if s.setup.settings.bases.cash = old then s else s.cashChanged

/-- A moved RECORDS area (R102). -/
def State.reloadRecordsBase (s : State) (old : Nat) : State :=
  if s.setup.settings.bases.records = old then s else s.moveRecords s.setup.settings.bases.records

/-- The new settings replace the current ones and each block applies them by its own rule (R183): the fill levels
(R22), SETUP_INVALID (R23), the RECORDS base (R102), the edges of changed active levels (R106), the report enables
(R121), the CASH base (R151) and the DIAL_LOW threshold (R40). The rules name no order among them: DESIGN CHOICE, log
entry 39. -/
def State.applySettings (s : State) (new : Settings) : State :=
  let t := s.updSetup fun u => { u with settings := new, lastLoad := .file }
  let t := (t.reloadFill.removeReason .setupInvalid).reloadRecordsBase s.setup.settings.bases.records
  (((tamperInputs.foldl State.followLevel t).reloadAlarms).reloadCashBase s.setup.settings.bases.cash
    ).reloadThreshold

end Sys2Proof.Machine
end

