-- ==== Sys2Proof/Machine/StartUp.lean ====
section
/-! DEFINITION. The starts: the loss of state while the part is held and the start conditions (R184, R185), the
end of the setup load (R178, R182), of the ring header read (R97) and of the restore read with steps 4 to 8
(R149, R150, R185), the waits for first levels (R186), and the service restart (R187). -/

namespace Sys2Proof.Machine

/-! ### Loss of state and the beginning of a start (R184, R185) -/

/-- Every block in its start condition. Memory, the pins, the timebase, the calendar clock, the host accesses
in bus wait and the queue of commands stay (log entry 15). Until the setup load has ended the settings are the
built-in ones and the kind of the last load reads BUILT_IN: DESIGN CHOICE, log entry 8. -/
def State.wiped (s : State) : State :=
  { s with
    power := { s.power with phase := .setupLoad }
    setup := ⟨builtInSettings, .builtIn, none⟩
    coin := coinAtStart
    lever := debounceAtStart
    number := numberAtStart
    emitter := emitterAtStart
    line := lineAtStart s.now s.pins
    hook := hookAtStart
    rating := ratingAtStart
    records := recordsAtStart builtInSettings.bases.records
    tamper := tamperAtStart
    alarms := alarmsAtStart
    report := reportAtStart
    cash := cashAtStart
    path := { s.path with partQueue := [], partOwed := false, tallies := [] }
    status := ⟨0#16, 0#16⟩
    mailbox := ⟨none⟩ }

/-- A power-on or reset-line start begins: start conditions, the start cause, and step 1 (R185). -/
def State.beginStart (s : State) (cause : StartCause) : State :=
  ((s.wiped.updPower fun p => { p with cause := cause }).updSetup fun u =>
    { u with load := some ⟨.start, []⟩ }).join .setupLoader

/-! ### Step 1: the setup load (R178 to R182) -/

/-- The settings that a load at a start gives, with the kind of the load (R178, R182). -/
def startSettings (ws : List Word) : Settings × LoadKind :=
  if setupChecks ws && layoutValid (basesAt ws) then ((settingsOf ws).value, .file)
  else (builtInSettings, .builtIn)

/-- Step 2 begins: the ring header read at the RECORDS base of the settings (R97, R185). -/
def State.beginHeaderRead (s : State) : State :=
  ((s.updRecords fun r => { r with base := s.setup.settings.bases.records, headerRead := some [] }).updPower
    fun p => { p with phase := .headerRead }).join .recordWriter

/-- The setup load of a start has read its last word (R178, R182, R185). -/
def State.setupLoadDone (s : State) (ws : List Word) : State :=
  let got := startSettings ws
  let t := s.updSetup fun _ => ⟨got.1, got.2, none⟩
  let t := t.updStatus fun st => { st with mask := got.1.defaultMask }
  let t := if got.2 = .builtIn then t.addReason .setupInvalid else t
  t.beginHeaderRead

/-! ### Step 2: the ring header read (R97) -/

/-- The header read has read its last word: the indices are taken or the header is rewritten, and the
restore read begins (R97, R185). -/
def State.headerReadDone (s : State) (ws : List Word) : State :=
  ((((s.updRecords fun r => r.fromHeader ws).updPower fun p => { p with phase := .restoreRead }).updCash
    fun c => { c with restore := some [] }).join .recordWriter).join .cashStore

/-! ### Step 3 to 8: the restore (R149, R185) -/

/-- Cash-suspect and CASH are set when the check fails or a value had to be brought within limits (R149,
R150). -/
def suspectRestore (values : List Nat) (ws : List Word) : Bool :=
  !restoreChecks ws || outsideLimits values ws

/-- Step 3: the image takes its items as read (R149, R150). -/
def State.restoreImage (s : State) (ws : List Word) : State :=
  let t := (s.updCash fun _ => restoredCash ws).updPower fun p => { p with phase := .inputWait }
  if suspectRestore s.setup.settings.classValues ws then
    (t.updCash fun c => { c with suspect := true }).raise .cash
  else t

/-- Step 4: the purse, the escrow and the gate are taken from the image, and the vault levels are derived
(R22, R24). -/
def State.restorePurse (s : State) (ws : List Word) : State :=
  let values := s.setup.settings.classValues
  let t := s.updCoin fun c =>
    { c with escrow := restoredEscrow values ws, gate := restoredGate values ws,
             banked := restoredBanked values ws,
             fillWarned := decide (s.setup.settings.fillLevel ≤ s.cash.vaultCoins) }
  if s.setup.settings.vaultCapacity ≤ s.cash.vaultCoins then t.addReason .vaultFull else t

/-- Step 5: the alarm table is rebuilt from the mirror, a change of an entry is handed to the cash store, and
the report caller checks the queue (R122, R125). A run that an occurrence before the rebuild has begun stays, with its
request, even over an empty queue: DESIGN CHOICE, log entry 43. -/
def State.restoreAlarms (s : State) (ws : List Word) : State :=
  let rebuilt := rebuiltAlarms ws
  let t := s.updAlarms fun _ => rebuilt
  (if alarmWords rebuilt = (ws.drop 42).take 66 then t else t.cashChanged).checkQueue

/-- The record of the call that a loss of power left open (R103). -/
def State.powerLostRecord (s : State) (o : OpenCall) : CallRecord where
  kind := o.kind.recordKind
  cause := .powerLost
  zone := o.zone
  number := none
  seizeTime := o.seizeTime
  answerTime := none
  endTime := s.calendar
  units := none
  charge := o.charge
  coins := none
  flags := o.flags
  calls := 1
  alarms := none

/-- Step 6: a call left open in the mirror is closed with POWER_LOST (R103). -/
def State.closePowerLost (s : State) : State :=
  match s.cash.openCall with
  | some o => ((s.trapCheck o.flags).clearMirror).offerRecord (s.powerLostRecord o)
  | none => s

/-- Step 8: the restored escrow and gate coin are refunded (R24). -/
def State.restoreRefund (s : State) : State :=
  if s.coin.escrow = [] then
    match s.coin.gate with
    | some _ => s.moveGate.requestRefund
    | none => s
  else if s.coin.gate.isSome then s.requestRefund.requestRefund
  else s.requestRefund

/-- The debounce of each input that waits for a first level runs from now (R186, log entry 13). -/
def State.awaitLevels (s : State) : State :=
  let hook := s.later s.setup.settings.hookDebounce
  let tamper := s.later s.setup.settings.tamperDebounce
  let t := (s.updLever fun d => { d with timer := hook }).updHook fun h =>
    { h with debounce := { h.debounce with timer := hook } }
  tamperInputs.foldl
    (fun t i => t.updSwitch i fun w => { w with debounce := { w.debounce with timer := tamper } }) t

/-- The restore read has read its last word: its check, and steps 4 to 8 of the start (R149, R185). -/
def State.restoreDone (s : State) (ws : List Word) : State :=
  (((((((s.restoreImage ws).restorePurse ws).restoreAlarms ws).closePowerLost).forfeit).restoreRefund
    ).awaitLevels)

/-! ### The service restart (R187) -/

/-- Step 1: a customer call ends with RESTART, or a report attempt is abandoned (R63, R136). -/
def State.restartLine (s : State) : State :=
  match s.line.owner with
  | some .customer => s.endCall .restart
  | some .report => s.endReport .restart
  | none => s

/-- Step 3: the number ends and its FIFO is emptied, if step 1 has not done so (R39, R187). -/
def State.restartNumber (s : State) : State := if s.number.phase = .empty then s else s.endNumber

/-- The emitter is IDLE with the tone output off at a service restart (R41). -/
def State.restartEmitter (s : State) : State := s.abandonItem.endPips

/-- A service restart (R25, R142, R187). -/
def State.serviceRestart (s : State) : State :=
  s.thenTest fun s =>
    ((((s.restartLine.restartEmitter).forfeit).requestRefund).restartNumber).updPower fun p =>
      { p with cause := .restart }

end Sys2Proof.Machine
end

