-- ==== Sys2Proof/Machine/MailboxOps.lean ====
section
/-! DEFINITION. The mailbox: posting a command (R169, R171), what each command does at step 4 (R172 to R177),
the end of a reload's reading (R176, R183), and the memory work of a command in hand (R170). -/

namespace Sys2Proof.Machine

/-! ### Result codes (chapter 10.4) -/

def resultOk : Word := 1#16
def resultBusy : Word := 2#16
def resultRefused : Word := 3#16
def resultBadArgument : Word := 4#16
def resultUnknown : Word := 5#16
def resultSetupBad : Word := 6#16

/-- The command in hand changes. -/
def State.updCommand (s : State) (f : Command → Command) : State :=
  s.updMailbox fun m => { m with command := m.command.map f }

/-- The outcome of a command: its result and data word 1, after which the response is written (R170). -/
def State.answerCommand (s : State) (result : Word) (data1 : Word) : State :=
  s.updCommand fun c => { c with step := .respond 0, result := result, data := [data1] }

/-! ### Posting (R169, R171) -/

/-- A non-zero value posted in FREE is taken as a command (R169, R170 step 1). -/
def State.takeCommand (s : State) (code : Word) : State :=
  ((s.lower .mailboxDone).updMailbox fun _ =>
    ⟨some { code := code, base := s.setup.settings.bases.mailbox, arguments := [], step := .readArguments,
            result := 0#16, data := [] }⟩).join .mailbox

/-- A write of MAILBOX word 0 passes to memory unless it is a non-zero value in TAKEN (R169, R171). -/
def State.postPasses (s : State) (code : Word) : Bool := code == 0#16 || s.mailbox.command.isNone

/-- The action of a write of MAILBOX word 0 (R157, R169, R171). -/
def State.postCommand (s : State) (code : Word) : State :=
  if code = 0#16 then s
  else if s.mailbox.command.isSome then s.raise .mailboxRefused
  else s.takeCommand code

/-! ### The commands (R172 to R177) -/

/-- SET_MASK (R172). -/
def State.commandSetMask (s : State) (mask : Word) : State :=
  (s.updStatus fun st => { st with mask := mask }).answerCommand resultOk s.status.mask

/-- The length of a month for the check of SET_CLOCK: month 2 has 29 days (R68). -/
def settableLength (month : Nat) : Nat := if month = 2 then 29 else monthLength month

/-- Every field of a SET_CLOCK lies in its range, judged over its whole width (R68, chapter 12.6). -/
def clockInRange (date weekday hour minute second : Word) : Bool :=
  let month := (highByte date).toNat
  let day := (lowByte date).toNat
  decide (1 ≤ month) && decide (month ≤ 12) && decide (1 ≤ day) && decide (day ≤ settableLength month)
    && decide (1 ≤ weekday.toNat) && decide (weekday.toNat ≤ 7) && decide (hour.toNat ≤ 23)
    && decide (minute.toNat ≤ 59) && decide (second.toNat ≤ 59)

/-- The clock as SET_CLOCK sets it at moment `now` (R68). -/
def clockSet (now : Nat) (date weekday hour minute second : Word) : Clock where
  month := (highByte date).toNat
  day := (lowByte date).toNat
  weekday := weekday.toNat
  hour := hour.toNat
  minute := minute.toNat
  second := second.toNat
  isSet := true
  nextAt := now + Config.secondMs

/-- SET_CLOCK (R68, R172). -/
def State.commandSetClock (s : State) (date weekday hour minute second : Word) : State :=
  if clockInRange date weekday hour minute second then
    (s.updClock fun _ => clockSet s.now date weekday hour minute second).answerCommand resultOk 0#16
  else s.answerCommand resultBadArgument 0#16

/-- END_CALL (R173). -/
def State.commandEndCall (s : State) : State :=
  if s.customerOwns then (s.endCall .hostEnd).answerCommand resultOk 0#16
  else s.answerCommand resultRefused 0#16

/-- The report caller takes a REPORT_NOW in this state (R127). -/
def ReportPhase.takesReportNow (p : ReportPhase) : Bool := p == .idle || p == .retryWait || p == .held

/-- The effect of a REPORT_NOW that is taken (R127). -/
def State.reportNow (s : State) : State :=
  (if s.alarms.queue = [] then s.updReport fun r => { r with statusMark := true } else s).beginRun

/-- REPORT_NOW (R127, R174). -/
def State.commandReportNow (s : State) : State :=
  let kinds := wordOf s.alarms.queue.length
  if s.report.phase.takesReportNow then s.reportNow.answerCommand resultOk kinds
  else s.answerCommand resultBusy kinds

/-- A clear of one kind by CLEAR_ALARM (R119, R175). -/
def State.clearKind (s : State) (k : AlarmKind) : State :=
  let p := (s.alarms.get k).phase
  if p.clearable then
    (((s.updAlarms fun a => a.clear k).raise .alarm).cashChanged).answerCommand resultOk 1#16
  else if p = .quiet then s.answerCommand resultOk 0#16
  else s.answerCommand resultRefused 0#16

/-- CLEAR_ALARM (R119, R175). -/
def State.commandClearAlarm (s : State) (kind : Word) : State :=
  if kind = 0#16 then s.clearAlarms.answerCommand resultOk (wordOf s.alarms.clearableCount)
  else
    match AlarmKind.ofCode kind.toNat with
    | some k => s.clearKind k
    | none => s.answerCommand resultBadArgument 0#16

/-- The four conditions of a RELOAD_SETUP (R176). -/
def State.mayReload (s : State) : Bool :=
  s.line.phase == .idle && s.hook.phase == .cleared && s.coin.escrow.isEmpty && s.coin.gate.isNone
    && s.coin.banked == 0

/-- RELOAD_SETUP: answered BUSY, or the reading of the setup block begins (R176). -/
def State.commandReload (s : State) : State :=
  if s.mayReload then
    ((s.updCommand fun c => { c with step := .waitReload }).updSetup fun u =>
      { u with load := some ⟨.reload, []⟩ }).join .setupLoader
  else s.answerCommand resultBusy 0#16

/-- RESTART_SERVICE (R177, R187). -/
def State.commandRestart (s : State) : State := s.serviceRestart.answerCommand resultOk 0#16

/-- A code from 8 upward (chapter 10.5). -/
def State.commandUnknown (s : State) : State := s.answerCommand resultUnknown 0#16

/-- Step 4 of R170: the command is carried out by the rule for its code. -/
def State.carryOut (s : State) (c : Command) : State :=
  let arg := wordAt c.arguments
  match c.code.toNat with
  | 1 => s.commandSetMask (arg 0)
  | 2 => s.commandSetClock (arg 0) (arg 1) (arg 2) (arg 3) (arg 4)
  | 3 => s.commandEndCall
  | 4 => s.commandReportNow
  | 5 => s.commandClearAlarm (arg 0)
  | 6 => s.commandReload
  | 7 => s.commandRestart
  | _ => s.commandUnknown

/-! ### The end of a reload's reading (R176, R183) -/

/-- The outcome of a reload whose words have been read (R176, R178). -/
def State.reloadOutcome (s : State) (ws : List Word) : State :=
  if !s.mayReload then s.answerCommand resultBusy 0#16
  else if !setupChecks ws then s.answerCommand resultSetupBad 1#16
  else if !layoutValid (basesAt ws) then s.answerCommand resultSetupBad 2#16
  else (s.applySettings (settingsOf ws).value).answerCommand resultOk (wordOf (settingsOf ws).count)

/-- The load of a reload has read its last word; the response is then to be written (R170, R176). -/
def State.reloadDone (s : State) (ws : List Word) : State :=
  ((s.updSetup fun u => { u with load := none }).reloadOutcome ws).join .mailbox

/-! ### The memory work of a command in hand (R170) -/

/-- A word of the MAILBOX area at the base of the command in hand. -/
def Command.addr (c : Command) (k : Nat) : Nat := wordAddr c.base k

/-- Step 2: an argument word is read. -/
def State.readArgument (s : State) (c : Command) : State :=
  let args := c.arguments ++ [readWord s.mem (c.addr (c.arguments.length + 1))]
  s.updCommand fun c =>
    { c with arguments := args, step := if args.length < 5 then .readArguments else .clearSlot }

/-- Steps 3 and 4: word 0 is written as 0 and the command is carried out. -/
def State.clearSlot (s : State) (c : Command) : State := (s.storeWord (c.addr 0) 0#16).carryOut c

/-- The word that the response writes at its turn `k`: words 7 to 13, then word 6 (R170). -/
def Command.response (c : Command) (k : Nat) : Nat × Word :=
  if k = 0 then (7, c.code)
  else if k < 7 then (7 + k, wordAt c.data (k - 1))
  else (6, c.result)

/-- Steps 5 and 6: a response word is written; after word 6 the mailbox is FREE (R170). -/
def State.writeResponse (s : State) (c : Command) (k : Nat) : State :=
  let t := s.storeWord (c.addr (c.response k).1) (c.response k).2
  if k < 7 then t.updCommand fun c => { c with step := .respond (k + 1) }
  else (t.updMailbox fun _ => ⟨none⟩).raise .mailboxDone

/-- One word of the mailbox's memory work (R170). -/
def State.mailboxWord (s : State) : State :=
  match s.mailbox.command with
  | none => s
  | some c =>
    match c.step with
    | .readArguments => s.readArgument c
    | .clearSlot => s.clearSlot c
    | .waitReload => s
    | .respond k => s.writeResponse c k

end Sys2Proof.Machine
end

