-- ==== Sys2Proof/Machine/PortArbiter.lean ====
section
/-! DEFINITION. The memory port arbiter: the word operation of each requester (R161), the part turn (R162) and
runs of part turns up to a word that ends a run of work (log entry 3). -/

namespace Sys2Proof.Machine

/-! ### The word operations (R161) -/

/-- The setup loader reads a word of the setup block (R178). -/
def State.loaderWord (s : State) : State :=
  match s.setup.load with
  | none => s
  | some l =>
    let ws := l.words ++ [readWord s.mem (wordAddr Config.setupBase l.words.length)]
    if ws.length < Config.setupWords then s.updSetup fun u => { u with load := some { l with words := ws } }
    else
      match l.purpose with
      | .start => s.setupLoadDone ws
      | .reload => s.reloadDone ws

/-- The cash store reads a word of the CASH area in the restore read (R149). -/
def State.restoreWord (s : State) (got : List Word) : State :=
  let ws := got ++ [readWord s.mem (wordAddr s.setup.settings.bases.cash got.length)]
  if ws.length < Config.cashWords then s.updCash fun c => { c with restore := some ws }
  else s.restoreDone ws

/-- The first word of a write-back: the write copy is taken and the odd sequence is written (R146, R147). -/
def State.beginWriteBack (s : State) : State :=
  let base := s.setup.settings.bases.cash
  (s.storeWord (wordAddr base 0) (s.cash.sequence + 1#16)).updCash fun c =>
    { c with phase := .writing, again := false, copyWords := cashFields s, copyBase := base, written := 1 }

/-- The last word of a write-back: the sequence advances, and the state is QUEUED or IDLE (R146, R147). -/
def State.endWriteBack (s : State) : State :=
  (s.storeWord (wordAddr s.cash.copyBase 0) (s.cash.sequence + 2#16)).updCash fun c =>
    { c with sequence := c.sequence + 2#16, phase := if c.again then .queued else .idle, again := false,
             written := 0 }

/-- The word a write-back writes at offset `k`: a field word, or the check word (R147). -/
def CashState.copyWord (c : CashState) (k : Nat) : Word :=
  if k < Config.cashWords - 1 then wordAt c.copyWords (k - 1) else sumWords c.copyWords

/-- One word of a write-back, in the order of R147. -/
def State.writeBackWord (s : State) : State :=
  match s.cash.phase with
  | .idle => s
  | .queued => s.beginWriteBack
  | .writing =>
    if s.cash.written < Config.cashWords then
      (s.storeWord (wordAddr s.cash.copyBase s.cash.written) (s.cash.copyWord s.cash.written)).updCash
        fun c => { c with written := c.written + 1 }
    else s.endWriteBack

/-- One word of the cash store. -/
def State.cashWord (s : State) : State :=
  match s.cash.restore with
  | some got => s.restoreWord got
  | none => s.writeBackWord

/-- One word of the record writer: the header read, or its job in hand (R97, R98). -/
def State.recordWord (s : State) : State :=
  match s.records.headerRead with
  | some got =>
    let ws := got ++ [readWord s.mem (wordAddr s.records.base got.length)]
    if ws.length < 4 then s.updRecords fun r => { r with headerRead := some ws } else s.headerReadDone ws
  | none =>
    match s.records.jobs with
    | [] => s
    | j :: _ => s.recordJobWord j

/-- The offset in the TARIFF area of word `k` of a read run, and the number of its words (R30, R33). -/
def AnalyserJob.offset : AnalyserJob → Nat → Nat
  | .prefixMatch _, k => 512 + k
  | .zoneEntry z, k => 16 * z + k

def AnalyserJob.size : AnalyserJob → Nat
  | .prefixMatch _ => 256
  | .zoneEntry _ => 16

/-- A read run of the number analyser has read its last word. -/
def State.analyserDone (s : State) (r : AnalyserRead) (ws : List Word) : State :=
  let t := s.updNumber fun n => { n with reads := n.reads.tail }
  match r.job with
  | .prefixMatch digits => t.prefixMatchDone digits ws r.discarded
  | .zoneEntry _ => t.zoneEntryDone ws r.discarded

/-- One word of the number analyser (R31, R33). -/
def State.analyserWord (s : State) : State :=
  match s.number.reads with
  | [] => s
  | r :: rest =>
    let at0 := wordAddr s.setup.settings.bases.tariff (r.job.offset r.words.length)
    let ws := r.words ++ [readWord s.mem at0]
    if ws.length < r.job.size then s.updNumber fun n => { n with reads := { r with words := ws } :: rest }
    else s.analyserDone r ws

/-- One word of the rating engine: the band map and the holiday list (R65). -/
def State.ratingWord (s : State) : State :=
  match s.rating.reads with
  | [] => s
  | r :: rest =>
    let ws := r.words ++ [readWord s.mem (wordAddr s.setup.settings.bases.tariff (256 + r.words.length))]
    if ws.length < 88 then s.updRating fun x => { x with reads := { r with words := ws } :: rest }
    else (s.updRating fun x => { x with reads := rest }).snapshotDone r.entry ws r.discarded

/-- The word of a tally in the TALLY area (R158). -/
def State.tallyAddr (s : State) (index : Nat) : Nat := wordAddr s.setup.settings.bases.tally index

/-- One indivisible read-add-write of the tally logic (R159). -/
def State.tallyWord (s : State) : State :=
  match s.path.tallies with
  | [] => s
  | e :: rest =>
    let at0 := s.tallyAddr e.tally.index
    let old := (readWord s.mem at0).toNat
    (s.updPath fun p => { p with tallies := rest }).storeWord at0 (wordOf (saturate16 (old + e.amount)))

/-- The word operation of a requester (R161). -/
def State.wordOperation (s : State) : Requester → State
  | .setupLoader => s.loaderWord
  | .cashStore => s.cashWord
  | .recordWriter => s.recordWord
  | .numberAnalyser => s.analyserWord
  | .ratingEngine => s.ratingWord
  | .mailbox => s.mailboxWord
  | .tallyLogic => s.tallyWord

/-- A requester has a further word ready (R161). -/
def State.hasWord (s : State) : Requester → Bool
  | .setupLoader => s.setup.load.isSome
  | .cashStore => s.cash.restore.isSome || s.cash.phase != .idle
  | .recordWriter => s.records.headerRead.isSome || !s.records.jobs.isEmpty
  | .numberAnalyser => !s.number.reads.isEmpty
  | .ratingEngine => !s.rating.reads.isEmpty
  | .mailbox =>
    match s.mailbox.command with
    | some c => c.step != .waitReload
    | none => false
  | .tallyLogic => !s.path.tallies.isEmpty

/-! ### Turns (R161, R162) -/

/-- The requester that has had its turn joins again if it has a further word ready (R161). -/
def State.rejoin (s : State) (r : Requester) : State := if s.hasWord r then s.join r else s

/-- A part turn: the requester at the oldest end carries out one word operation, leaves the queue, and joins again
at the newest end if it has a further word, behind those that the operation has readied; and the part-owed mark is
cleared (R161, R162). While the part is held, or with nothing queued, there is none. -/
def State.partTurn (s : State) : State :=
  if s.isHeld then s
  else
    match s.path.partQueue with
    | [] => s
    | r :: _ =>
      ((((s.wordOperation r).updPath fun p => { p with partQueue := p.partQueue.tail }).rejoin r).updPath
        fun p => { p with partOwed := false })

/-- Turns until the state is ready for the last one, and then that turn; none when the state is not reached
(log entry 3). -/
def runTo (turn : State → State) (ready : State → Bool) : Nat → State → Option State
  | 0, _ => none
  | fuel + 1, s =>
    if ready s then some (turn s)
    else if s.path.partQueue = [] then none
    else runTo turn ready fuel (turn s)

/-- A requester stands at the oldest end of the part queue. -/
def State.isNext (s : State) (r : Requester) : Bool := s.path.partQueue.head? == some r

end Sys2Proof.Machine
end

