-- ==== Sys2Proof/Machine/LiveStatus.lean ====
section
/-! DEFINITION. The words of the LIVE area (R88, R89, R168, chapter 12.5). -/

namespace Sys2Proof.Machine

/-! ### Groups of live words -/

/-- Words 0 to 2 and 3 to 4: events and the mailbox. -/
def State.liveEvents (s : State) : List Word :=
  [s.status.flags, s.maskedFlags, s.status.mask, wordOf (bitNat s.mailbox.command.isSome),
   match s.mailbox.command with
   | some c => c.code
   | none => 0#16]

/-- Words 5 to 14: service, purse and coins. -/
def State.livePurse (s : State) : List Word :=
  [wordOf (s.coin.reasons.toNat + 32768 * bitNat s.coin.reasons.unavailable),
   wordOf s.inhibitReasons.toNat, wordOf s.coin.totalCredit, wordOf s.coin.banked,
   wordOf s.coin.escrow.length, wordOf s.coin.escrowValue, bcdWord s.coin.totalCredit,
   wordOf (bitNat (decide (9999 < s.coin.totalCredit))), wordOf s.cash.vaultCoins,
   bytesWord s.coin.request.code s.coin.op.code]

/-- The length of the number, absent with no number (R168). -/
def State.liveLength (s : State) : Option Nat :=
  if s.number.phase = .empty then none else some s.number.digits.length

/-- Words 15 to 20: hook, line and number. -/
def State.liveLine (s : State) : List Word :=
  [bytesWord s.line.status.code s.hook.phase.code,
   bytesWord (optByte (s.line.owner.map Owner.code)) s.line.phase.code,
   bytesWord (optByte (s.number.cause.map RefusalCause.code)) s.number.phase.code,
   optWord s.number.zone, optWord s.liveLength, wordOf s.number.fifo.length]

/-- The unit whose band and Ueff are shown: the current unit under INTERNAL rating, the latest charged pulse
under METERING (R89). -/
def State.shownUnit (s : State) : Option RatedUnit :=
  match s.rating.context with
  | some c =>
    match s.setup.settings.ratingSource with
    | .internal => c.unit
    | .metering => c.lastPulse
  | none => none

/-- Whole seconds left on the grace timer, rounded up; 0 out of grace and while the cut waits (R89). -/
def State.graceRemaining (s : State) : Nat :=
  match s.rating.context with
  | some c =>
    match c.graceTimer with
    | some t => (t - s.now + 999) / 1000
    | none => 0
  | none => 0

/-- Words 21 to 28: rating (R89). The call status field is absent with no context (log entry 22). -/
def State.liveRating (s : State) : List Word :=
  [optWord s.number.zone, optWord (s.shownUnit.map fun u => u.band.code),
   optWord (s.shownUnit.map RatedUnit.charge),
   wordOf ((s.rating.context.map RatingContext.units).getD 0),
   wordOf ((s.rating.context.map RatingContext.total).getD 0),
   wordOf (((s.rating.context.bind RatingContext.charge).map Charge.amount).getD 0),
   wordOf s.graceRemaining, optWord (s.rating.context.map fun c => c.status.toNat)]

/-- Words 29 to 31: summary, session and tamper statuses. -/
def State.liveCash (s : State) : List Word :=
  [wordOf s.cash.summary.toNat,
   wordOf (bitNat s.tamper.sessionOpen + 2 * bitNat s.tamper.vaultOut + 4 * bitNat s.cash.closeOwed
     + 8 * bitNat s.cash.suspect),
   wordOf (TamperLevels.toNat ⟨s.tamper.door.active, s.tamper.housing.active, s.tamper.vault.active,
     s.tamper.cord.active, s.tamper.shock.active, s.tamper.key.active⟩)]

/-- The word of one alarm kind: state, condition-active and count. -/
def State.liveAlarm (s : State) (k : AlarmKind) : Word :=
  wordOf ((s.alarms.get k).phase.code * 4096 + 256 * bitNat (s.conditionActive k)
    + (s.alarms.get k).count % 128)

/-- Words 32 to 47: the alarm kinds and the queue. -/
def State.liveAlarms (s : State) : List Word :=
  AlarmKind.all.map s.liveAlarm ++ [wordOf s.alarms.queue.length]
    ++ packNibbles 0xF 3 (s.alarms.queue.map AlarmKind.code)

/-- Words 48 to 52: reporting, the clock and the start cause. -/
def State.liveReport (s : State) : List Word :=
  [bytesWord s.report.attempts s.report.phase.code, bytesWord s.clock.month s.clock.day,
   bytesWord s.clock.hour s.clock.minute,
   wordOf (s.clock.second + 256 * s.clock.weekday + 32768 * bitNat s.clock.isSet),
   wordOf s.power.cause.code]

/-- The words of the LIVE area that show something, in order of offset (chapter 12.5). -/
def State.liveWords (s : State) : List Word :=
  s.liveEvents ++ s.livePurse ++ s.liveLine ++ s.liveRating ++ s.liveCash ++ s.liveAlarms ++ s.liveReport

/-- A word of the LIVE area; words with no content read as 0 (R156, R168). -/
def State.liveWord (s : State) (k : Nat) : Word := wordAt s.liveWords k

end Sys2Proof.Machine
end

