-- ==== Sys2Proof/Machine/HostPath.lean ====
section
/-! DEFINITION. The path decoder: how each host access is classified and treated (R152 to R155), the actions of
the special words (R157), the fetch-add of the ALIAS area (R160), the host's turns at the port (R162) and
the bus wait (R164). -/

namespace Sys2Proof.Machine

/-! ### Classification (R152 to R155) -/

/-- A special word of R153 that a write acts on. -/
inductive SpecialWord where
  | commandPost
  | dialPost
  | eventClear
  | consumerIndex
deriving DecidableEq, Repr

/-- What becomes of a host write (R154). -/
inductive WriteTreatment where
  /-- passes to memory -/
  | pass
  /-- is dropped without further effect -/
  | drop
  /-- is dropped as a protected write (R155) -/
  | protect
  /-- acts as a special word with this value (R153) -/
  | special (word : SpecialWord) (value : Word)
deriving DecidableEq, Repr

/-- The special word at an offset of an area, if a write of it acts (R153). -/
def specialAt : AreaKind → Nat → Option SpecialWord
  | .mailbox, 0 => some .commandPost
  | .mailbox, 14 => some .dialPost
  | .mailbox, 15 => some .eventClear
  | .records, 1 => some .consumerIndex
  | _, _ => none

/-- The value a special word acts on: the word written, or the byte of its low lane with the high byte taken
as 0; a byte of the high lane does not act (R153). -/
def specialValue (addr : Nat) (size : AccessSize) (value : Word) : Option Word :=
  match size with
  | .word => some value
  | .byte => if addr % 2 = 0 then some (value &&& 0xFF#16) else none

/-- A write inside an area without protection: special where a special word acts, and else passed. -/
def treatOpen (b : AreaBases) (k : AreaKind) (addr : Nat) (size : AccessSize) (value : Word) :
    WriteTreatment :=
  match specialAt k (b.offset k addr), specialValue addr size value with
  | some w, some v => .special w v
  | _, _ => .pass

/-- The treatment of a host write by area, direction and the state that stands (R152, R154, R155). -/
def State.treatWrite (s : State) (addr : Nat) (size : AccessSize) (value : Word) : WriteTreatment :=
  let b := s.setup.settings.bases
  match b.areaAt addr with
  | none => .pass
  | some .cash => .protect
  | some .tariff => if s.tamper.sessionOpen then .pass else .protect
  | some .live => .drop
  | some .aliasWindow => .drop
  | some .tally => .pass
  | some .mailbox => treatOpen b .mailbox addr size value
  | some .records => treatOpen b .records addr size value

/-! ### Turns at the port (R162) -/

/-- A host access that uses the port waits for one part turn when the part-owed mark is set and part work
waits (R162). -/
def State.owesTurn (s : State) : Bool := s.path.partOwed && !s.path.partQueue.isEmpty

/-- The state in which an access that was taken in `s` has its turn at the port, where `a` is what its action has
left: after the part turn owed to the work that waited as it was taken (R162, log entry 9). -/
def State.atHostTurn (s a : State) : State := if s.owesTurn then a.partTurn else a

/-- The end of a host turn sets the part-owed mark (R162). -/
def State.hostTurnEnds (s : State) : State := s.updPath fun p => { p with partOwed := true }

/-- The course of an access that is taken in `s` and passes: its action on the part, at the moment it is taken
(R157); the part turn owed; and its own turn at the port (R162). The clearing of MAILBOX_DONE by a read of word 6
stands in that turn, for R170 has it come after a write of the word that goes first. -/
def State.passing (s : State) (action turn : State → State) : State :=
  (turn (s.atHostTurn (action s))).hostTurnEnds

/-- The word of a special word in memory: its address at the bases that stand when the access is taken (R152). -/
def State.specialAddr (s : State) : SpecialWord → Nat
  | .commandPost => wordAddr s.setup.settings.bases.mailbox 0
  | .dialPost => wordAddr s.setup.settings.bases.mailbox 14
  | .eventClear => wordAddr s.setup.settings.bases.mailbox 15
  | .consumerIndex => wordAddr s.setup.settings.bases.records 1

/-- A special write passes to memory, by the state in which it is taken (R99, R157, R171). -/
def State.specialPasses (s : State) (w : SpecialWord) (v : Word) : Bool :=
  match w with
  | .commandPost => s.postPasses v
  | .dialPost => true
  | .eventClear => true
  | .consumerIndex => s.records.takes v.toNat

/-- The action of a special word on the part (R157). -/
def State.specialAction (w : SpecialWord) (v : Word) (s : State) : State :=
  match w with
  | .commandPost => s.postCommand v
  | .dialPost => (s.postSymbol (lowByte v).toNat).emitNext
  | .eventClear => s.clearFlags v
  | .consumerIndex => if s.records.takes v.toNat then s.takeIndex v.toNat else s.refuseIndex

/-- A write of a special word: judged and acted on as it is taken. One that passes is written as a whole word
with the value acted on, at the address presented; one that is dropped uses no port and leaves the part-owed mark
(R152 to R154, R157, R162). -/
def State.takeSpecial (s : State) (w : SpecialWord) (v : Word) : State :=
  if s.specialPasses w v then s.passing (State.specialAction w v) fun t => t.storeWord (s.specialAddr w) v
  else State.specialAction w v s

/-- A write turn of the bytes of an access. -/
def State.storeAccess (s : State) (addr : Nat) (size : AccessSize) (value : Word) : State :=
  match size with
  | .word => s.storeWord addr value
  | .byte => s.storeByte addr (lowByte value)

/-- A host write that passes (R154). -/
def State.passWrite (s : State) (addr : Nat) (size : AccessSize) (value : Word) : State :=
  s.passing id fun t => t.storeAccess addr size value

/-- A protected write: dropped, with one MEMORY_WRITE occurrence and one writes-refused increment (R155). -/
def State.protectedWrite (s : State) : State := (s.occurrence .memoryWrite).tally .writesRefused

/-- A host write at any address (R154). -/
def State.hostWriteAt (s : State) (addr : Nat) (size : AccessSize) (value : Word) : State :=
  match s.treatWrite addr size value with
  | .pass => s.passWrite addr size value
  | .drop => s
  | .protect => s.protectedWrite
  | .special w v => s.takeSpecial w v

/-! ### Host reads (R154, R157, R160) -/

/-- The value of a read of some lanes of a word; a byte stands in the low byte (log entry 16). -/
def laneValue (lanes : Lanes) (w : Word) : Word :=
  match lanes with
  | .word => w
  | .low => joinBytes 0#8 (lowByte w)
  | .high => joinBytes 0#8 (highByte w)

/-- The word a host read returns. -/
def State.returnWord (s : State) (w : Word) : State := s.updPath fun p => { p with readData := w }

/-- The step of an alias word k (R160). -/
def aliasStep (k : Nat) : Int :=
  match k with
  | 0 => -8
  | 1 => -4
  | 2 => -2
  | 3 => -1
  | 4 => 1
  | 5 => 2
  | 6 => 4
  | _ => 8

/-- A tally after a fetch-add: saturated to 0 to 65535 (R160). -/
def fetchAdd (old : Nat) (step : Int) : Nat := min ((old : Int) + step).toNat 65535

/-- The fetch-add of an alias word, on the word that the tally has as the access is taken (R152, R160). -/
def State.aliasRead (s : State) (offset : Nat) (lanes : Lanes) : State :=
  let at0 := s.tallyAddr (offset / 8)
  s.passing id fun t =>
    let old := readWord t.mem at0
    (t.storeWord at0 (wordOf (fetchAdd old.toNat (aliasStep (offset % 8))))).returnWord (laneValue lanes old)

/-- A read of a word of memory at the host's turn (R163). -/
def State.readTurn (s : State) (addr : Nat) (lanes : Lanes) : State :=
  s.returnWord (laneValue lanes (readWord s.mem addr))

/-- The lanes of a read of MAILBOX word 6 that acts (R153). -/
def accessLanes : SpecialAccess → Lanes
  | .word => .word
  | .lowByte => .low

/-- The taking of a response: the read passes, and MAILBOX_DONE is clear after it. Where the part turn it waits for
writes word 6, that write goes first, and the read returns the new result and clears the flag (R157, R162, R170). -/
def State.takeResponse (s : State) (access : SpecialAccess) : State :=
  s.passing id fun t =>
    (t.lower .mailboxDone).readTurn (wordAddr s.setup.settings.bases.mailbox 6) (accessLanes access)

/-- What becomes of a host read (R154). -/
inductive ReadTreatment where
  /-- passes to memory -/
  | pass
  /-- is served from part state with this word, at once (R148, R156) -/
  | served (word : Word)
  /-- takes a response, and passes (R157) -/
  | response (access : SpecialAccess)
  /-- is a fetch-add (R160) -/
  | fetchAdd (offset : Nat)
deriving DecidableEq, Repr

/-- The lanes that act as the reading of a special word: not the high lane alone (R153). -/
def specialLanes : Lanes → Option SpecialAccess
  | .word => some .word
  | .low => some .lowByte
  | .high => none

/-- The treatment of a host read of a word, by area and the state that stands (R148, R152, R154, R156). -/
def State.treatRead (s : State) (addr : Nat) (lanes : Lanes) : ReadTreatment :=
  let b := s.setup.settings.bases
  match b.areaAt addr with
  | some .live => .served (s.liveWord (b.offset .live addr))
  | some .cash => if s.cash.phase = .idle then .pass else .served (cashImageWord s (b.offset .cash addr))
  | some .aliasWindow => .fetchAdd (b.offset .aliasWindow addr)
  | some .mailbox =>
    match b.offset .mailbox addr, specialLanes lanes with
    | 6, some access => .response access
    | _, _ => .pass
  | _ => .pass

/-- A host read of the word at an even address, or of one of its lanes (R154). None while it is held in bus wait,
during the hold: the host makes it again from then on (R164). No row of the table is a plain read, and no command
makes one: TAKE_RESPONSE and ALIAS_READ are the reads that have rows (log entry 24). -/
def State.hostRead (s : State) (addr : Nat) (lanes : Lanes) : Option State :=
  if s.holdsHost then none
  else
    match s.treatRead addr lanes with
    | .pass => some (s.passing id fun t => t.readTurn addr lanes)
    | .served w => some (s.returnWord (laneValue lanes w))
    | .response access => some (s.takeResponse access)
    | .fetchAdd offset => some (s.aliasRead offset lanes)

/-- The value of a write of a special word's low lane or whole word (R153). -/
def specialOperand (access : SpecialAccess) (value : Word) : Word :=
  match access with
  | .word => value
  | .lowByte => value &&& 0xFF#16

/-! ### Mailbox commands (R170, log entry 3) -/

/-- The host writes argument words 1 onward, then posts a code in word 0. -/
def State.writeArguments (s : State) : Nat → List Word → State
  | _, [] => s
  | k, a :: rest =>
    (s.passWrite (wordAddr s.setup.settings.bases.mailbox k) .word a).writeArguments (k + 1) rest

/-- The mailbox's next word is the clearing of word 0, after which the command is carried out (R170). -/
def State.atCarryOut (s : State) : Bool :=
  s.isNext .mailbox &&
    match s.mailbox.command with
    | some c => c.step == .clearSlot
    | none => false

/-- A posted command is brought to step 4 of R170 by the part turns that lead to it (log entry 3). -/
def State.bringToStep4 (s : State) : State := (runTo State.partTurn State.atCarryOut Config.turnFuel s).getD s

/-- A command row: the arguments, the post, and, if it is taken, the turns up to its being carried out. -/
def State.mailboxCommand (s : State) (code : Word) (arguments : List Word) : State :=
  let t := s.writeArguments 1 arguments
  let u := t.takeSpecial .commandPost code
  if t.mailbox.command.isSome then u else u.bringToStep4

/-! ### Bus wait (R164, R184) -/

/-- A host access is held in bus wait during the hold, and else made by `f` (R164, R184). -/
def State.hostAccess (s : State) (c : Instr) (f : State → State) : State :=
  if s.holdsHost then s.updPath fun p => { p with busWait := p.busWait ++ [c] } else f s

/-- The access that a host command makes; other commands are no host accesses. -/
def State.madeAccess (s : State) : Instr → State
  | .dialPost a v => s.takeSpecial .dialPost (specialOperand a v)
  | .consumerIndexWrite a v => s.takeSpecial .consumerIndex (specialOperand a v)
  | .eventClear a v => s.takeSpecial .eventClear (specialOperand a v)
  | .takeResponse a => s.takeResponse a
  | .hostWrite addr size v => s.hostWriteAt addr size v
  | .protectedWrite addr size v => s.hostWriteAt addr size v
  | .aliasRead offset lanes => s.aliasRead offset lanes
  | .setMask m => s.mailboxCommand 1#16 [m]
  | .setClock d w h m c => s.mailboxCommand 2#16 [d, w, h, m, c]
  | .endCall => s.mailboxCommand 3#16 []
  | .reportNow => s.mailboxCommand 4#16 []
  | .clearAlarm k => s.mailboxCommand 5#16 [k]
  | .reloadSetup => s.mailboxCommand 6#16 []
  | .restartService => s.mailboxCommand 7#16 []
  | .unknownCommand code => s.mailboxCommand code []
  | .validatorStrobe _ | .rejectPulse | .slugLeakExpiry | .slugCooloffExpiry | .flapHome
  | .chutePulse _ | .settleWindowEnd | .flapHomeTimeout | .leverRawChange _ | .returnLeverPress
  | .prefixMatchEnd | .interDigitTimeout | .zoneEntryReadEnd | .snapshotReadEnd
  | .depositWaitExpiry | .toneOnTimeExpiry | .toneOffTimeExpiry | .pulseBreakEnd | .pulseMakeEnd
  | .pulsePauseEnd | .pipDue | .pipEnd | .guardExpiry | .tonePresentChange _ | .dialToneFound
  | .dialToneTimeout | .polarityChange _ | .reversalAnswer | .meteringPulse | .timedAnswerExpiry
  | .answerWaitExpiry | .loopCurrentChange _ | .clearTimerExpiry | .polarityReturnClear
  | .hookRawChange _ | .hookDebouncedChange | .hookFlashTimerExpiry | .linePresentChange _
  | .lineQualifyExpiry | .unitTimerExpiry | .graceTimerExpiry | .clockSecond | .recordPublish
  | .tamperRawChange _ _ | .tamperEdge _ | .cordOnsetExpiry | .retryTimerExpiry | .holdTimerExpiry
  | .goToneFound | .goTimerExpiry | .ackToneFound | .ackTimerExpiry | .writeBackEnd | .partWordTurn
  | .reloadSetupReadEnd | .commandResponseWritten | .powerOn | .powerFail | .resetLineAssert
  | .resetLine | .setupLoadEnd | .ringHeaderReadEnd | .restoreReadEnd | .hookFirstLevel
  | .tamperFirstLevels | .flapLeavesRest | .leverRelease | .leverFirstLevel => s

/-- The accesses in bus wait are made, oldest first, once the hold has ended (R164). -/
def State.releaseBus (s : State) : State :=
  if s.holdsHost then s
  else s.path.busWait.foldl State.madeAccess (s.updPath fun p => { p with busWait := [] })

/-- A part turn, after which a hold that has ended lets the host onto the bus (R161, R164). -/
def State.turn (s : State) : State := s.partTurn.releaseBus

/-- The part turns up to the one whose word ends a run of work; the state stays when that word is not reached
(log entry 3). -/
def State.turnsUntil (s : State) (ready : State → Bool) : State :=
  (runTo State.turn ready Config.turnFuel s).getD s

end Sys2Proof.Machine
end

