-- ==== Sys2Proof/Machine/Coins.lean ====
section
/-! DEFINITION. The meanings of the commands of chapter 1: the validator, the slug timers, the escrow mechanism
and the return lever. -/

namespace Sys2Proof.Machine

/-- The answer of a step. -/
abbrev Result := Host.Outcome State Fault Refusal

/-- VALIDATOR_STROBE (R2, R3, R142). -/
def execValidatorStrobe (code : Nat) (s : State) : Result :=
  .next (s.whenLive fun s =>
    if s.takesCoin code then
      (s.takeCoin ⟨code, classValue s.setup.settings.classValues code⟩).closeTest
    else s.rejectCoin)

/-- REJECT_PULSE (R4). -/
def execRejectPulse (s : State) : Result := .next (s.whenLive State.rejectCoin)

/-- The slug counter leaks by 1 (R21). -/
def State.slugLeaks (s : State) : State :=
  s.updCoin fun c =>
    { c with slug := c.slug - 1, leakTimer := if 1 < c.slug then s.later Config.slugLeakMs else none }

/-- SLUG_LEAK_EXPIRY (R21). -/
def execSlugLeakExpiry (s : State) : Result :=
  .next (s.whenLive fun s => s.onExpiry s.coin.leakTimer State.slugLeaks)

/-- SLUG_COOLOFF_EXPIRY (R21). -/
def execSlugCooloffExpiry (s : State) : Result :=
  .next (s.whenLive fun s =>
    s.onExpiry s.coin.cooloffTimer fun s => s.updCoin fun c => { c with cooloffTimer := none })

/-- The settle window of the operation in flight: 500 ms for a collect, 1000 ms for a refund (R10). -/
def EscrowOp.settleMs : EscrowOp → Nat
  | .refunding => Config.refundSettleMs
  | _ => Config.collectSettleMs

/-- The flap has come home in time: the timer stops, the actuator is released and the settle window opens
(R10). -/
def State.flapReturns (s : State) : State :=
  if s.coin.inFlight && s.coin.flapTimer.isSome then
    s.updCoin fun c =>
      { c with flapTimer := none, actuator := .released, settleTimer := s.later c.op.settleMs }
  else s

/-- FLAP_HOME: a change of the input from away to home (R10). -/
def execFlapHome (s : State) : Result :=
  .next (if s.pins.flapHome then s
    else (s.updPins fun p => { p with flapHome := true }).whenLive State.flapReturns)

/-- The sensor is the one of the operation in flight (R10). -/
def chuteMatches (c : Chute) (op : EscrowOp) : Bool :=
  match c, op with
  | .vault, .collecting => true
  | .ret, .refunding => true
  | _, _ => false

/-- CHUTE_PULSE (R10). -/
def execChutePulse (chute : Chute) (s : State) : Result :=
  .next (s.whenLive fun s =>
    if s.coin.settleTimer.isSome && chuteMatches chute s.coin.op then
      s.updCoin fun c => { c with chuteCount := c.chuteCount + 1 }
    else s)

/-- SETTLE_WINDOW_END (R10 to R12, R14). -/
def execSettleWindowEnd (s : State) : Result :=
  .next (s.whenLive fun s => s.onExpiry s.coin.settleTimer fun s =>
    match s.coin.op with
    | .collecting => s.settleCollect
    | .refunding => s.settleRefund
    | _ => s)

/-- FLAP_HOME_TIMEOUT (R13, R14). -/
def execFlapHomeTimeout (s : State) : Result :=
  .next (s.whenLive fun s => s.onExpiry s.coin.flapTimer fun s =>
    match s.coin.op with
    | .collecting => s.jamCollect
    | .refunding => s.jamRefund
    | _ => s)

/-- FLAP_LEAVES_REST: a change of the input from home to away (R10). -/
def execFlapLeavesRest (s : State) : Result := .next (s.updPins fun p => { p with flapHome := false })

/-- The debounce of an input after its raw level has changed to `raw`: it runs from the present moment, and a
return to the debounced level ends it (R17, R59, R105). -/
def Debounce.rawChange (d : Debounce) (raw : Bool) (expiry : Timer) : Debounce :=
  { d with timer := if d.level = some raw then none else expiry }

/-- Inputs are debounced from step 8 of a start on (R186). -/
def State.debounces (s : State) : Bool := !s.isHeld && s.restored

/-- LEVER_RAW_CHANGE (R17). -/
def execLeverRawChange (pressed : Bool) (s : State) : Result :=
  .next (if s.pins.leverPressed = pressed then s
    else
      let t := s.updPins fun p => { p with leverPressed := pressed }
      if t.debounces then
        t.updLever fun d => d.rawChange pressed (t.later t.setup.settings.hookDebounce)
      else t)

/-- The debounced lever level takes the raw level. -/
def State.settleLever (s : State) : State := s.updLever fun _ => ⟨some s.pins.leverPressed, none⟩

/-- A press is honoured when no operation is in flight and no customer call is seized (R17). It has no effect over
an empty escrow, and a refund that starts leaves nothing for the test of R142 to find. -/
def State.leverPressed (s : State) : State :=
  if s.coin.inFlight || s.customerOwns then s else s.requestRefund

/-- RETURN_LEVER_PRESS: the debounced change to pressed (R17). -/
def execReturnLeverPress (s : State) : Result :=
  .next (s.whenLive fun s =>
    if s.lever.level = some false ∧ s.pins.leverPressed then
      s.onExpiry s.lever.timer fun s => s.settleLever.leverPressed
    else s)

/-- LEVER_RELEASE: the debounced change to released, with no further effect (R17). -/
def execLeverRelease (s : State) : Result :=
  .next (s.whenLive fun s =>
    if s.lever.level = some true ∧ s.pins.leverPressed = false then
      s.onExpiry s.lever.timer State.settleLever
    else s)

/-- LEVER_FIRST_LEVEL: the first level that has held, with no press taken (R17). -/
def execLeverFirstLevel (s : State) : Result :=
  .next (s.whenLive fun s =>
    if s.lever.level = none then s.onExpiry s.lever.timer State.settleLever else s)

end Sys2Proof.Machine
end

