-- ==== Sys2Proof/Machine/Dialling.lean ====
section
/-! DEFINITION. The meanings of the commands of chapter 2: postings, the ends of the analyser's and the rating
engine's reads, the number's timers, and the pacing of the symbol emitter. -/

namespace Sys2Proof.Machine

/-- DIAL_POST: the host's write of MAILBOX word 14 (R27, R157). -/
def execDialPost (access : SpecialAccess) (value : Word) (s : State) : Result :=
  .next (s.hostAccess (.dialPost access value) fun s => s.takeSpecial .dialPost (specialOperand access value))

/-- The next part word is the last of a prefix match (R31). -/
def State.atMatchEnd (s : State) : Bool :=
  s.isNext .numberAnalyser &&
    match s.number.reads with
    | r :: _ => r.isMatch && r.words.length + 1 == r.job.size
    | [] => false

/-- PREFIX_MATCH_END (R31, R32). -/
def execPrefixMatchEnd (s : State) : Result :=
  .next (s.whenLive fun s => s.turnsUntil State.atMatchEnd)

/-- INTER_DIGIT_TIMEOUT (R32). -/
def execInterDigitTimeout (s : State) : Result :=
  .next (s.whenLive fun s => s.onExpiry s.number.interDigitTimer State.interDigitExpired)

/-- The next part word is the last of a completion read (R33). -/
def State.atEntryEnd (s : State) : Bool :=
  s.isNext .numberAnalyser &&
    match s.number.reads with
    | r :: _ => !r.isMatch && r.words.length + 1 == r.job.size
    | [] => false

/-- ZONE_ENTRY_READ_END (R33). -/
def execZoneEntryReadEnd (s : State) : Result :=
  .next (s.whenLive fun s => s.turnsUntil State.atEntryEnd)

/-- The next part word is the last of a snapshot read (R65). -/
def State.atSnapshotEnd (s : State) : Bool :=
  s.isNext .ratingEngine &&
    match s.rating.reads with
    | r :: _ => r.words.length == 87
    | [] => false

/-- SNAPSHOT_READ_END (R65, R33). -/
def execSnapshotReadEnd (s : State) : Result :=
  .next (s.whenLive fun s => s.turnsUntil State.atSnapshotEnd)

/-- DEPOSIT_WAIT_EXPIRY (R35). -/
def execDepositWaitExpiry (s : State) : Result :=
  .next (s.whenLive fun s => s.onExpiry s.number.depositTimer fun s => s.refuseNumber .depositTimeout)

/-- TONE_ON_TIME_EXPIRY: the tone turns off and the off time begins (R42). -/
def execToneOnTimeExpiry (s : State) : Result :=
  .next (s.whenLive fun s =>
    match s.emitter.item with
    | some (.toneOn code use) => s.onExpiry s.emitter.timer fun s =>
        s.beginItem (.toneOff code use) s.setup.settings.toneOff
    | _ => s)

/-- TONE_OFF_TIME_EXPIRY: the tone symbol ends (R42). -/
def execToneOffTimeExpiry (s : State) : Result :=
  .next (s.whenLive fun s =>
    match s.emitter.item with
    | some (.toneOff _ use) => s.onExpiry s.emitter.timer fun s => s.endItem use
    | _ => s)

/-- PULSE_BREAK_END: the relay closes for the make (R43). -/
def execPulseBreakEnd (s : State) : Result :=
  .next (s.whenLive fun s =>
    match s.emitter.item with
    | some (.pulseBreak digit left use) => s.onExpiry s.emitter.timer fun s =>
        s.beginItem (.pulseMake digit left use) Config.pulseMakeMs
    | _ => s)

/-- After a make comes the next break, or the inter-digit pause after the last (R43). -/
def State.afterMake (s : State) (digit left : Nat) (use : ItemUse) : State :=
  if left = 0 then s.beginItem (.pulsePause digit use) Config.pulsePauseMs
  else s.beginItem (.pulseBreak digit (left - 1) use) Config.pulseBreakMs

/-- PULSE_MAKE_END (R43). -/
def execPulseMakeEnd (s : State) : Result :=
  .next (s.whenLive fun s =>
    match s.emitter.item with
    | some (.pulseMake digit left use) => s.onExpiry s.emitter.timer fun s => s.afterMake digit left use
    | _ => s)

/-- PULSE_PAUSE_END: the pulse digit ends (R43). -/
def execPulsePauseEnd (s : State) : Result :=
  .next (s.whenLive fun s =>
    match s.emitter.item with
    | some (.pulsePause _ use) => s.onExpiry s.emitter.timer fun s => s.endItem use
    | _ => s)

/-- PIP_DUE: a later pip of the grace falls due (R44). -/
def execPipDue (s : State) : Result :=
  .next (s.whenLive fun s =>
    match s.emitter.pipTimer with
    | some moment => (s.reach moment).pipFallsDue moment
    | none => s)

/-- PIP_END: a warning pip ends and the emitter goes on (R44). -/
def execPipEnd (s : State) : Result :=
  .next (s.whenLive fun s =>
    match s.emitter.item with
    | some .pip => s.onExpiry s.emitter.timer fun s => s.clearItem.emitNext
    | _ => s)

end Sys2Proof.Machine
end

