-- ==== Sys2Proof/Machine/LineEvents.lean ====
section
/-! DEFINITION. The meanings of the commands of chapter 3: the guard, dial tone, answer, metering pulses, remote
clear, the hook switch and the line-present input. -/

namespace Sys2Proof.Machine

/-- GUARD_EXPIRY (R46, R48, R50). -/
def execGuardExpiry (s : State) : Result :=
  .next (s.whenLive fun s => s.onExpiry s.line.guardTimer State.guardEnds)

/-- TONE_PRESENT_CHANGE: the count towards a tone starts or breaks (R50, R129, R132). -/
def execTonePresentChange (present : Bool) (s : State) : Result :=
  .next (if s.pins.tonePresent = present then s
    else
      let t := s.updPins fun p => { p with tonePresent := present }
      t.whenLive fun t => t.updLine fun l => { l with toneFrom := if present then some t.now else none })

/-- The moment at which the tone now present will have lasted `ms` (R50, R129, R132). -/
def State.toneMoment (s : State) (ms : Nat) : Timer := s.line.toneFrom.map fun t => t + ms

/-- DIAL_TONE_FOUND (R50). -/
def execDialToneFound (s : State) : Result :=
  .next (s.whenLive fun s =>
    if s.line.phase = .seizing then s.onExpiry (s.toneMoment Config.dialToneMs) State.dialToneReady else s)

/-- DIAL_TONE_TIMEOUT (R50). -/
def execDialToneTimeout (s : State) : Result :=
  .next (s.whenLive fun s => s.onExpiry s.line.dialToneTimer State.tryFails)

/-- POLARITY_CHANGE: the 50 ms count starts from the change (R52, R56). -/
def execPolarityChange (reversed : Bool) (s : State) : Result :=
  .next (if s.pins.reversed = reversed then s
    else
      let t := s.updPins fun p => { p with reversed := reversed }
      t.whenLive fun t => t.updLine fun l => { l with polarityAt := t.now })

/-- A customer call awaits its answer. -/
def State.customerAwaits (s : State) : Bool := s.customerOwns && s.line.phase == .awaitAnswer

/-- The polarity has held for 50 ms since its change: the effect follows (R52, R56). -/
def State.polarityHolds (s : State) (f : State → State) : State :=
  f (s.reach (s.line.polarityAt + Config.polarityMs))

/-- An answer, after which the in-call symbols go out, and the test of an owed close, for the answer may have
paid a charge or begun a collect (R38, R142). -/
def State.answered (s : State) (answer : State → State) : State := s.thenTest fun s => (answer s).emitNext

/-- REVERSAL_ANSWER (R52, R53). -/
def execReversalAnswer (s : State) : Result :=
  .next (s.whenLive fun s =>
    if s.customerAwaits && s.setup.settings.answerSource == .reversal && s.pins.reversed then
      s.polarityHolds fun s => s.answered fun s => s.answerCall false
    else s)

/-- The answering pulse is handed to the rating engine as the answer, and then as a metering pulse (R53). -/
def State.meterAnswer (s : State) : State := s.answered fun s => (s.answerCall false).meterConnected

/-- METERING_PULSE (R52, R53, R55). -/
def execMeteringPulse (s : State) : Result :=
  .next (s.whenLive fun s =>
    if s.customerConnected then s.thenTest State.meterConnected
    else if s.customerAwaits && s.setup.settings.answerSource == .metering then s.meterAnswer
    else s)

/-- TIMED_ANSWER_EXPIRY (R52, R53). -/
def execTimedAnswerExpiry (s : State) : Result :=
  .next (s.whenLive fun s =>
    if s.customerAwaits then
      s.onExpiry s.line.timedAnswerTimer fun s => s.answered fun s => s.answerCall true
    else s)

/-- ANSWER_WAIT_EXPIRY (R54). -/
def execAnswerWaitExpiry (s : State) : Result :=
  .next (s.whenLive fun s =>
    if s.customerAwaits then s.onExpiry s.line.answerWaitTimer fun s => s.endCall .noAnswer else s)

/-- LOOP_CURRENT_CHANGE: in CONNECTED the clear timer starts or stops (R56). -/
def execLoopCurrentChange (present : Bool) (s : State) : Result :=
  .next (if s.pins.loopCurrent = present then s
    else
      let t := s.updPins fun p => { p with loopCurrent := present }
      t.whenLive fun t =>
        if t.customerConnected then
          t.updLine fun l => { l with clearTimer := if present then none else t.later Config.clearMs }
        else t)

/-- CLEAR_TIMER_EXPIRY (R56). -/
def execClearTimerExpiry (s : State) : Result :=
  .next (s.whenLive fun s =>
    if s.customerConnected then s.onExpiry s.line.clearTimer fun s => s.endCall .remoteClear else s)

/-- POLARITY_RETURN_CLEAR (R56). -/
def execPolarityReturnClear (s : State) : Result :=
  .next (s.whenLive fun s =>
    if s.customerConnected && s.setup.settings.answerSource == .reversal && !s.pins.reversed then
      s.polarityHolds fun s => s.endCall .remoteClear
    else s)

/-- HOOK_RAW_CHANGE (R59). -/
def execHookRawChange (onHook : Bool) (s : State) : Result :=
  .next (if s.pins.onHook = onHook then s
    else
      let t := s.updPins fun p => { p with onHook := onHook }
      if t.debounces then
        t.updHook fun h =>
          { h with debounce := h.debounce.rawChange onHook (t.later t.setup.settings.hookDebounce) }
      else t)

/-- The debounced hook level takes the raw level. -/
def State.settleHook (s : State) : State :=
  s.updHook fun h => { h with debounce := ⟨some s.pins.onHook, none⟩ }

/-- HOOK_DEBOUNCED_CHANGE (R59, R61). -/
def execHookDebouncedChange (s : State) : Result :=
  .next (s.whenLive fun s =>
    if s.hook.debounce.level = some (!s.pins.onHook) then
      s.onExpiry s.hook.debounce.timer fun s =>
        if s.pins.onHook then s.settleHook.hookOn else s.settleHook.hookOff
    else s)

/-- HOOK_FLASH_TIMER_EXPIRY (R59, R60). -/
def execHookFlashTimerExpiry (s : State) : Result :=
  .next (s.whenLive fun s => s.onExpiry s.hook.flashTimer State.hookClear)

/-- The hook state as the first debounced level gives it; it sets no flag (R59, R186). -/
def State.firstHook (s : State) : State :=
  s.settleHook.updHook fun h => { h with phase := if s.pins.onHook then .cleared else .offHook }

/-- HOOK_FIRST_LEVEL (R59, R186). -/
def execHookFirstLevel (s : State) : Result :=
  .next (s.whenLive fun s =>
    if s.hook.debounce.level = none then s.onExpiry s.hook.debounce.timer State.firstHook else s)

/-- The qualification timer runs while the input contradicts the qualified status (R62). -/
def LineState.qualify (l : LineState) (present : Bool) (expiry : Timer) : LineState :=
  { l with qualifyTimer := if present = (l.status == .present) then none else expiry }

/-- LINE_PRESENT_CHANGE (R62). -/
def execLinePresentChange (present : Bool) (s : State) : Result :=
  .next (if s.pins.linePresent = present then s
    else
      let t := s.updPins fun p => { p with linePresent := present }
      t.whenLive fun t => t.updLine fun l => l.qualify present (t.later Config.lineQualifyMs))

/-- LINE_QUALIFY_EXPIRY (R62). -/
def execLineQualifyExpiry (s : State) : Result :=
  .next (s.whenLive fun s => s.onExpiry s.line.qualifyTimer fun s =>
    match s.line.status with
    | .present => s.lineLost
    | .lost => s.lineFound)

end Sys2Proof.Machine
end

