-- ==== Sys2Proof/WellFormed.lean ====
section
/-! DEFINITION. When a command's operands are ones the host side can present: the address of a host
write lies in the 20-bit address space, a word access presents an even address, and the code of an
unknown command is one the spec assigns no command. -/

namespace Sys2Proof

/-- The size in bytes of the address space behind the PX24: 512 KiB of SRAM and 512 KiB of flash. -/
def addressSpace : Nat := 0x100000

/-- A host address with a size: inside the address space, and even for a word access
(chapter 9.1). -/
def accessWellFormed (addr : Nat) (size : AccessSize) : Bool :=
  decide (addr < addressSpace) &&
    match size with
    | .word => decide (addr % 2 = 0)
    | .byte => true

/-- The operands of a command are ones that the spec's host side can present. -/
def Instr.wellFormed : Instr → Bool
  | .hostWrite addr size _ => accessWellFormed addr size
  | .protectedWrite addr size _ => accessWellFormed addr size
  | .unknownCommand code => decide (8 ≤ code.toNat)
  | .validatorStrobe _ | .rejectPulse | .slugLeakExpiry | .slugCooloffExpiry | .flapHome
  | .chutePulse _ | .settleWindowEnd | .flapHomeTimeout | .leverRawChange _ | .returnLeverPress
  | .dialPost _ _ | .prefixMatchEnd | .interDigitTimeout | .zoneEntryReadEnd | .snapshotReadEnd
  | .depositWaitExpiry | .toneOnTimeExpiry | .toneOffTimeExpiry | .pulseBreakEnd | .pulseMakeEnd
  | .pulsePauseEnd | .pipDue | .pipEnd | .guardExpiry | .tonePresentChange _ | .dialToneFound
  | .dialToneTimeout | .polarityChange _ | .reversalAnswer | .meteringPulse | .timedAnswerExpiry
  | .answerWaitExpiry | .loopCurrentChange _ | .clearTimerExpiry | .polarityReturnClear
  | .hookRawChange _ | .hookDebouncedChange | .hookFlashTimerExpiry | .linePresentChange _
  | .lineQualifyExpiry | .unitTimerExpiry | .graceTimerExpiry | .clockSecond | .recordPublish
  | .consumerIndexWrite _ _ | .tamperRawChange _ _ | .tamperEdge _ | .cordOnsetExpiry
  | .retryTimerExpiry | .holdTimerExpiry | .goToneFound | .goTimerExpiry | .ackToneFound
  | .ackTimerExpiry | .writeBackEnd | .partWordTurn | .aliasRead _ _ | .eventClear _ _
  | .takeResponse _ | .setMask _ | .setClock _ _ _ _ _ | .endCall | .reportNow | .clearAlarm _
  | .reloadSetup | .reloadSetupReadEnd | .restartService | .commandResponseWritten | .powerOn
  | .powerFail | .resetLineAssert | .resetLine | .setupLoadEnd | .ringHeaderReadEnd
  | .restoreReadEnd | .hookFirstLevel | .tamperFirstLevels | .flapLeavesRest | .leverRelease
  | .leverFirstLevel => true

end Sys2Proof
end

