-- ==== Sys2Proof/Machine/PathEvents.lean ====
section
/-! DEFINITION. The meanings of the commands of chapters 9 and 10: part turns, host accesses and the mailbox. -/

namespace Sys2Proof.Machine

/-- PART_WORD_TURN (R161, R162). -/
def execPartWordTurn (s : State) : Result := .next s.turn

/-- A host write at an address: the stops are for accesses the host cannot make (chapter 9.1). -/
def checkAccess (addr : Nat) (size : AccessSize) (r : Result) : Result :=
  if addressSpace ≤ addr then .fault (.addressOutsideMemory addr)
  else
    match size with
    | .byte => r
    | .word => if addr % 2 = 0 then r else .refused (.oddWordAccess addr)

/-- HOST_WRITE (R154). -/
def execHostWrite (addr : Nat) (size : AccessSize) (value : Word) (s : State) : Result :=
  checkAccess addr size
    (.next (s.hostAccess (.hostWrite addr size value) fun s => s.hostWriteAt addr size value))

/-- PROTECTED_WRITE: a host write; the path decoder finds it protected by its address (R155). -/
def execProtectedWrite (addr : Nat) (size : AccessSize) (value : Word) (s : State) : Result :=
  checkAccess addr size
    (.next (s.hostAccess (.protectedWrite addr size value) fun s => s.hostWriteAt addr size value))

/-- ALIAS_READ (R160). -/
def execAliasRead (offset : Fin 256) (lanes : Lanes) (s : State) : Result :=
  .next (s.hostAccess (.aliasRead offset lanes) fun s => s.aliasRead offset lanes)

/-- EVENT_CLEAR: the host's write of MAILBOX word 15 (R157, R166). -/
def execEventClear (access : SpecialAccess) (value : Word) (s : State) : Result :=
  .next (s.hostAccess (.eventClear access value) fun s =>
    s.takeSpecial .eventClear (specialOperand access value))

/-- TAKE_RESPONSE: the host's read of MAILBOX word 6 (R157, R170). -/
def execTakeResponse (access : SpecialAccess) (s : State) : Result :=
  .next (s.hostAccess (.takeResponse access) fun s => s.takeResponse access)

/-- SET_MASK (R170, R172). -/
def execSetMask (mask : Word) (s : State) : Result :=
  .next (s.hostAccess (.setMask mask) fun s => s.mailboxCommand 1#16 [mask])

/-- SET_CLOCK (R68, R170, R172). -/
def execSetClock (date weekday hour minute second : Word) (s : State) : Result :=
  .next (s.hostAccess (.setClock date weekday hour minute second) fun s =>
    s.mailboxCommand 2#16 [date, weekday, hour, minute, second])

/-- END_CALL (R170, R173). -/
def execEndCall (s : State) : Result := .next (s.hostAccess .endCall fun s => s.mailboxCommand 3#16 [])

/-- REPORT_NOW (R127, R170, R174). -/
def execReportNow (s : State) : Result :=
  .next (s.hostAccess .reportNow fun s => s.mailboxCommand 4#16 [])

/-- CLEAR_ALARM (R119, R170, R175). -/
def execClearAlarm (kind : Word) (s : State) : Result :=
  .next (s.hostAccess (.clearAlarm kind) fun s => s.mailboxCommand 5#16 [kind])

/-- RELOAD_SETUP (R170, R176). -/
def execReloadSetup (s : State) : Result :=
  .next (s.hostAccess .reloadSetup fun s => s.mailboxCommand 6#16 [])

/-- The next part word is the last of a load made for a purpose (R178). -/
def State.atLoadEnd (s : State) (p : LoadPurpose) : Bool :=
  s.isNext .setupLoader &&
    match s.setup.load with
    | some l => l.purpose == p && l.words.length + 1 == Config.setupWords
    | none => false

/-- RELOAD_SETUP_READ_END (R176, R183). -/
def execReloadSetupReadEnd (s : State) : Result :=
  .next (s.whenLive fun s => s.turnsUntil fun s => s.atLoadEnd .reload)

/-- RESTART_SERVICE (R170, R177, R187). -/
def execRestartService (s : State) : Result :=
  .next (s.hostAccess .restartService fun s => s.mailboxCommand 7#16 [])

/-- UNKNOWN_COMMAND (R170, chapter 10.5). -/
def execUnknownCommand (code : Word) (s : State) : Result :=
  .next (s.hostAccess (.unknownCommand code) fun s => s.mailboxCommand code [])

/-- The next part word is the result word of a response (R170). -/
def State.atResponseEnd (s : State) : Bool :=
  s.isNext .mailbox &&
    match s.mailbox.command with
    | some c => c.step == .respond 7
    | none => false

/-- COMMAND_RESPONSE_WRITTEN (R170). -/
def execCommandResponseWritten (s : State) : Result :=
  .next (s.whenLive fun s => s.turnsUntil State.atResponseEnd)

end Sys2Proof.Machine
end

