-- ==== Sys2Proof/Machine/RatingEvents.lean ====
section
/-! DEFINITION. The meanings of the commands of chapters 4 and 5: the rating timers, the calendar clock, and the
publishing of records. -/

namespace Sys2Proof.Machine

/-- The moment at which a running unit timer runs out (R76). -/
def State.unitMoment (s : State) : Timer :=
  match s.rating.context with
  | some c =>
    match c.unitTimer with
    | .running e => some e
    | _ => none
  | none => none

/-- UNIT_TIMER_EXPIRY (R76). -/
def execUnitTimerExpiry (s : State) : Result :=
  .next (s.whenLive fun s => s.onExpiry s.unitMoment fun s => s.thenTest State.unitExpired)

/-- The moment at which the grace timer runs out (R83). -/
def State.graceMoment (s : State) : Timer := s.rating.context.bind RatingContext.graceTimer

/-- GRACE_TIMER_EXPIRY (R83, R84). -/
def execGraceTimerExpiry (s : State) : Result :=
  .next (s.whenLive fun s => s.onExpiry s.graceMoment State.graceExpired)

/-- The clock advances by one second, the next beginning 1000 ms after this one was due (R67). -/
def State.tickSecond (s : State) : State :=
  (s.reach s.clock.nextAt).updClock fun c => { c.nextSecond with nextAt := c.nextAt + Config.secondMs }

/-- CLOCK_SECOND: the clock goes on counting while the reset line is asserted, and not without supply (R67,
R68, R184). -/
def execClockSecond (s : State) : Result := .next (if s.power.supplyOn then s.tickSecond else s)

/-- The next part word is the producer word of a record (R98). -/
def State.atPublish (s : State) : Bool :=
  s.isNext .recordWriter && s.records.headerRead.isNone &&
    match s.records.jobs with
    | .slot _ _ :: _ => s.records.written == Config.slotWords
    | _ => false

/-- RECORD_PUBLISH (R98). -/
def execRecordPublish (s : State) : Result :=
  .next (s.whenLive fun s => s.turnsUntil State.atPublish)

/-- CONSUMER_INDEX_WRITE: the host's write of RECORDS word 1 (R99, R157). -/
def execConsumerIndexWrite (access : SpecialAccess) (value : Word) (s : State) : Result :=
  .next (s.hostAccess (.consumerIndexWrite access value) fun s =>
    s.takeSpecial .consumerIndex (specialOperand access value))

end Sys2Proof.Machine
end

