-- ==== Sys2Proof/Machine/StartEvents.lean ====
section
/-! DEFINITION. The meanings of the commands of chapter 11: the supply, the reset line and the reads of a
start. -/

namespace Sys2Proof.Machine

/-- The unset clock (R68). -/
def State.unsetClock (s : State) : State := s.updClock fun _ => clockUnset s.now

/-- POWER_ON: the clock starts unset and a start of cause POWER_ON begins, unless the reset line is asserted,
whose release then gives the start (R68, R184, R185). -/
def execPowerOn (s : State) : Result :=
  let t := (s.updPower fun p => { p with supplyOn := true }).unsetClock
  .next (if s.power.resetAsserted then t.wiped else t.beginStart .powerOn)

/-- POWER_FAIL: the part is held and its state is lost, the clock with it (R68, R184). -/
def execPowerFail (s : State) : Result :=
  .next ((s.updPower fun p => { p with supplyOn := false }).wiped.unsetClock)

/-- RESET_LINE_ASSERT: the part is held and its state is lost, except the calendar clock (R68, R184). -/
def execResetLineAssert (s : State) : Result :=
  .next ((s.updPower fun p => { p with resetAsserted := true }).wiped)

/-- RESET_LINE: the release of the reset line begins a start of cause RESET_LINE, if the supply is on (R184,
R185). A release that comes while the line is not asserted begins one too: DESIGN CHOICE, log entry 17. -/
def execResetLine (s : State) : Result :=
  let t := s.updPower fun p => { p with resetAsserted := false }
  .next (if s.power.supplyOn then t.beginStart .resetLine else t)

/-- SETUP_LOAD_END: the setup load of a start ends (R178, R182, R185). -/
def execSetupLoadEnd (s : State) : Result :=
  .next (s.whenLive fun s => s.turnsUntil fun s => s.atLoadEnd .start)

/-- The next part word is the last of the ring header read (R97). -/
def State.atHeaderEnd (s : State) : Bool :=
  s.isNext .recordWriter &&
    match s.records.headerRead with
    | some ws => ws.length == 3
    | none => false

/-- RING_HEADER_READ_END (R97, R185). -/
def execRingHeaderReadEnd (s : State) : Result :=
  .next (s.whenLive fun s => s.turnsUntil State.atHeaderEnd)

/-- The next part word is the last of the restore read (R149). -/
def State.atRestoreEnd (s : State) : Bool :=
  s.isNext .cashStore &&
    match s.cash.restore with
    | some ws => ws.length + 1 == Config.cashWords
    | none => false

/-- RESTORE_READ_END (R149, R164, R185). -/
def execRestoreReadEnd (s : State) : Result :=
  .next (s.whenLive fun s => s.turnsUntil State.atRestoreEnd)

end Sys2Proof.Machine
end

