-- ==== Sys2Proof/Machine/TamperEvents.lean ====
section
/-! DEFINITION. The meanings of the commands of chapters 6 to 8: the tamper inputs, the cord timer, the report
caller's timers and tones, and the end of a write-back. -/

namespace Sys2Proof.Machine

/-- A first level that has held its time before the raw input changes again is taken as the debounced level
(R105). -/
def Debounce.keepFirst (d : Debounce) (raw : Bool) (now : Nat) : Debounce :=
  if d.level = none then d.atMoment raw now else d

/-- The raw change of a tamper input starts, restarts or ends its debounce (R105). -/
def State.tamperChanges (s : State) (i : TamperInput) (high : Bool) : State :=
  s.updSwitch i fun w =>
    { w with debounce := (w.debounce.keepFirst (!high) s.now).rawChange high
               (s.later s.setup.settings.tamperDebounce) }

/-- With a tamper debounce of 0 the debounced level changes at once (R105). -/
def State.settleAtOnce (s : State) (i : TamperInput) : State :=
  if s.setup.settings.tamperDebounce = 0 && (s.tamper.get i).debounce.timer.isSome && s.tamper.firstSet then
    s.settleLevel i
  else s

/-- TAMPER_RAW_CHANGE (R105). -/
def execTamperRawChange (input : TamperInput) (high : Bool) (s : State) : Result :=
  .next (if s.pins.tamper.get input = high then s
    else
      let t := s.updPins fun p => { p with tamper := p.tamper.set input high }
      if t.debounces then (t.tamperChanges input high).settleAtOnce input else t)

/-- TAMPER_EDGE: the debounce of an input ends with a change of its level (R105, R107, R109, R110, R137). -/
def execTamperEdge (input : TamperInput) (s : State) : Result :=
  .next (s.whenLive fun s =>
    if (s.tamper.get input).debounce.level = some (!s.pins.tamper.get input) then
      s.onExpiry (s.tamper.get input).debounce.timer fun s => s.settleLevel input
    else s)

/-- The next moment of the first statuses, once every input has a level or a running debounce (R105). -/
def State.firstStatusMoment (s : State) : Timer :=
  if s.power.phase = .inputWait ∧ tamperInputs.all (fun i => (s.tamper.get i).ready) then
    some s.tamper.firstMoment
  else none

/-- TAMPER_FIRST_LEVELS (R105, R108, R186). -/
def execTamperFirstLevels (s : State) : Result :=
  .next (s.whenLive fun s => s.onExpiry s.firstStatusMoment State.firstStatuses)

/-- CORD has been ACTIVE for 1 s (R109). -/
def State.cordCut (s : State) : State :=
  (s.updTamper fun t => { t with cordTimer := none, cordRaised := true }).occurrence .cordCut

/-- CORD_ONSET_EXPIRY (R109). -/
def execCordOnsetExpiry (s : State) : Result :=
  .next (s.whenLive fun s => s.onExpiry s.tamper.cordTimer State.cordCut)

/-- The retry timer has expired (R126). -/
def State.retryExpired (s : State) : State :=
  let t := s.updReport fun r => { r with retryTimer := none }
  if t.reportWanted then t.resumeRun else t.endRun

/-- RETRY_TIMER_EXPIRY (R126). -/
def execRetryTimerExpiry (s : State) : Result :=
  .next (s.whenLive fun s => s.onExpiry s.report.retryTimer State.retryExpired)

/-- The hold timer has expired (R126). -/
def State.holdExpired (s : State) : State :=
  let t := s.updReport fun r => { r with holdTimer := none }
  if t.reportWanted then t.beginRun else t.endRun

/-- HOLD_TIMER_EXPIRY (R126). -/
def execHoldTimerExpiry (s : State) : Result :=
  .next (s.whenLive fun s => s.onExpiry s.report.holdTimer State.holdExpired)

/-- The go tone is found: the go time, CONNECTED for the report owner, the message built and its sending
begun (R52, R129 to R131). -/
def State.goTone (s : State) : State :=
  let t := s.updLine fun l => { l with phase := .connected, answerTime := some s.calendar }
  ((t.buildReport).updReport fun r =>
    { r with goTimer := none, goTime := some s.calendar, phase := .sending }).emitNext

/-- GO_TONE_FOUND: tone present for 300 ms in AWAIT_GO (R129). -/
def execGoToneFound (s : State) : Result :=
  .next (s.whenLive fun s =>
    if s.report.phase = .awaitGo then
      s.onExpiry (s.line.toneFrom.map fun t => t + Config.goToneMs) State.goTone
    else s)

/-- GO_TIMER_EXPIRY (R129, R133). -/
def execGoTimerExpiry (s : State) : Result :=
  .next (s.whenLive fun s => s.onExpiry s.report.goTimer fun s => s.endReport .noGo)

/-- The acknowledgement settles the REPORTING kinds and sets ALARM; the changes, if there are any, are handed to
the cash store (R117). -/
def State.acknowledge (s : State) : State :=
  let t := (s.updAlarms AlarmState.acknowledge).raise .alarm
  if t.alarms = s.alarms then t else t.cashChanged

/-- The ack tone is found: the acknowledgement, and the release with OK (R132, R133). -/
def State.ackTone (s : State) : State :=
  ((s.updReport fun r => { r with ackTimer := none }).acknowledge).endReport .ok

/-- ACK_TONE_FOUND: tone present for 500 ms in AWAIT_ACK (R132). -/
def execAckToneFound (s : State) : Result :=
  .next (s.whenLive fun s =>
    if s.report.phase = .awaitAck then
      s.onExpiry (s.line.toneFrom.map fun t => t + Config.ackToneMs) State.ackTone
    else s)

/-- ACK_TIMER_EXPIRY (R132, R133). -/
def execAckTimerExpiry (s : State) : Result :=
  .next (s.whenLive fun s => s.onExpiry s.report.ackTimer fun s => s.endReport .noAck)

/-- The next part word is the closing sequence word of a write-back (R147). -/
def State.atWriteBackEnd (s : State) : Bool :=
  s.isNext .cashStore && s.cash.restore.isNone && s.cash.phase == .writing
    && s.cash.written == Config.cashWords

/-- WRITE_BACK_END (R146, R147). -/
def execWriteBackEnd (s : State) : Result :=
  .next (s.whenLive fun s => s.turnsUntil State.atWriteBackEnd)

end Sys2Proof.Machine
end

