-- ==== Sys2Proof/Machine/Dispatch.lean ====
section
/-! DEFINITION. The dispatch: each command of the table to its meaning. -/

namespace Sys2Proof.Machine

/-- The effect of a command on everything but the queue of commands. -/
def exec (i : Instr) (s : State) : Host.Outcome State Fault Refusal :=
  match i with
  | .validatorStrobe code => Sys2Proof.Machine.execValidatorStrobe code s
  | .rejectPulse => Sys2Proof.Machine.execRejectPulse s
  | .slugLeakExpiry => Sys2Proof.Machine.execSlugLeakExpiry s
  | .slugCooloffExpiry => Sys2Proof.Machine.execSlugCooloffExpiry s
  | .flapHome => Sys2Proof.Machine.execFlapHome s
  | .chutePulse chute => Sys2Proof.Machine.execChutePulse chute s
  | .settleWindowEnd => Sys2Proof.Machine.execSettleWindowEnd s
  | .flapHomeTimeout => Sys2Proof.Machine.execFlapHomeTimeout s
  | .leverRawChange pressed => Sys2Proof.Machine.execLeverRawChange pressed s
  | .returnLeverPress => Sys2Proof.Machine.execReturnLeverPress s
  | .dialPost access value => Sys2Proof.Machine.execDialPost access value s
  | .prefixMatchEnd => Sys2Proof.Machine.execPrefixMatchEnd s
  | .interDigitTimeout => Sys2Proof.Machine.execInterDigitTimeout s
  | .zoneEntryReadEnd => Sys2Proof.Machine.execZoneEntryReadEnd s
  | .snapshotReadEnd => Sys2Proof.Machine.execSnapshotReadEnd s
  | .depositWaitExpiry => Sys2Proof.Machine.execDepositWaitExpiry s
  | .toneOnTimeExpiry => Sys2Proof.Machine.execToneOnTimeExpiry s
  | .toneOffTimeExpiry => Sys2Proof.Machine.execToneOffTimeExpiry s
  | .pulseBreakEnd => Sys2Proof.Machine.execPulseBreakEnd s
  | .pulseMakeEnd => Sys2Proof.Machine.execPulseMakeEnd s
  | .pulsePauseEnd => Sys2Proof.Machine.execPulsePauseEnd s
  | .pipDue => Sys2Proof.Machine.execPipDue s
  | .pipEnd => Sys2Proof.Machine.execPipEnd s
  | .guardExpiry => Sys2Proof.Machine.execGuardExpiry s
  | .tonePresentChange present => Sys2Proof.Machine.execTonePresentChange present s
  | .dialToneFound => Sys2Proof.Machine.execDialToneFound s
  | .dialToneTimeout => Sys2Proof.Machine.execDialToneTimeout s
  | .polarityChange reversed => Sys2Proof.Machine.execPolarityChange reversed s
  | .reversalAnswer => Sys2Proof.Machine.execReversalAnswer s
  | .meteringPulse => Sys2Proof.Machine.execMeteringPulse s
  | .timedAnswerExpiry => Sys2Proof.Machine.execTimedAnswerExpiry s
  | .answerWaitExpiry => Sys2Proof.Machine.execAnswerWaitExpiry s
  | .loopCurrentChange present => Sys2Proof.Machine.execLoopCurrentChange present s
  | .clearTimerExpiry => Sys2Proof.Machine.execClearTimerExpiry s
  | .polarityReturnClear => Sys2Proof.Machine.execPolarityReturnClear s
  | .hookRawChange onHook => Sys2Proof.Machine.execHookRawChange onHook s
  | .hookDebouncedChange => Sys2Proof.Machine.execHookDebouncedChange s
  | .hookFlashTimerExpiry => Sys2Proof.Machine.execHookFlashTimerExpiry s
  | .linePresentChange present => Sys2Proof.Machine.execLinePresentChange present s
  | .lineQualifyExpiry => Sys2Proof.Machine.execLineQualifyExpiry s
  | .unitTimerExpiry => Sys2Proof.Machine.execUnitTimerExpiry s
  | .graceTimerExpiry => Sys2Proof.Machine.execGraceTimerExpiry s
  | .clockSecond => Sys2Proof.Machine.execClockSecond s
  | .recordPublish => Sys2Proof.Machine.execRecordPublish s
  | .consumerIndexWrite access value => Sys2Proof.Machine.execConsumerIndexWrite access value s
  | .tamperRawChange input high => Sys2Proof.Machine.execTamperRawChange input high s
  | .tamperEdge input => Sys2Proof.Machine.execTamperEdge input s
  | .cordOnsetExpiry => Sys2Proof.Machine.execCordOnsetExpiry s
  | .retryTimerExpiry => Sys2Proof.Machine.execRetryTimerExpiry s
  | .holdTimerExpiry => Sys2Proof.Machine.execHoldTimerExpiry s
  | .goToneFound => Sys2Proof.Machine.execGoToneFound s
  | .goTimerExpiry => Sys2Proof.Machine.execGoTimerExpiry s
  | .ackToneFound => Sys2Proof.Machine.execAckToneFound s
  | .ackTimerExpiry => Sys2Proof.Machine.execAckTimerExpiry s
  | .writeBackEnd => Sys2Proof.Machine.execWriteBackEnd s
  | .partWordTurn => Sys2Proof.Machine.execPartWordTurn s
  | .hostWrite addr size value => Sys2Proof.Machine.execHostWrite addr size value s
  | .protectedWrite addr size value => Sys2Proof.Machine.execProtectedWrite addr size value s
  | .aliasRead offset lanes => Sys2Proof.Machine.execAliasRead offset lanes s
  | .eventClear access value => Sys2Proof.Machine.execEventClear access value s
  | .takeResponse access => Sys2Proof.Machine.execTakeResponse access s
  | .setMask mask => Sys2Proof.Machine.execSetMask mask s
  | .setClock date weekday hour minute second => Sys2Proof.Machine.execSetClock date weekday hour minute second s
  | .endCall => Sys2Proof.Machine.execEndCall s
  | .reportNow => Sys2Proof.Machine.execReportNow s
  | .clearAlarm kind => Sys2Proof.Machine.execClearAlarm kind s
  | .reloadSetup => Sys2Proof.Machine.execReloadSetup s
  | .reloadSetupReadEnd => Sys2Proof.Machine.execReloadSetupReadEnd s
  | .restartService => Sys2Proof.Machine.execRestartService s
  | .unknownCommand code => Sys2Proof.Machine.execUnknownCommand code s
  | .commandResponseWritten => Sys2Proof.Machine.execCommandResponseWritten s
  | .powerOn => Sys2Proof.Machine.execPowerOn s
  | .powerFail => Sys2Proof.Machine.execPowerFail s
  | .resetLineAssert => Sys2Proof.Machine.execResetLineAssert s
  | .resetLine => Sys2Proof.Machine.execResetLine s
  | .setupLoadEnd => Sys2Proof.Machine.execSetupLoadEnd s
  | .ringHeaderReadEnd => Sys2Proof.Machine.execRingHeaderReadEnd s
  | .restoreReadEnd => Sys2Proof.Machine.execRestoreReadEnd s
  | .hookFirstLevel => Sys2Proof.Machine.execHookFirstLevel s
  | .tamperFirstLevels => Sys2Proof.Machine.execTamperFirstLevels s
  | .flapLeavesRest => Sys2Proof.Machine.execFlapLeavesRest s
  | .leverRelease => Sys2Proof.Machine.execLeverRelease s
  | .leverFirstLevel => Sys2Proof.Machine.execLeverFirstLevel s

end Sys2Proof.Machine
end

