-- ==== Sys2Proof/Machine/Step.lean ====
section
/-! DEFINITION. The step: the command at the front of the queue is carried out; on an empty queue 1 ms passes. -/

namespace Sys2Proof.Machine

/-- One step: the front command runs on the state with the rest of the queue; on an empty queue the timebase
ticks, in place of idling (log entry 2). -/
def step (s : State) : Host.Outcome State Fault Refusal :=
  match s.pending with
  | [] => .next (s.updNow fun n => n + 1)
  | c :: rest => exec c (s.updPending fun _ => rest)

/-- The state with the command that a word spells at the front of its queue; no word of this block's table
spells a command. -/
def State.withFetchWord (s : State) (nbits w : Nat) : State :=
  match decodeTableWord nbits w with
  | some c => s.updPending fun q => c :: q
  | none => s

end Sys2Proof.Machine
end

