-- ==== Sys2Proof/Safety.lean ====
section
/-! DEFINITION. The terms that claims use: the classes of the commands, a step that goes on, the laws the spec
states of the purse, the alarm table, the queues and the settings, and the start condition of the blocks. -/

namespace Sys2Proof

/-- What a command is to the part: an access of the host, work at the memory port, a change of the level of a
field input, the supply or the reset line, the clock's second, or an event of a timer, a detector or a
mechanism. -/
inductive CommandClass where
  | hostAccess
  | portWork
  | inputChange
  | supply
  | clock
  | event
deriving DecidableEq, Repr

/-- The class of each command. -/
def Instr.commandClass (c : Instr) : CommandClass :=
  match c with
  | .dialPost _ _ | .consumerIndexWrite _ _ | .hostWrite _ _ _ | .protectedWrite _ _ _
  | .aliasRead _ _ | .eventClear _ _ | .takeResponse _ | .setMask _ | .setClock _ _ _ _ _
  | .endCall | .reportNow | .clearAlarm _ | .reloadSetup | .restartService | .unknownCommand _ => .hostAccess
  | .partWordTurn | .prefixMatchEnd | .zoneEntryReadEnd | .snapshotReadEnd | .recordPublish
  | .writeBackEnd | .reloadSetupReadEnd | .commandResponseWritten | .setupLoadEnd
  | .ringHeaderReadEnd | .restoreReadEnd => .portWork
  | .flapHome | .flapLeavesRest | .leverRawChange _ | .tonePresentChange _ | .polarityChange _
  | .loopCurrentChange _ | .hookRawChange _ | .linePresentChange _ | .tamperRawChange _ _ => .inputChange
  | .powerOn | .powerFail | .resetLineAssert | .resetLine => .supply
  | .clockSecond => .clock
  | .validatorStrobe _ | .rejectPulse | .slugLeakExpiry | .slugCooloffExpiry | .chutePulse _
  | .settleWindowEnd | .flapHomeTimeout | .returnLeverPress | .interDigitTimeout
  | .depositWaitExpiry | .toneOnTimeExpiry | .toneOffTimeExpiry | .pulseBreakEnd | .pulseMakeEnd
  | .pulsePauseEnd | .pipDue | .pipEnd | .guardExpiry | .dialToneFound | .dialToneTimeout
  | .reversalAnswer | .meteringPulse | .timedAnswerExpiry | .answerWaitExpiry | .clearTimerExpiry
  | .polarityReturnClear | .hookDebouncedChange | .hookFlashTimerExpiry | .lineQualifyExpiry
  | .unitTimerExpiry | .graceTimerExpiry | .tamperEdge _ | .cordOnsetExpiry | .retryTimerExpiry
  | .holdTimerExpiry | .goToneFound | .goTimerExpiry | .ackToneFound | .ackTimerExpiry
  | .hookFirstLevel | .tamperFirstLevels | .leverRelease | .leverFirstLevel => .event

end Sys2Proof

namespace Sys2Proof.Machine

/-- The outcome is a next state. -/
def Goes (o : Host.Outcome State Fault Refusal) : Prop := ∃ t, o = .next t

/-- The commands in the queue are well formed. -/
def State.queueWellFormed (s : State) : Prop := ∀ c ∈ s.pending, c.wellFormed = true

/-- The laws of an alarm entry (R113): carried is at most the count, the count at most 99; QUIET and REPORTED
kinds have count 0, RAISED and NOTED kinds at least 1; carried is 0 outside REPORTING. -/
def AlarmEntry.lawful (e : AlarmEntry) : Prop :=
  e.carried ≤ e.count ∧ e.count ≤ 99 ∧ (e.phase = .quiet → e.count = 0) ∧
    (e.phase = .reported → e.count = 0) ∧ (e.phase = .raised → 1 ≤ e.count) ∧
    (e.phase = .noted → 1 ≤ e.count) ∧ (e.phase = .reporting → 1 ≤ e.count) ∧
    (e.phase ≠ .reporting → e.carried = 0)

/-- The laws of the alarm table (R113, R115): each entry is lawful, and the report queue holds each kind at
most once and exactly the kinds that are RAISED or REPORTING. -/
def AlarmState.lawful (a : AlarmState) : Prop :=
  (∀ k, (a.get k).lawful) ∧ a.queue.Nodup ∧
    ∀ k, k ∈ a.queue ↔ ((a.get k).phase = .raised ∨ (a.get k).phase = .reporting)

/-- The purse within its limits (R6, R18): no class value above 5000 mu and total credit at most 64999 mu. -/
def State.creditLawful (s : State) : Prop :=
  (∀ v ∈ s.setup.settings.classValues, v ≤ 5000) ∧ s.coin.totalCredit ≤ 64999

/-- The two balances of R18: accepted value is collected, refunded and unconfirmed refund value with the escrow
value; collected value is revenue, forfeited value and banked credit. -/
def State.moneyBalances (s : State) : Prop :=
  s.cash.totals.accepted =
      s.cash.totals.collected + s.cash.totals.refunded + s.cash.totals.unconfirmed + s.coin.escrowValue ∧
    s.cash.totals.collected = s.cash.totals.revenue + s.cash.totals.forfeited + s.coin.banked

/-- No read of a start is in progress: neither the ring header nor the CASH area is being read, and no setup
load is for a start (R185). -/
def State.startReadsOver (s : State) : Prop :=
  s.records.headerRead = none ∧ s.cash.restore = none ∧ ∀ l, s.setup.load = some l → l.purpose = .reload

/-- The part queue holds each requester at most once (R161); the pending list holds at most one entry for each
tally, of an amount from 1 to 65535 (R159); the dial FIFO holds at most 32 symbols (R26). -/
def State.queuesLawful (s : State) : Prop :=
  s.path.partQueue.Nodup ∧ (s.path.tallies.map PendingTally.tally).Nodup ∧
    (∀ e ∈ s.path.tallies, 1 ≤ e.amount ∧ e.amount ≤ 65535) ∧ s.number.fifo.length ≤ 32

/-- A number lies in a range. -/
def within (low high n : Nat) : Prop := low ≤ n ∧ n ≤ high

/-- Every setting lies in its range and the area layout is valid (the table of chapter 11.1, R180, R181). -/
def Settings.inRange (t : Settings) : Prop :=
  layoutValid t.bases = true ∧ t.classValues.length = 8 ∧ (∀ v ∈ t.classValues, v ≤ 5000) ∧
    within 100 55000 t.creditCap ∧ within 200 4000 t.vaultCapacity ∧ t.vaultFillMargin ≤ 255 ∧
    t.vaultFillMargin < t.vaultCapacity ∧ within 3 30 t.slugThreshold ∧ within 30 600 t.slugCooloff ∧
    t.tamperDebounce ≤ 255 ∧ within 10 100 t.hookDebounce ∧ within 100 1000 t.hookFlashLimit ∧
    within 2 15 t.interDigitTimeout ∧ within 10 120 t.depositWait ∧ within 1 10 t.dialToneWait ∧
    within 30 300 t.answerWaitLimit ∧ within 40 200 t.toneOn ∧ within 40 200 t.toneOff ∧
    within 5 60 t.timedAnswerDelay ∧ within 5 60 t.graceTime ∧ t.defaultZone ≤ 15 ∧
    within 1 20 t.reportNumber.length ∧ (∀ d ∈ t.reportNumber, d ≤ 9) ∧ t.phoneIdentity.length = 8 ∧
    (∀ d ∈ t.phoneIdentity, d ≤ 9) ∧
    (t.dialLowThreshold = 0 ∨ t.dialLowThreshold = 4 ∨ t.dialLowThreshold = 8 ∨ t.dialLowThreshold = 16)

/-- The state with every block in its start condition: what a power loss or the reset line leaves of the part
(R184, R185), with the power state, the clock, the load in progress and the part queue given. -/
def State.inStartCondition (s : State) (power : PowerState) (clock : Clock) (load : Option SetupLoad)
    (queue : List Requester) : State where
  now := s.now
  mem := s.mem
  pins := s.pins
  power := power
  clock := clock
  setup := ⟨builtInSettings, .builtIn, load⟩
  coin := coinAtStart
  lever := debounceAtStart
  number := numberAtStart
  emitter := emitterAtStart
  line := lineAtStart s.now s.pins
  hook := hookAtStart
  rating := ratingAtStart
  records := recordsAtStart builtInSettings.bases.records
  tamper := tamperAtStart
  alarms := alarmsAtStart
  report := reportAtStart
  cash := cashAtStart
  path := ⟨queue, false, [], s.path.busWait, s.path.readData, s.path.flashCycles⟩
  status := ⟨0#16, 0#16⟩
  mailbox := ⟨none⟩
  pending := s.pending

/-- The bytes of memory from `base` up to, not including, `base + size` are the only ones that differ between
two memories. -/
def sameOutside (m m' : Memory) (base size : Nat) : Prop :=
  ∀ a, (a < base ∨ base + size ≤ a) → readByte m' a = readByte m a

/-- The pending amount of a tally, 0 with no entry for it in the pending list (R159). -/
def State.pendingTally (s : State) (name : TallyName) : Nat :=
  ((s.path.tallies.find? fun e => e.tally == name).map PendingTally.amount).getD 0

/-- A tally has risen by 1 from `s` to `t`: its pending amount is one higher, saturating (R158, R159). -/
abbrev State.tallyRises (s t : State) (name : TallyName) : Prop :=
  t.pendingTally name = min (s.pendingTally name + 1) 65535

/-- What an access that writes leaves, taken in `s` with an action that left `a`: from the state at its turn, `size`
bytes at `addr` may change and the part-owed mark is set, and nothing else (R157, R162; log entry 9). -/
def State.writesAt (s a t : State) (addr size : Nat) : Prop :=
  let u := s.atHostTurn a
  t = { u with mem := t.mem, path := { u.path with partOwed := true, flashCycles := t.path.flashCycles } } ∧
    sameOutside u.mem t.mem addr size

end Sys2Proof.Machine
end

