-- ==== Sys2Proof/Certificates/Slice0/Obligations.lean ====
section
/-! DEFINITION. The statements about the part, for the provers: the machine and its queue, the starts, the
invariants, the pure rules of the spec, and what each command does, family by family in the table's order. -/

open Sys2Proof Sys2Proof.Machine

/-! ### The machine and its queue -/

/-- A step takes the command at the front of the queue and carries it out on the state with the queue's rest. -/
def Obligations.FrontCommandRuns : Prop :=
  ∀ (c : Instr) (rest : List Instr) (s : State), s.pending = c :: rest →
    step s = exec c { s with pending := rest }

/-- The model's choice (log entry 2): with no command waiting, 1 ms of the timebase passes and nothing else
changes. The model's choice (log entry 3): a command that stands for the last word of a run of part work leaves
the whole state when the port has no work for it to wait on. -/
def Obligations.TicksAndRunsWithoutWork : Prop :=
  (∀ s : State, s.pending = [] → step s = .next { s with now := s.now + 1 }) ∧
  (∀ (c : Instr) (s : State), c.commandClass = .portWork → s.path.partQueue = [] → s.path.busWait = [] →
    exec c s = .next s)

/-- A run of any length over a queue of well-formed commands never stops: after each step the machine goes on
from a next state. The only stops are the model's choice (log entry 30, DEDUCED from the bus of chapter 9.1, which
states none): an access at or above 0x100000 faults and a word access at an odd address is refused; every other
command goes on. -/
def Obligations.WellFormedRunsNeverStop : Prop :=
  ((∀ s : State, s.queueWellFormed →
    ∃ t, step s = .next t ∧ t.queueWellFormed ∧ t.pending = s.pending.tail) ∧
  ∀ (n : Nat) (s : State), s.queueWellFormed → ∃ t, Host.Core.run core n s = .next t) ∧
  ((∀ (addr : Nat) (size : AccessSize) (v : Word) (s : State), 0x100000 ≤ addr →
    exec (.hostWrite addr size v) s = .fault (.addressOutsideMemory addr) ∧
    exec (.protectedWrite addr size v) s = .fault (.addressOutsideMemory addr)) ∧
  (∀ (addr : Nat) (v : Word) (s : State), addr < 0x100000 → addr % 2 = 1 →
    exec (.hostWrite addr .word v) s = .refused (.oddWordAccess addr) ∧
    exec (.protectedWrite addr .word v) s = .refused (.oddWordAccess addr)) ∧
  ∀ (c : Instr) (s : State), c.wellFormed = true → ∃ t, exec c s = .next t ∧ t.pending = s.pending)

/-- While the part is held (R184) it acts on nothing: an event and a run of port work leave the whole state, a
change of a field input moves its own pin alone, and a host access is held in bus wait (R164). During the reads of a
start every host access is held in bus wait, and nothing else changes (R164). -/
def Obligations.HeldPartActsOnNothing : Prop :=
  (∀ (c : Instr) (s : State), s.isHeld = true → c.wellFormed = true →
    (c.commandClass = .event ∨ c.commandClass = .portWork → exec c s = .next s) ∧
    (c.commandClass = .hostAccess →
      exec c s = .next { s with path := { s.path with busWait := s.path.busWait ++ [c] } })) ∧
  (∀ s : State, s.isHeld = true →
    exec .flapHome s = .next { s with pins := { s.pins with flapHome := true } } ∧
    exec .flapLeavesRest s = .next { s with pins := { s.pins with flapHome := false } } ∧
    ∀ b : Bool,
      exec (.leverRawChange b) s = .next { s with pins := { s.pins with leverPressed := b } } ∧
      exec (.hookRawChange b) s = .next { s with pins := { s.pins with onHook := b } } ∧
      exec (.tonePresentChange b) s = .next { s with pins := { s.pins with tonePresent := b } } ∧
      exec (.polarityChange b) s = .next { s with pins := { s.pins with reversed := b } } ∧
      exec (.loopCurrentChange b) s = .next { s with pins := { s.pins with loopCurrent := b } } ∧
      exec (.linePresentChange b) s = .next { s with pins := { s.pins with linePresent := b } } ∧
      ∀ i : TamperInput, exec (.tamperRawChange i b) s = .next
        { s with pins := { s.pins with tamper := s.pins.tamper.set i b } }) ∧
  (∀ (c : Instr) (s : State), s.restored = false → c.wellFormed = true → c.commandClass = .hostAccess →
    exec c s = .next { s with path := { s.path with busWait := s.path.busWait ++ [c] } })

/-- No event and no change of a field input writes memory, sets the clock, changes a setting or the event mask,
or touches the mailbox; only a change of a field input moves the pins. -/
def Obligations.EventsLeaveMemoryAndSettings : Prop :=
  ∀ (c : Instr) (s t : State), c.commandClass = .event ∨ c.commandClass = .inputChange → exec c s = .next t →
    t.mem = s.mem ∧ t.clock = s.clock ∧ t.setup = s.setup ∧ t.status.mask = s.status.mask ∧
      t.mailbox = s.mailbox ∧ t.path.busWait = s.path.busWait ∧ t.pending = s.pending ∧
      (c.commandClass = .event → t.pins = s.pins)

/-! ### The supply and the reset line (chapter 11.4) -/

/-- The state at reset is the one right after a power-on: start cause POWER_ON, the coin handler as R24 has it,
the clock unset from month 1, day 1, weekday 1, 00:00:00 (R68), the mailbox FREE (R169), no event flag set, the
setup load of step 1 waiting for the port and no command waiting. -/
def Obligations.ResetIsAPowerOn : Prop :=
  State.reset.power = ⟨true, false, .setupLoad, .powerOn⟩ ∧ State.reset.coin.op = .idle ∧
    State.reset.coin.actuator = .released ∧ State.reset.coin.request = .none ∧ State.reset.coin.slug = 0 ∧
    State.reset.coin.leakTimer = none ∧ State.reset.coin.cooloffTimer = none ∧
    State.reset.clock = ⟨1, 1, 1, 0, 0, 0, false, 1000⟩ ∧ State.reset.mailbox.command = none ∧
    State.reset.status.flags = 0#16 ∧ State.reset.path.partQueue = [.setupLoader] ∧
    State.reset.line.phase = .guarded ∧ State.reset.line.guardTimer = some 800 ∧
    State.reset.pending = [] ∧ State.reset.nattAsserted = false

/-- What the four commands of the supply and the reset line leave (R68, R184, R185). Supply: the clock starts
unset at POWER_ON and at POWER_FAIL. Reset line: the clock goes on. A start begins with the supply on and the
reset line released, and otherwise the part stays held. The model's choices in it: what a later step of the start is
to read holds, until it is read, the built-in settings, the last-load kind BUILT_IN, an empty ring header copy, a zero
cash image, an empty purse and an empty alarm table, with an empty event mask (log entry 8, DESIGN CHOICE); every
tamper input is INACTIVE before its first status (log entry 28, DESIGN CHOICE); memory, the pins, the timebase and
the accesses in bus wait stay (log entry 15, DEDUCED); the counts of the line inputs begin anew (log entry 27,
DEDUCED); a release without supply gives no start, one without an assertion gives one, and the start cause stays
until a start takes it (log entry 17, DESIGN CHOICE). -/
def Obligations.SupplyAndResetLine : Prop :=
  ∀ s : State,
    (s.power.resetAsserted = false → exec .powerOn s = .next (s.inStartCondition
      ⟨true, false, .setupLoad, .powerOn⟩ (clockUnset s.now) (some ⟨.start, []⟩) [.setupLoader])) ∧
    (s.power.resetAsserted = true → exec .powerOn s = .next (s.inStartCondition
      ⟨true, true, .setupLoad, s.power.cause⟩ (clockUnset s.now) none [])) ∧
    exec .powerFail s = .next (s.inStartCondition
      ⟨false, s.power.resetAsserted, .setupLoad, s.power.cause⟩ (clockUnset s.now) none []) ∧
    exec .resetLineAssert s = .next (s.inStartCondition
      ⟨s.power.supplyOn, true, .setupLoad, s.power.cause⟩ s.clock none []) ∧
    (s.power.supplyOn = true → exec .resetLine s = .next (s.inStartCondition
      ⟨true, false, .setupLoad, .resetLine⟩ s.clock (some ⟨.start, []⟩) [.setupLoader])) ∧
    (s.power.supplyOn = false → exec .resetLine s =
      .next { s with power := { s.power with resetAsserted := false } })

/-! ### Invariants that every step keeps, each from any state that has it -/

/-- Memory keeps its canonical form over every step. -/
def Obligations.StepKeepsMemoryForm : Prop :=
  ∀ s t : State, Memory.wf s.mem = true → step s = .next t → Memory.wf t.mem = true

/-- The laws of the alarm table and of the report queue hold over every step (R113, R115). -/
def Obligations.StepKeepsAlarmLaws : Prop :=
  ∀ s t : State, s.alarms.lawful → step s = .next t → t.alarms.lawful

/-- Total credit stays within 64999 mu over every step (R6, R18). -/
def Obligations.StepKeepsCreditLimit : Prop :=
  ∀ s t : State, s.creditLawful → step s = .next t → t.creditLawful

/-- The two balances of R18 hold over every step from a state with no start read in progress, while accepted
value has room for one more coin below 2^32 mu. -/
def Obligations.StepKeepsMoneyBalances : Prop :=
  ∀ s t : State, s.moneyBalances → s.startReadsOver →
    (∀ code, s.cash.totals.accepted + classValue s.setup.settings.classValues code < 2 ^ 32) →
    step s = .next t → t.moneyBalances

/-- The part queue, the pending list of the tally logic and the dial FIFO keep their laws over every step (R26,
R159, R161). -/
def Obligations.StepKeepsQueueLaws : Prop :=
  ∀ s t : State, s.queuesLawful → step s = .next t → t.queuesLawful

/-- The current settings lie in their ranges and the area layout stays valid over every step (R180, R181). -/
def Obligations.StepKeepsSettingsInRange : Prop :=
  ∀ s t : State, s.setup.settings.inRange → step s = .next t → t.setup.settings.inRange

/-- Each of the six invariants holds at reset. -/
def Obligations.ResetHasTheInvariants : Prop :=
  Memory.wf State.reset.mem = true ∧ State.reset.alarms.lawful ∧ State.reset.creditLawful ∧
    State.reset.moneyBalances ∧ State.reset.queuesLawful ∧ State.reset.setup.settings.inRange

/-! ### Rules of the spec that are functions of what the part holds -/

/-- The accept-inhibit output and NATT of a part that is not held (R5, R167): inhibit is asserted while at least
one of the six reasons holds, NATT while a flag is both set and in the mask; both outputs of a held part are as
R184 has them. -/
def Obligations.OutputsFollowTheirConditions : Prop :=
  ∀ s : State,
    (s.isHeld = false →
      (s.acceptInhibit = true ↔
        s.hook.phase ≠ .offHook ∨ s.coin.op = .collecting ∨ s.coin.op = .refunding ∨ 7 ≤ s.coin.escrow.length ∨
          s.setup.settings.creditCap ≤ s.coin.totalCredit ∨ s.coin.cooloffTimer ≠ none ∨
          s.coin.reasons ≠ noReasons) ∧
      (s.nattAsserted = true ↔ ∃ f : EventFlag, f.isIn s.status.flags = true ∧ f.isIn s.status.mask = true)) ∧
    (s.isHeld = true → s.acceptInhibit = true ∧ s.nattAsserted = false)

/-- R88. The credit display word (word 11 of the LIVE area) shows total credit as four BCD digits, 0x9999 above
9999 mu, and bit 0 of the display status word (word 12) the overflow; both follow total credit at each read. -/
def Obligations.CreditDisplayShowsTotalCredit : Prop :=
  ∀ s : State,
    (s.coin.totalCredit ≤ 9999 →
      (s.liveWord 11).toNat / 4096 * 1000 + (s.liveWord 11).toNat / 256 % 16 * 100 +
          (s.liveWord 11).toNat / 16 % 16 * 10 + (s.liveWord 11).toNat % 16 = s.coin.totalCredit ∧
      (s.liveWord 11).toNat / 4096 ≤ 9 ∧ (s.liveWord 11).toNat / 256 % 16 ≤ 9 ∧
      (s.liveWord 11).toNat / 16 % 16 ≤ 9 ∧ (s.liveWord 11).toNat % 16 ≤ 9 ∧ s.liveWord 12 = 0#16) ∧
    (9999 < s.coin.totalCredit → s.liveWord 11 = 0x9999#16 ∧ s.liveWord 12 = 1#16) ∧
    ∀ addr k, s.holdsHost = false → s.setup.settings.bases.areaAt addr = some .live →
      s.setup.settings.bases.offset .live addr = k →
      s.hostRead addr .word = some { s with path := { s.path with readData := s.liveWord k } }

/-- R30: how an entry of the prefix table is read (a prefix length of 9 to 15 is empty, a number length of 0 is 1
and at most 20, the minimum at most the maximum) and when it matches. R31: of the 64 entries that match the digits
the one with the longest prefix wins, of equal lengths the one with the lowest index; there is no winner exactly
when no entry matches. -/
def Obligations.LongestPrefixWins : Prop :=
  (∀ (ws : List Word) (e : Nat),
    let w := fun k => (ws.getD (4 * e + k) 0#16).toNat
    let lengthRead := fun n => if n = 0 then 1 else min n 20
    let p := prefixEntry ws e
    p.length = (if 9 ≤ w 0 % 16 then 0 else w 0 % 16) ∧ p.zone = w 0 / 16 % 16 ∧
      p.maxLength = lengthRead (w 1 % 32) ∧
      p.minLength = min (lengthRead (w 0 / 256 % 32)) (lengthRead (w 1 % 32)) ∧
      p.symbols = [w 2 % 16, w 2 / 16 % 16, w 2 / 256 % 16, w 2 / 4096, w 3 % 16, w 3 / 16 % 16,
        w 3 / 256 % 16, w 3 / 4096]) ∧
  (∀ (p : PrefixEntry) (digits : List Nat), p.fits digits = true ↔
    1 ≤ p.length ∧ p.length ≤ digits.length ∧ (∀ c ∈ p.symbols.take p.length, c ≤ 11) ∧
      p.symbols.take p.length = digits.take p.length) ∧
  ∀ (ws : List Word) (digits : List Nat),
    (∀ e, winningEntry ws digits = some e →
      e < 64 ∧ (prefixEntry ws e).fits digits = true ∧
        ∀ j, j < 64 → (prefixEntry ws j).fits digits = true →
          (prefixEntry ws j).length ≤ (prefixEntry ws e).length ∧
            ((prefixEntry ws j).length = (prefixEntry ws e).length → e ≤ j)) ∧
    (winningEntry ws digits = none ↔ ∀ j, j < 64 → (prefixEntry ws j).fits digits = false)

/-- R69: the day type of the clock's date, over a holiday list whose entries hold a month in the high byte and a
day in the low byte; the list is words 72 to 87 of the 88 that the snapshot step reads. -/
def Obligations.DayTypeOfTheDate : Prop :=
  (∀ (snap : Snapshot) (c : Clock),
    let listed := ∃ w ∈ snap.holidays, 1 ≤ w.toNat / 256 ∧ w.toNat / 256 ≤ 12 ∧ 1 ≤ w.toNat % 256 ∧
      w.toNat % 256 ≤ 31 ∧ w.toNat / 256 = c.month ∧ w.toNat % 256 = c.day
    (dayType snap c = .sunday ↔ c.weekday = 7 ∨ listed) ∧
    (dayType snap c = .saturday ↔ c.weekday = 6 ∧ ¬ listed) ∧
    (dayType snap c = .weekday ↔ c.weekday ≠ 7 ∧ c.weekday ≠ 6 ∧ ¬ listed)) ∧
  ∀ (entry words : List Word), (snapshotOf entry words).holidays = (words.drop 72).take 16

/-- R70: the band of a moment is the byte of the band map at the row of the day type and the half-hour slot, a
byte above 3 is DAY with FALLBACK_RATE, and an unset clock is DAY with CLOCK_UNSET; the unit of the moment takes
its band, its effective charge and its length with the flags of both. R72: the required deposit is
S + P × Ueff. R71: q is the multiplied base charge with the half rounded up, v is q plus the additive, and the
effective unit charge is v clamped to 1 to 9999 with the flag of the clamp that acted. -/
def Obligations.EffectiveUnitCharge : Prop :=
  (∀ (snap : Snapshot) (c : Clock),
    let row := match dayType snap c with
      | .weekday => 0
      | .saturday => 1
      | .sunday => 2
    let place := 48 * row + (60 * c.hour + c.minute) / 30
    let pair := (snap.bandMap.getD (place / 2) 0#16).toNat
    let code := if place % 2 = 0 then pair % 256 else pair / 256
    let found := fun (b : Band) (terms : BandTerms) (flags : RatingFlags) =>
      let charge := effectiveCharge snap.baseCharge terms.multiplier terms.additive
      ratedUnit snap c = (⟨b, charge.1, terms.length⟩, flags ||| charge.2)
    (c.isSet = false → found .day snap.day RatingFlag.clockUnset.only) ∧
    (c.isSet = true →
      (code = 0 → found .peak snap.peak 0#8) ∧ (code = 1 → found .day snap.day 0#8) ∧
      (code = 2 → found .evening snap.evening 0#8) ∧ (code = 3 → found .night snap.night 0#8) ∧
      (4 ≤ code → found .day snap.day RatingFlag.fallbackRate.only))) ∧
  (∀ (snap : Snapshot) (c : Clock), snap.setupCharge ≤ 9999 → 1 ≤ snap.depositUnits → snap.depositUnits ≤ 4 →
    let d := requiredDeposit snap (ratedUnit snap c).1.charge
    d = snap.setupCharge + snap.depositUnits * (ratedUnit snap c).1.charge ∧ 1 ≤ d ∧ d ≤ 49995) ∧
  ∀ (base m : Nat) (a : Int),
    let q := (base * m + 512) / 1024
    (2048 * q ≤ 2 * base * m + 1024 ∧ 2 * base * m < 2048 * q + 1024) ∧
    (9999 < (q : Int) + a → effectiveCharge base m a = (9999, RatingFlag.clampHigh.only)) ∧
    ((q : Int) + a < 1 → effectiveCharge base m a = (1, RatingFlag.clampLow.only)) ∧
    (1 ≤ (q : Int) + a → (q : Int) + a ≤ 9999 →
      ((effectiveCharge base m a).1 : Int) = q + a ∧ (effectiveCharge base m a).2 = 0#8) ∧
    1 ≤ (effectiveCharge base m a).1 ∧ (effectiveCharge base m a).1 ≤ 9999

/-- R67, R68: a second on, a clock in range is in range, the set mark stays, and the time of day goes on by one
second, with the date and the weekday moving on exactly at midnight. The command of the second advances the
clock and nothing else while the supply is on, the next second beginning 1000 ms after this one was due, and
does nothing without supply. -/
def Obligations.ClockCountsSeconds : Prop :=
  (∀ c : Clock,
    (1 ≤ c.month ∧ c.month ≤ 12) ∧ (1 ≤ c.day ∧ c.day ≤ (if c.month = 2 then 29 else monthLength c.month)) ∧
      (1 ≤ c.weekday ∧ c.weekday ≤ 7) ∧ c.hour ≤ 23 ∧ c.minute ≤ 59 ∧ c.second ≤ 59 →
    let n := c.nextSecond
    (1 ≤ n.month ∧ n.month ≤ 12) ∧ (1 ≤ n.day ∧ n.day ≤ (if n.month = 2 then 29 else monthLength n.month)) ∧
      (1 ≤ n.weekday ∧ n.weekday ≤ 7) ∧ n.hour ≤ 23 ∧ n.minute ≤ 59 ∧ n.second ≤ 59 ∧ n.isSet = c.isSet ∧
    (n.hour * 60 + n.minute) * 60 + n.second = ((c.hour * 60 + c.minute) * 60 + c.second + 1) % 86400 ∧
    ((c.hour * 60 + c.minute) * 60 + c.second < 86399 →
      n.month = c.month ∧ n.day = c.day ∧ n.weekday = c.weekday) ∧
    ((c.hour * 60 + c.minute) * 60 + c.second = 86399 →
      n.weekday = c.weekday % 7 + 1 ∧
      (c.day < monthLength c.month → n.day = c.day + 1 ∧ n.month = c.month) ∧
      (monthLength c.month ≤ c.day → n.day = 1 ∧ n.month = c.month % 12 + 1))) ∧
  (∀ s : State,
    (s.power.supplyOn = true → exec .clockSecond s = .next
      { s with now := max s.now s.clock.nextAt
               clock := { s.clock.nextSecond with nextAt := s.clock.nextAt + 1000 } }) ∧
    (s.power.supplyOn = false → exec .clockSecond s = .next s))

/-- R101. An offer while a record is held merges into it, field by field, raises the merges tally, and leaves
memory, the flag word's copy and the queue of writes as they are. Of two times that compare equal either may
stand (the model's choice between them is log entry 33). -/
def Obligations.OfferedRecordMerges : Prop :=
  ∀ (s : State) (h r : CallRecord) (a b : CalTime), s.records.held = some h → h.seizeTime = some a →
    r.seizeTime = some b → ∃ seize finish : CalTime,
    (seize = a ∨ seize = b) ∧ seize.stamp ≤ a.stamp ∧ seize.stamp ≤ b.stamp ∧
    (finish = h.endTime ∨ finish = r.endTime) ∧ h.endTime.stamp ≤ finish.stamp ∧
    r.endTime.stamp ≤ finish.stamp ∧
    let merged : CallRecord :=
      { kind := .merged, cause := r.cause, zone := none, number := none, seizeTime := some seize,
        answerTime := none, endTime := finish,
        units := some (min (h.units.getD 0 + r.units.getD 0) 65535),
        charge := min (h.charge + r.charge) 65535,
        coins := some (min (h.coins.getD 0 + r.coins.getD 0) 65535),
        flags := h.flags ||| r.flags, calls := min (h.calls + r.calls) 65535, alarms := none }
    s.offerRecord r = State.tally { s with records := { s.records with held := some merged } } .merges ∧
    (s.offerRecord r).mem = s.mem ∧ (s.offerRecord r).records.flag = s.records.flag ∧
    (s.offerRecord r).records.jobs = s.records.jobs

/-- R114: an occurrence changes the entry of its kind and the queue by the state and the report enable, and no
other entry. R117: an acknowledgement settles every REPORTING kind: none left to report, REPORTED and out of the
queue; else RAISED with what was not carried, at the newest end, the kinds re-appended in the order they had
behind every other kind. Other entries stay. R118, R119: a failed attempt returns each REPORTING kind to RAISED
in its place with its whole count; a clear of all returns the REPORTED and NOTED kinds to QUIET; neither moves
the queue. -/
def Obligations.AlarmTableRules : Prop :=
  (∀ (a : AlarmState) (k : AlarmKind) (enabled : Bool) (t : CalTime),
    ((a.get k).phase = .quiet ∨ (a.get k).phase = .reported →
      (a.occur k enabled t).get k = ⟨if enabled then .raised else .noted, 1, 0, some t, some t⟩ ∧
      (a.occur k enabled t).queue = if enabled then a.queue ++ [k] else a.queue) ∧
    ((a.get k).phase = .raised ∨ (a.get k).phase = .reporting ∨ (a.get k).phase = .noted →
      (a.occur k enabled t).get k =
        { a.get k with count := min ((a.get k).count + 1) 99, lastTime := some t } ∧
      (a.occur k enabled t).queue = a.queue) ∧
    ∀ j, j ≠ k → (a.occur k enabled t).get j = a.get j) ∧
  (∀ a : AlarmState, a.lawful →
    (∀ k, a.acknowledge.get k =
      if (a.get k).phase = .reporting then
        if (a.get k).count ≤ (a.get k).carried then { a.get k with phase := .reported, count := 0, carried := 0 }
        else { a.get k with phase := .raised, count := (a.get k).count - (a.get k).carried, carried := 0 }
      else a.get k) ∧
    a.acknowledge.queue = a.queue.filter (fun k => (a.get k).phase != .reporting) ++
      a.queue.filter fun k => (a.get k).phase == .reporting && decide ((a.get k).carried < (a.get k).count)) ∧
  (∀ a : AlarmState,
    (∀ k, a.fail.get k =
      if (a.get k).phase = .reporting then { a.get k with phase := .raised, carried := 0 } else a.get k) ∧
    a.fail.queue = a.queue ∧
    (∀ k, a.clearAll.get k =
      if (a.get k).phase = .reported ∨ (a.get k).phase = .noted then ⟨.quiet, 0, 0, none, none⟩ else a.get k) ∧
    a.clearAll.queue = a.queue)

/-- R130: the message built over a table just fixed (each queued kind with a carried count up to 99) and an
identity of eight digits: its symbols in order, its length, its digits and its check digit. -/
def Obligations.ReportMessageShape : Prop :=
  ∀ (identity : List Nat) (a : AlarmState) (collected : Nat), identity.length = 8 →
    (∀ k ∈ a.queue, (a.get k).carried ≤ 99) →
    let groups := a.queue.flatMap fun k =>
      [k.code / 10, k.code % 10, (a.get k).carried / 10, (a.get k).carried % 10]
    let v := min collected 999999
    let vault := [v / 100000, v / 10000 % 10, v / 1000 % 10, v / 100 % 10, v / 10 % 10, v % 10]
    reportMessage identity a collected = [10] ++ identity ++ [12] ++ groups ++ [12] ++ vault ++
      [(identity.sum + groups.sum + vault.sum) % 10, 15] ∧
    (reportMessage identity a collected).length = 19 + 4 * a.queue.length

/-- R144, R147, R149, R190: the 128 words that a whole write-back leaves (the sequence, the field words of the copy
in ascending order and the check word, as each turn forms them) pass the check of a restore, and the restore reads
back the money totals, the counts, banked credit and the classes of the escrow and the gate. -/
def Obligations.WriteBackRestores : Prop :=
  ∀ s : State, s.cash.sequence.toNat % 2 = 0 → s.cash.totals.accepted < 2 ^ 32 →
    s.cash.totals.collected < 2 ^ 32 → s.cash.totals.jammed < 2 ^ 32 → s.cash.totals.refunded < 2 ^ 32 →
    s.cash.totals.unconfirmed < 2 ^ 32 → s.cash.totals.revenue < 2 ^ 32 → s.cash.totals.forfeited < 2 ^ 32 →
    s.cash.acceptedCounts.length = 8 → (∀ n ∈ s.cash.acceptedCounts, n < 65536) →
    s.cash.vaultCounts.length = 8 → (∀ n ∈ s.cash.vaultCounts, n < 65536) → s.cash.vaultCoins < 65536 →
    s.coin.banked < 2 ^ 32 → s.coin.escrow.length ≤ 8 → (∀ c ∈ s.coin.escrow, isClass c.cls = true) →
    (∀ g, s.coin.gate = some g → isClass g.cls = true) →
    let ws := s.cash.sequence :: cashFields s ++ [sumWords (cashFields s)]
    (∀ c : CashState, c.copyWords = cashFields s →
      ∀ k, 1 ≤ k → k ≤ 127 → c.copyWord k = ws.getD k 0#16) ∧
    ws.length = 128 ∧ restoreChecks ws = true ∧ (restoredCash ws).totals = s.cash.totals ∧
      (restoredCash ws).acceptedCounts = s.cash.acceptedCounts ∧
      (restoredCash ws).vaultCounts = s.cash.vaultCounts ∧ (restoredCash ws).vaultCoins = s.cash.vaultCoins ∧
      (restoredCash ws).sequence = s.cash.sequence ∧ natAt32 ws 32 = s.coin.banked ∧
      mirroredClasses ws = s.coin.escrow.map Coin.cls ∧
      mirroredGate ws = (match s.coin.gate with | some g => g.cls | none => 0)

/-- R179. The setup block passes its check exactly when its words sum to 0 mod 65536; an erased block fails; and
word 255 is read for the sum alone. -/
def Obligations.SetupBlockCheck : Prop :=
  (∀ ws : List Word, setupChecks ws = true ↔ (ws.map BitVec.toNat).sum % 65536 = 0) ∧
  setupChecks (List.replicate 256 0xFFFF#16) = false ∧
  ∀ (ws : List Word) (w : Word), ws.length = 255 →
    (settingsOf (ws ++ [w])).value = (settingsOf (ws ++ [0#16])).value ∧
    (settingsOf (ws ++ [w])).count = (settingsOf (ws ++ [0#16])).count ∧ basesAt (ws ++ [w]) = basesAt ws

/-! ### Coins, the escrow and the lever (chapter 1) -/

/-- R4, R21: below the slug threshold a reject pulse counts once in the slug counter, the rejects tally and
COIN_REJECT, starts the leak timer if the counter rises from 0, and changes nothing else. A strobe that cannot
be taken (R3: a class outside 1 to 8, no room, or credit above 64999 mu), and every strobe in the reads of a start
(R185), is treated as a reject pulse in every respect. -/
def Obligations.RejectPulseCounts : Prop :=
  (∀ s : State, s.isHeld = false → s.coin.slug + 1 < s.setup.settings.slugThreshold →
    exec .rejectPulse s = .next
      { s with coin := { s.coin with slug := s.coin.slug + 1,
                                     leakTimer := if s.coin.slug = 0 then some (s.now + 6000) else s.coin.leakTimer }
               status := { s.status with flags := s.status.flags ||| EventFlag.coinReject.only }
               path := (s.tally .rejects).path }) ∧
  ∀ (code : Nat) (s : State),
    (code < 1 ∨ 8 < code ∨ (s.coin.inFlight = false ∧ 8 ≤ s.coin.escrow.length) ∨
      (s.coin.inFlight = true ∧ s.coin.gate ≠ none) ∨
      64999 < s.coin.totalCredit + classValue s.setup.settings.classValues code ∨ s.restored = false) →
    exec (.validatorStrobe code) s = exec .rejectPulse s

/-- R21: the reject pulse that brings the slug counter to the threshold sets it to 0, stops the leak timer,
starts the cool-off from full and hands the alarm table one SLUG_ATTACK occurrence; the purse, the escrow, the
gate, the money totals and memory stay. The leak timer takes 1 from the counter and starts again while it stays
above 0; the cool-off ends. -/
def Obligations.SlugAttackAndItsTimers : Prop :=
  (∀ s : State, s.isHeld = false → s.setup.settings.slugThreshold ≤ s.coin.slug + 1 →
    ∃ t, exec .rejectPulse s = .next t ∧
      t.coin = { s.coin with slug := 0, leakTimer := none,
                             cooloffTimer := some (s.now + 1000 * s.setup.settings.slugCooloff) } ∧
      t.alarms = s.alarms.occur .slugAttack (AlarmKind.slugAttack.isIn s.setup.settings.reportEnables) s.calendar ∧
      EventFlag.alarm.isIn t.status.flags = true ∧ EventFlag.coinReject.isIn t.status.flags = true ∧
      t.cash.totals = s.cash.totals ∧ t.mem = s.mem ∧ t.number = s.number ∧ t.tamper = s.tamper ∧
      t.setup = s.setup ∧ t.rating = s.rating ∧ t.records = s.records) ∧
  (∀ (s : State) (m : Nat), s.isHeld = false →
    (s.coin.leakTimer = some m → exec .slugLeakExpiry s = .next
      { s with now := max s.now m
               coin := { s.coin with slug := s.coin.slug - 1,
                                     leakTimer := if 1 < s.coin.slug then some (max s.now m + 6000) else none } }) ∧
    (s.coin.cooloffTimer = some m → exec .slugCooloffExpiry s = .next
      { s with now := max s.now m, coin := { s.coin with cooloffTimer := none } }))

/-- R2, R7, R8: a strobe with a class from 1 to 8, with room in the escrow (or, while an operation is in flight,
on the gate) and total credit within 64999 mu, is taken with the value its class has now; the accepted value and
count rise, COIN_IN is set, banked credit, memory and the settings stay. -/
def Obligations.CoinTaken : Prop :=
  ∀ (code : Nat) (s : State), s.isHeld = false → s.restored = true → 1 ≤ code → code ≤ 8 →
    s.coin.totalCredit + classValue s.setup.settings.classValues code ≤ 64999 →
    (if s.coin.inFlight then s.coin.gate = none else s.coin.escrow.length < 8) →
    ∃ t, exec (.validatorStrobe code) s = .next t ∧
      (s.coin.inFlight = false →
        t.coin.escrow = s.coin.escrow ++ [⟨code, classValue s.setup.settings.classValues code⟩] ∧
        t.coin.gate = s.coin.gate) ∧
      (s.coin.inFlight = true →
        t.coin.gate = some ⟨code, classValue s.setup.settings.classValues code⟩ ∧
        t.coin.escrow = s.coin.escrow ∧ t.coin.op = s.coin.op ∧ t.coin.opItems = s.coin.opItems) ∧
      t.coin.banked = s.coin.banked ∧ t.coin.slug = s.coin.slug ∧ t.coin.reasons = s.coin.reasons ∧
      t.cash.totals = { s.cash.totals with
        accepted := addMoney s.cash.totals.accepted (classValue s.setup.settings.classValues code) } ∧
      t.cash.acceptedCounts = addClassCount s.cash.acceptedCounts code 1 ∧
      t.cash.vaultCoins = s.cash.vaultCoins ∧ EventFlag.coinIn.isIn t.status.flags = true ∧
      t.mem = s.mem ∧ t.setup = s.setup ∧ t.tamper = s.tamper ∧ t.hook = s.hook ∧ t.clock = s.clock

/-- R10: the flap-home input and the chute sensors. A change to home stops the flap-home timer, releases the
actuator and opens the settle window (500 ms for a collect, 1000 ms for a refund); an input that already reads
home does nothing; a pulse of the sensor of the operation counts while the settle window is open. -/
def Obligations.FlapAndChuteInputs : Prop :=
  ∀ (s : State), s.isHeld = false →
    (s.pins.flapHome = true → exec .flapHome s = .next s) ∧
    (s.pins.flapHome = false → exec .flapHome s = .next
      { s with pins := { s.pins with flapHome := true }
               coin := if s.coin.inFlight = true ∧ s.coin.flapTimer ≠ none then
                   { s.coin with flapTimer := none, actuator := .released,
                                 settleTimer := some (s.now + if s.coin.op = .refunding then 1000 else 500) }
                 else s.coin }) ∧
    exec .flapLeavesRest s = .next { s with pins := { s.pins with flapHome := false } } ∧
    ∀ chute, exec (.chutePulse chute) s = .next
      { s with coin := { s.coin with chuteCount :=
          if s.coin.settleTimer ≠ none ∧
              ((chute = .vault ∧ s.coin.op = .collecting) ∨ (chute = .ret ∧ s.coin.op = .refunding))
            then s.coin.chuteCount + 1 else s.coin.chuteCount } }

/-- R11, R14, R20, R22: the settle window of a collect ends. The items leave the escrow for the vault, the gate
coin becomes its first item, and, unless a collection close is owed, collected value rises by their value, jammed
value by that of the items not seen to pass, and the vault count by their number; with no call to charge, banked
credit rises by their value, or is forfeited under the standing refund condition. A shortfall is one COIN_JAM
occurrence; a count that reaches the fill level is one VAULT_FULL occurrence, and at the full level reason
VAULT_FULL stands. R12, R14: the settle window of a refund ends. The items leave the escrow and the gate coin
becomes its first item; unless a collection close is owed, the oldest k items (as many as were seen to pass) are
confirmed and the others unconfirmed, and a shortfall is one RETURN_BLOCKED occurrence. -/
def Obligations.SettleWindowEnds : Prop :=
  (∀ (s : State) (m : Nat), s.isHeld = false → s.coin.settleTimer = some m → s.coin.op = .collecting →
    let items := s.coin.escrow.take s.coin.opItems
    let k := min s.coin.chuteCount items.length
    let count := min (s.cash.vaultCoins + items.length) 65535
    let fill := s.setup.settings.vaultCapacity - s.setup.settings.vaultFillMargin
    let occurred := fun kind : AlarmKind =>
      ((s.alarms.occur kind (kind.isIn s.setup.settings.reportEnables) s.calendar).get kind).count
    ∃ t, exec .settleWindowEnd s = .next t ∧
      t.coin.escrow = s.coin.gate.toList ++ s.coin.escrow.drop s.coin.opItems ∧ t.coin.gate = none ∧
      t.coin.settleTimer = none ∧
      (s.cash.closeOwed = false →
        t.cash.totals.accepted = s.cash.totals.accepted ∧
        t.cash.totals.collected = addMoney s.cash.totals.collected (coinsValue items) ∧
        t.cash.totals.jammed = addMoney s.cash.totals.jammed (coinsValue (items.drop k)) ∧
        t.cash.totals.refunded = s.cash.totals.refunded ∧ t.cash.vaultCoins = count ∧
        (s.cash.vaultCoins < fill → fill ≤ count → t.coin.fillWarned = true) ∧
        (s.setup.settings.vaultCapacity ≤ count → t.coin.reasons.vaultFull = true)) ∧
      (s.rating.context = none → t.coin.banked =
        if 0 < coinsValue items ∧ (s.hook.phase = .cleared ∨ s.tamper.sessionOpen = true) then 0
        else s.coin.banked + coinsValue items) ∧
      (t.alarms.get .coinJam).count =
        (if k < items.length then occurred .coinJam else (s.alarms.get .coinJam).count) ∧
      (t.alarms.get .vaultFull).count =
        (if s.cash.vaultCoins < fill ∧ fill ≤ count ∧ s.coin.fillWarned = false then occurred .vaultFull
         else (s.alarms.get .vaultFull).count) ∧
      (k < items.length → (t.alarms.get .coinJam).lastTime = some s.calendar) ∧
      t.mem = s.mem ∧ t.clock = s.clock ∧ t.setup = s.setup ∧ t.hook = s.hook ∧ t.pins = s.pins) ∧
  (∀ (s : State) (m : Nat), s.isHeld = false → s.coin.settleTimer = some m → s.coin.op = .refunding →
    let items := s.coin.escrow.take s.coin.opItems
    let k := min s.coin.chuteCount items.length
    ∃ t, exec .settleWindowEnd s = .next t ∧
      t.coin.escrow = s.coin.gate.toList ++ s.coin.escrow.drop s.coin.opItems ∧ t.coin.gate = none ∧
      t.coin.banked = s.coin.banked ∧ t.coin.settleTimer = none ∧
      (s.cash.closeOwed = false →
        t.cash.totals = { s.cash.totals with
          refunded := addMoney s.cash.totals.refunded (coinsValue (items.take k)),
          unconfirmed := addMoney s.cash.totals.unconfirmed (coinsValue (items.drop k)) }) ∧
      (t.alarms.get .returnBlocked).count =
        (if k < items.length then ((s.alarms.occur .returnBlocked
            (AlarmKind.returnBlocked.isIn s.setup.settings.reportEnables) s.calendar).get .returnBlocked).count
         else (s.alarms.get .returnBlocked).count) ∧
      (k < items.length → (t.alarms.get .returnBlocked).lastTime = some s.calendar) ∧
      t.mem = s.mem ∧ t.clock = s.clock ∧ t.setup = s.setup ∧ t.hook = s.hook ∧ t.pins = s.pins)

/-- R13: the flap-home timer of an operation in flight runs out: reason ESCROW_JAMMED stands, one COIN_JAM
occurrence is taken and no RETURN_BLOCKED, the items leave the escrow, and, unless a collection close is owed, a
collect's items are collected and all of them jammed, a refund's all unconfirmed. With no call to charge a collect
still raises banked credit by the items, or forfeits it under the standing refund condition (R14, R20). The jams tally
rises by 1 (R159). The actuator is released and the operation is JAMMED, unless a gate coin makes an escrow over which
the pending request starts, or a refund under the standing refund condition (R14). -/
def Obligations.FlapTimeoutJams : Prop :=
  ∀ (s : State) (m : Nat), s.isHeld = false → s.coin.flapTimer = some m →
    s.coin.op = .collecting ∨ s.coin.op = .refunding →
    let items := s.coin.escrow.take s.coin.opItems
    let left := s.coin.gate.toList ++ s.coin.escrow.drop s.coin.opItems
    let standing := s.hook.phase = .cleared ∨ s.tamper.sessionOpen = true
    let operation := fun (op : EscrowOp) (drive : Actuator) (c : CoinState) => c.op = op ∧ c.actuator = drive ∧
      c.opItems = left.length ∧ c.chuteCount = 0 ∧ c.flapTimer = some (max s.now m + 1500)
    ∃ t, exec .flapHomeTimeout s = .next t ∧ t.coin.reasons.escrowJammed = true ∧
      s.tallyRises t .jams ∧ t.coin.settleTimer = none ∧
      (left = [] → t.coin.op = .jammed ∧ t.coin.actuator = .released ∧ t.coin.flapTimer = none ∧
        t.coin.request = .none) ∧
      (left ≠ [] → s.coin.request = .collect → operation .collecting .collect t.coin) ∧
      (left ≠ [] → s.coin.request = .refund ∨ (s.coin.request = .none ∧ standing) →
        operation .refunding .refund t.coin) ∧
      (left ≠ [] → s.coin.request = .none → ¬ standing → s.rating.context = none →
        t.coin.op = .jammed ∧ t.coin.actuator = .released ∧ t.coin.flapTimer = none ∧
          t.coin.request = .none) ∧
      (t.alarms.get .coinJam).lastTime = some s.calendar ∧
      (t.alarms.get .coinJam).count = ((s.alarms.occur .coinJam
        (AlarmKind.coinJam.isIn s.setup.settings.reportEnables) s.calendar).get .coinJam).count ∧
      (t.alarms.get .returnBlocked).count = (s.alarms.get .returnBlocked).count ∧
      t.coin.escrow = left ∧ t.coin.gate = none ∧
      (s.coin.op = .collecting → s.cash.closeOwed = false →
        t.cash.totals.collected = addMoney s.cash.totals.collected (coinsValue items) ∧
        t.cash.totals.jammed = addMoney s.cash.totals.jammed (coinsValue items) ∧
        t.cash.vaultCoins = min (s.cash.vaultCoins + items.length) 65535) ∧
      (s.coin.op = .collecting → s.rating.context = none → t.coin.banked =
        if 0 < coinsValue items ∧ standing then 0 else s.coin.banked + coinsValue items) ∧
      (s.coin.op = .refunding → t.coin.banked = s.coin.banked) ∧
      (s.coin.op = .refunding → s.cash.closeOwed = false →
        t.cash.totals.unconfirmed = addMoney s.cash.totals.unconfirmed (coinsValue items) ∧
        t.cash.totals.refunded = addMoney s.cash.totals.refunded 0) ∧
      t.mem = s.mem ∧ t.clock = s.clock ∧ t.setup = s.setup ∧ t.hook = s.hook ∧ t.pins = s.pins

/-- R17: the lever's debounce. A change of the raw level starts the debounce, a return to the debounced level
ends it; a release and a first level set the debounced level with no further effect. R17: a press of the return
lever is ignored while an operation is in flight or a customer call is seized; it is else a refund request,
which starts at once over a non-empty escrow and has no effect over an empty one. The model's choices in it: the lever
is not debounced before the restore has ended (log entry 13, DEDUCED), and a level that is already present changes
nothing (log entry 14, DESIGN CHOICE). -/
def Obligations.ReturnLever : Prop :=
  (∀ (s : State) (m : Nat), s.isHeld = false →
    (∀ pressed, exec (.leverRawChange pressed) s = .next
      (if s.pins.leverPressed = pressed then s
       else { s with pins := { s.pins with leverPressed := pressed }
                     lever := if s.restored = true then
                         { s.lever with timer := if s.lever.level = some pressed then none
                                                 else some (s.now + s.setup.settings.hookDebounce) }
                       else s.lever })) ∧
    (s.lever = ⟨some true, some m⟩ → s.pins.leverPressed = false → exec .leverRelease s = .next
      { s with now := max s.now m, lever := ⟨some false, none⟩ }) ∧
    (s.lever = ⟨none, some m⟩ → exec .leverFirstLevel s = .next
      { s with now := max s.now m, lever := ⟨some s.pins.leverPressed, none⟩ })) ∧
  (∀ (s : State) (m : Nat), s.isHeld = false → s.lever = ⟨some false, some m⟩ → s.pins.leverPressed = true →
    (s.coin.inFlight = true ∨ s.line.owner = some .customer →
      exec .returnLeverPress s = .next { s with now := max s.now m, lever := ⟨some true, none⟩ }) ∧
    (s.coin.inFlight = false → s.line.owner ≠ some .customer → s.coin.escrow ≠ [] →
      exec .returnLeverPress s = .next
        { s with now := max s.now m, lever := ⟨some true, none⟩
                 coin := { s.coin with op := .refunding, opItems := s.coin.escrow.length, chuteCount := 0,
                                       actuator := .refund, flapTimer := some (max s.now m + 1500),
                                       settleTimer := none } }) ∧
    (s.coin.inFlight = false → s.line.owner ≠ some .customer → s.coin.escrow = [] →
      exec .returnLeverPress s = .next { s with now := max s.now m, lever := ⟨some true, none⟩ }))

/-! ### Dialling: the number analyser and the symbol emitter (chapter 2) -/

/-- R27, R29, R153, R157: a posting outside the hold. The value written (its low byte for a byte write) passes to
MAILBOX word 14. A code from 12 upward, or any posting while the hook is cleared, the FIFO full, the number full, or
an in-call symbol under PULSE, is dropped with DIAL_REFUSED and leaves the number, the FIFO, the match in flight and
the timers as they were, but that a free emitter of a customer call may take the oldest symbol (R38, R41). Else in
EMPTY or REFUSED it starts a number of one digit, or of none yet while a discarded match still runs; in COLLECTING
before the completion decision it joins the FIFO, restarts the inter-digit timer, discards a kept expiry (R32) and,
with no match in flight, the oldest symbol not yet taken joins the number and its match begins; and after the
decision it is an in-call symbol, which joins the FIFO and which a free emitter begins at once in a connected call
(R38). R40: with threshold 0 DIAL_LOW and its armed mark are clear; a level that rises above the threshold clears the
flag and sets the mark; one that falls to or below it while the mark is set sets the flag and clears the mark. The
model's choices in it (both DEDUCED): the posting acts as it is taken, before the part turn that its write may have
to wait for (log entry 9); after the completion decision no symbol counts as untaken, and a discarded match occupies
the analyser until its last word (log entry 20). -/
def Obligations.DialPost : Prop :=
  (∀ (access : SpecialAccess) (value : Word) (s : State), s.holdsHost = false →
    let v := specialOperand access value
    let addr := wordAddr s.setup.settings.bases.mailbox 14
    let a := s.specialAction .dialPost v
    let code := v.toNat % 256
    let drops := s.hook.phase = .cleared ∨ 12 ≤ code ∨ 32 ≤ s.number.fifo.length ∨
      (s.number.phase = .collecting ∧ 20 ≤ s.number.digits.length + s.number.untaken) ∨
      (s.setup.settings.dialMode = .pulse ∧ s.number.inCall = true)
    (∃ t, exec (.dialPost access value) s = .next t ∧ s.writesAt a t addr 2 ∧
      (addr + 1 < Config.flashBase → Memory.wf (s.atHostTurn a).mem = true → readWord t.mem addr = v)) ∧
    a.mem = s.mem ∧ a.coin = s.coin ∧ a.cash = s.cash ∧ a.line = s.line ∧ a.clock = s.clock ∧
    a.path.partOwed = s.path.partOwed ∧
    let free := s.emitter.item = none ∧ s.line.owner = some .customer
    (drops → EventFlag.dialRefused.isIn a.status.flags = true ∧
      a.number = { s.number with fifo := a.number.fifo, lowArmed := a.number.lowArmed } ∧
      (¬ free → a.number = s.number) ∧
      (free → a.number.fifo = s.number.fifo ∨ a.number.fifo = s.number.fifo.tail) ∧
      (s.emitter.item ≠ none ∨ s.line.owner = none →
        a = { s with status := { s.status with flags := s.status.flags ||| EventFlag.dialRefused.only } })) ∧
    (¬ drops → s.number.phase = .empty ∨ s.number.phase = .refused → s.number.fifo = [] →
      a.number.phase = .collecting ∧ a.number.digits = (if s.number.matchInFlight then [] else [code]) ∧
      a.number.fifo = [code] ∧ a.number.cause = none ∧ a.number.keptExpiry = false ∧
      a.number.interDigitTimer = some (s.now + 1000 * s.setup.settings.interDigitTimeout) ∧
      EventFlag.number.isIn a.status.flags = true ∧
      a.number.reads = s.number.reads ++
        (if s.number.matchInFlight then [] else [⟨.prefixMatch [code], [], false⟩])) ∧
    (¬ drops → s.number.phase = .collecting → s.number.decided = false → ¬ free →
      a.number.phase = .collecting ∧ a.number.decided = false ∧ a.number.fifo = s.number.fifo ++ [code] ∧
      a.number.interDigitTimer = some (s.now + 1000 * s.setup.settings.interDigitTimeout) ∧
      a.number.keptExpiry = false ∧
      (s.number.matchInFlight = true →
        a.number.digits = s.number.digits ∧ a.number.reads = s.number.reads) ∧
      ∀ d, s.number.matchInFlight = false → (s.number.fifo ++ [code])[s.number.digits.length]? = some d →
        a.number.digits = s.number.digits ++ [d] ∧
        a.number.reads = s.number.reads ++ [⟨.prefixMatch (s.number.digits ++ [d]), [], false⟩] ∧
        .numberAnalyser ∈ a.path.partQueue) ∧
    (¬ drops → s.number.inCall = true →
      (¬ free → a.number =
        { s.number with fifo := s.number.fifo ++ [code], lowArmed := a.number.lowArmed }) ∧
      (free → s.line.phase = .connected → s.number.phase = .dialled → s.number.fifo = [] →
        s.emitter.pipsDue = 0 →
        a.number.fifo = [] ∧ a.number.digits = s.number.digits ∧
        a.emitter.item = some (.toneOn code .inCallSymbol) ∧
        a.emitter.timer = some (s.now + s.setup.settings.toneOn)))) ∧
  ∀ (s : State) (q : List Nat),
    let threshold := s.setup.settings.dialLowThreshold
    let old := s.number.fifo.length
    let t := s.setFifo q
    t.number.fifo = q ∧ t.mem = s.mem ∧ t.status.mask = s.status.mask ∧
    (threshold = 0 → EventFlag.dialLow.isIn t.status.flags = false ∧ t.number.lowArmed = false) ∧
    (0 < threshold → old ≤ threshold → threshold < q.length →
      EventFlag.dialLow.isIn t.status.flags = false ∧ t.number.lowArmed = true) ∧
    (0 < threshold → q.length < old → q.length ≤ threshold → s.number.lowArmed = true →
      EventFlag.dialLow.isIn t.status.flags = true ∧ t.number.lowArmed = false) ∧
    (0 < threshold → (old ≤ threshold ∧ q.length ≤ threshold ∧ s.number.lowArmed = false) ∨
        (threshold < old ∧ threshold < q.length) →
      t.status.flags = s.status.flags ∧ t.number.lowArmed = s.number.lowArmed) ∧
    ∀ f : EventFlag, f ≠ .dialLow → f.isIn t.status.flags = f.isIn s.status.flags

/-- R30, R31, R32: the last word of a prefix match that has not been discarded. The winning entry, or with none
the default zone with lengths 1 and 20, goes into the number record, and a number at or above the maximum length
just given is complete, with a fresh rating context. R33: the last word of a completion read that has not been
discarded, by the kind the entry holds. -/
def Obligations.AnalyserReadsEnd : Prop :=
  (∀ (s : State) (rest : List Requester) (digits : List Nat) (ws : List Word) (more : List AnalyserRead),
    s.isHeld = false → s.path.busWait = [] → s.path.partQueue = .numberAnalyser :: rest →
    s.number.reads = ⟨.prefixMatch digits, ws, false⟩ :: more → ws.length = 255 →
    let all := ws ++ [readWord s.mem (wordAddr s.setup.settings.bases.tariff 767)]
    ∃ t, exec .prefixMatchEnd s = .next t ∧
      (∀ e, winningEntry all digits = some e →
        t.number.matchEntry = some e ∧ t.number.zone = some (prefixEntry all e).zone ∧
        t.number.minLength = some (prefixEntry all e).minLength ∧
        t.number.maxLength = some (prefixEntry all e).maxLength ∧
        ((prefixEntry all e).maxLength ≤ s.number.digits.length →
          t.number.decided = true ∧ t.rating.context = some freshContext)) ∧
      (winningEntry all digits = none →
        t.number.matchEntry = none ∧ t.number.zone = some s.setup.settings.defaultZone ∧
        t.number.minLength = some 1 ∧ t.number.maxLength = some 20 ∧
        (20 ≤ s.number.digits.length →
          t.number.decided = true ∧ t.rating.context = some freshContext)) ∧
      t.path.partOwed = false ∧ t.mem = s.mem ∧ t.coin = s.coin ∧ t.cash = s.cash ∧ t.setup = s.setup ∧
      t.emitter = s.emitter ∧ t.clock = s.clock) ∧
  (∀ (s : State) (rest : List Requester) (zone : Nat) (ws : List Word) (more : List AnalyserRead),
    s.isHeld = false → s.path.busWait = [] → s.path.partQueue = .numberAnalyser :: rest →
    s.number.reads = ⟨.zoneEntry zone, ws, false⟩ :: more → ws.length = 15 →
    let entry := ws ++ [readWord s.mem (wordAddr s.setup.settings.bases.tariff (16 * zone + 15))]
    let keys := s.setup.settings.dialMode = .pulse ∧ ∃ d ∈ s.number.digits, 10 ≤ d
    ∃ t, exec .zoneEntryReadEnd s = .next t ∧ t.mem = s.mem ∧ t.coin = s.coin ∧ t.setup = s.setup ∧
      t.clock = s.clock ∧ t.path.partOwed = false ∧ t.number.digits = s.number.digits ∧
      (natAt entry 0 = 0 ∨ 4 < natAt entry 0 → t.number.phase = .refused ∧ t.number.cause = some .noTariff) ∧
      (natAt entry 0 = 4 →
        t.number.phase = .refused ∧ t.number.cause = some .barred ∧ t.number.kind = some .barred) ∧
      (1 ≤ natAt entry 0 → natAt entry 0 ≤ 3 → keys →
        t.number.phase = .refused ∧ t.number.cause = some .notDiallable) ∧
      (natAt entry 0 = 2 → ¬ keys → t.number.phase = .waitLine ∧ t.number.kind = some .free) ∧
      (natAt entry 0 = 3 → ¬ keys → t.number.phase = .waitLine ∧ t.number.kind = some .emergency) ∧
      (natAt entry 0 = 1 → ¬ keys →
        t.number.kind = some .paid ∧
        (s.coin.reasons.unavailable = true →
          t.number.phase = .refused ∧ t.number.cause = some .serviceUnavailable) ∧
        (s.coin.reasons.unavailable = false → chargesInRange entry = false →
          t.number.phase = .refused ∧ t.number.cause = some .noTariff) ∧
        (s.coin.reasons.unavailable = false → chargesInRange entry = true →
          t.number.phase = s.number.phase ∧ t.rating.reads = s.rating.reads ++ [⟨entry, [], false⟩])))

/-- R33, R35, R36, R65, R72: the last word of a snapshot read that has not been discarded fixes the required
deposit, and the number is refused, waits for its deposit, or waits for the line. -/
def Obligations.SnapshotReadEnds : Prop :=
  ∀ (s : State) (rest : List Requester) (entry ws : List Word) (more : List SnapshotRead),
    s.isHeld = false → s.path.busWait = [] → s.path.partQueue = .ratingEngine :: rest →
    s.rating.reads = ⟨entry, ws, false⟩ :: more → ws.length = 87 →
    let snap := snapshotOf entry (ws ++ [readWord s.mem (wordAddr s.setup.settings.bases.tariff 343)])
    let d := requiredDeposit snap (ratedUnit snap s.clock).1.charge
    ∃ t, exec .snapshotReadEnd s = .next t ∧ t.number.deposit = some d ∧ t.mem = s.mem ∧ t.coin = s.coin ∧
      t.setup = s.setup ∧ t.clock = s.clock ∧ t.path.partOwed = false ∧
      (s.coin.reasons.unavailable = true →
        t.number.phase = .refused ∧ t.number.cause = some .serviceUnavailable ∧ t.rating.context = none) ∧
      (s.coin.reasons.unavailable = false →
        (s.setup.settings.creditCap < d →
          t.number.phase = .refused ∧ t.number.cause = some .depositAboveCap ∧ t.rating.context = none) ∧
        (d ≤ s.setup.settings.creditCap → s.coin.totalCredit < d →
          t.number.phase = .waitDeposit ∧
          t.number.depositTimer = some (s.now + 1000 * s.setup.settings.depositWait)) ∧
        (d ≤ s.setup.settings.creditCap → d ≤ s.coin.totalCredit →
          t.number.phase = .waitLine ∧
          ∀ c, s.rating.context = some c → ∃ c', t.rating.context = some c' ∧ c'.snapshot = some snap))

/-- R32, R34: the inter-digit timer runs out. With a match in flight or a symbol waiting the expiry is kept;
else the number is complete at or above its minimum length, and below it refused with INCOMPLETE. R34, R35: the
deposit-wait timer runs out: the number is refused with DEPOSIT_TIMEOUT, keeping its digits, zone and kind, with
its FIFO emptied, its request withdrawn and its context gone; the purse is not touched. R40: an armed DIAL_LOW is set
as the FIFO empties. -/
def Obligations.NumberTimersExpire : Prop :=
  (∀ (s : State) (m : Nat), s.isHeld = false → s.number.interDigitTimer = some m →
    (s.number.matchInFlight = true ∨ s.number.digits.length < s.number.fifo.length →
      exec .interDigitTimeout s = .next
        { s with now := max s.now m, number := { s.number with interDigitTimer := none, keptExpiry := true } }) ∧
    (s.number.matchInFlight = false → s.number.fifo.length ≤ s.number.digits.length →
      (s.number.minLength.getD 1 ≤ s.number.digits.length →
        ∃ t, exec .interDigitTimeout s = .next t ∧ t.number.decided = true ∧
          t.number.reads = s.number.reads ++ [⟨.zoneEntry s.numberZone, [], false⟩] ∧
          t.rating.context = some freshContext ∧ t.number.digits = s.number.digits ∧
          t.number.phase = s.number.phase ∧ t.mem = s.mem ∧ t.coin = s.coin ∧ t.cash = s.cash ∧
          t.line = s.line) ∧
      (s.number.digits.length < s.number.minLength.getD 1 →
        ∃ t, exec .interDigitTimeout s = .next t ∧ t.number.phase = .refused ∧
          t.number.cause = some .incomplete ∧ t.number.fifo = [] ∧ t.number.digits = s.number.digits ∧
          t.rating.context = none ∧ t.mem = s.mem ∧ t.coin = s.coin ∧ t.cash = s.cash))) ∧
  (∀ (s : State) (m : Nat), s.isHeld = false → s.number.depositTimer = some m →
    ∃ t, exec .depositWaitExpiry s = .next t ∧
      t = { s with now := max s.now m, number := t.number, line := { s.line with customerRequest := none },
                   rating := { context := none, reads := s.rating.reads.map fun r => { r with discarded := true } },
                   path := (s.tally .depositTimeouts).path, status := t.status } ∧
      t.number.phase = .refused ∧ t.number.cause = some .depositTimeout ∧ t.number.fifo = [] ∧
      t.number.digits = s.number.digits ∧ t.number.zone = s.number.zone ∧ t.number.kind = s.number.kind ∧
      t.number.interDigitTimer = none ∧ t.number.depositTimer = none ∧
      (s.number.phase ≠ .refused → EventFlag.number.isIn t.status.flags = true) ∧
      (0 < s.setup.settings.dialLowThreshold → s.number.lowArmed = true → s.number.fifo ≠ [] →
        EventFlag.dialLow.isIn t.status.flags = true ∧ t.number.lowArmed = false))

/-- R42, R43: the pacing of the current item: a tone's off time after its on time, a pulse digit's make after a
break, its next break or, after the last make, its pause. Nothing else changes. R44: the warning pips. A pip
falls due 2 s after the one before fell due; an idle emitter of a customer call begins it at once for 200 ms and
else it waits; at its end a further due pip, or else the next in-call symbol, begins. -/
def Obligations.EmitterItems : Prop :=
  (∀ (s : State) (m : Nat) (use : ItemUse), s.isHeld = false → s.emitter.timer = some m →
    (∀ code, s.emitter.item = some (.toneOn code use) → exec .toneOnTimeExpiry s = .next
      { s with now := max s.now m
               emitter := { s.emitter with item := some (.toneOff code use),
                                           timer := some (max s.now m + s.setup.settings.toneOff) } }) ∧
    (∀ d left, s.emitter.item = some (.pulseBreak d left use) → exec .pulseBreakEnd s = .next
      { s with now := max s.now m
               emitter := { s.emitter with item := some (.pulseMake d left use),
                                           timer := some (max s.now m + 40) } }) ∧
    (∀ d left, s.emitter.item = some (.pulseMake d (left + 1) use) → exec .pulseMakeEnd s = .next
      { s with now := max s.now m
               emitter := { s.emitter with item := some (.pulseBreak d left use),
                                           timer := some (max s.now m + 60) } }) ∧
    ∀ d, s.emitter.item = some (.pulseMake d 0 use) → exec .pulseMakeEnd s = .next
      { s with now := max s.now m
               emitter := { s.emitter with item := some (.pulsePause d use),
                                           timer := some (max s.now m + 700) } }) ∧
  (∀ (s : State) (m : Nat), s.isHeld = false →
    (s.emitter.pipTimer = some m → s.emitter.item ≠ none → exec .pipDue s = .next
      { s with now := max s.now m
               emitter := { s.emitter with pipsDue := s.emitter.pipsDue + 1, pipTimer := some (m + 2000) } }) ∧
    (s.emitter.pipTimer = some m → s.emitter.item = none → s.line.owner = some .customer →
      exec .pipDue s = .next
        { s with now := max s.now m
                 emitter := ⟨some .pip, some (max s.now m + 200), s.emitter.pipsDue, some (m + 2000)⟩ }) ∧
    (s.emitter.item = some .pip → s.emitter.timer = some m → s.line.owner = some .customer →
      (∀ n, s.emitter.pipsDue = n + 1 → exec .pipEnd s = .next
        { s with now := max s.now m
                 emitter := ⟨some .pip, some (max s.now m + 200), n, s.emitter.pipTimer⟩ }) ∧
      (s.emitter.pipsDue = 0 → s.number.fifo = [] → exec .pipEnd s = .next
        { s with now := max s.now m, emitter := ⟨none, none, 0, s.emitter.pipTimer⟩ }) ∧
      (∀ code rest, s.emitter.pipsDue = 0 → s.number.fifo = code :: rest → s.line.phase = .connected →
        s.number.phase = .dialled →
        ∃ t, exec .pipEnd s = .next t ∧ t.number.fifo = rest ∧
          t.emitter = ⟨some (.toneOn code .inCallSymbol), some (max s.now m + s.setup.settings.toneOn), 0,
            s.emitter.pipTimer⟩ ∧ t.mem = s.mem ∧ t.coin = s.coin ∧ t.cash = s.cash ∧ t.line = s.line)))

/-- R37, R38, R51, R128, R131: the end of a tone symbol or of a pulse digit, by who handed it: a symbol of the
number counts as emitted, and after the last the number is DIALLED; after the last digit of the report number
the report caller awaits the go tone, and after the last message symbol the acknowledgement. -/
def Obligations.SymbolEnds : Prop :=
  ∀ (s : State) (m : Nat) (c : Instr) (use : ItemUse), s.isHeld = false → s.emitter.timer = some m →
    ((c = .toneOffTimeExpiry ∧ ∃ code, s.emitter.item = some (.toneOff code use)) ∨
      (c = .pulsePauseEnd ∧ ∃ d, s.emitter.item = some (.pulsePause d use))) →
    ∃ t, exec c s = .next t ∧ t.now = max s.now m ∧ t.mem = s.mem ∧ t.setup = s.setup ∧ t.clock = s.clock ∧
      t.number.digits = s.number.digits ∧ t.hook = s.hook ∧ t.tamper = s.tamper ∧
      (use = .numberSymbol →
        t.number.emitted = s.number.emitted + 1 ∧
        (s.number.digits.length ≤ s.number.emitted + 1 → t.number.phase = .dialled ∧
          (t.line.phase = .awaitAnswer ∨ t.line.phase = .connected) ∧
          (s.pins.reversed = false → t.line.phase = .awaitAnswer ∧
            t.line.answerWaitTimer = some (max s.now m + 1000 * s.setup.settings.answerWaitLimit))) ∧
        (s.number.emitted + 1 < s.number.digits.length →
          t.number.phase = s.number.phase ∧ t.line = s.line)) ∧
      (use = .inCallSymbol → t.number.emitted = s.number.emitted ∧ t.line = s.line) ∧
      (use = .reportDigit → s.setup.settings.reportNumber.length ≤ s.report.digitsHanded →
        t.report.phase = .awaitGo ∧ t.report.goTimer = some (max s.now m + 30000) ∧
        t.line.phase = .awaitAnswer) ∧
      (use = .messageSymbol → s.report.message.length ≤ s.report.handed →
        t.report.phase = .awaitAck ∧ t.report.ackTimer = some (max s.now m + 5000))

/-! ### The line and the hook (chapter 3) -/

/-- R17, R50, R52, R56, R59, R62, R105: a change of the level of a field input outside the hold, and the count
or timer it starts, restarts or ends; a level that does not change does nothing. The model's choices in it: the
hook, the lever and the tamper inputs are not debounced before the restore has ended (log entry 13, DEDUCED), and a
level that is already present changes nothing (log entry 14, DESIGN CHOICE). -/
def Obligations.InputChanges : Prop :=
  ∀ (s : State), s.isHeld = false →
    (∀ p, exec (.tonePresentChange p) s = .next (if s.pins.tonePresent = p then s else
      { s with pins := { s.pins with tonePresent := p }
               line := { s.line with toneFrom := if p then some s.now else none } })) ∧
    (∀ r, exec (.polarityChange r) s = .next (if s.pins.reversed = r then s else
      { s with pins := { s.pins with reversed := r }, line := { s.line with polarityAt := s.now } })) ∧
    (∀ p, exec (.loopCurrentChange p) s = .next (if s.pins.loopCurrent = p then s else
      { s with pins := { s.pins with loopCurrent := p }
               line := if s.line.owner = some .customer ∧ s.line.phase = .connected then
                   { s.line with clearTimer := if p then none else some (s.now + 400) } else s.line })) ∧
    (∀ h, exec (.hookRawChange h) s = .next (if s.pins.onHook = h then s else
      { s with pins := { s.pins with onHook := h }
               hook := if s.restored = true then
                   { s.hook with debounce := ⟨s.hook.debounce.level,
                       if s.hook.debounce.level = some h then none
                       else some (s.now + s.setup.settings.hookDebounce)⟩ } else s.hook })) ∧
    (∀ p, exec (.linePresentChange p) s = .next (if s.pins.linePresent = p then s else
      { s with pins := { s.pins with linePresent := p }
               line := { s.line with qualifyTimer :=
                   if p = (s.line.status == .present) then none else some (s.now + 2000) } })) ∧
    (∀ i h, s.pins.tamper.get i = h → exec (.tamperRawChange i h) s = .next s) ∧
    (∀ i h, s.pins.tamper.get i ≠ h → s.restored = false → exec (.tamperRawChange i h) s = .next
      { s with pins := { s.pins with tamper := s.pins.tamper.set i h } }) ∧
    (∀ i h l, s.pins.tamper.get i ≠ h → s.restored = true → (s.tamper.get i).debounce.level = some l →
      (0 < s.setup.settings.tamperDebounce → exec (.tamperRawChange i h) s = .next
        { s with pins := { s.pins with tamper := s.pins.tamper.set i h }
                 tamper := s.tamper.put i { s.tamper.get i with debounce :=
                   ⟨some l, if l = h then none else some (s.now + s.setup.settings.tamperDebounce)⟩ } }) ∧
      (s.setup.settings.tamperDebounce = 0 → s.tamper.firstSet = true → l ≠ h → ∃ t,
        exec (.tamperRawChange i h) s = .next t ∧ (t.tamper.get i).debounce = ⟨some h, none⟩ ∧
        (t.tamper.get i).active = (s.setup.settings.activeLevels.get i == h) ∧ t.mem = s.mem ∧
        t.setup = s.setup)) ∧
    (∀ i h, s.pins.tamper.get i ≠ h → s.restored = true → s.tamper.firstSet = false →
      (s.tamper.get i).debounce.level = none → exec (.tamperRawChange i h) s = .next
        { s with pins := { s.pins with tamper := s.pins.tamper.set i h }
                 tamper := s.tamper.put i { s.tamper.get i with debounce :=
                   ⟨match (s.tamper.get i).debounce.timer with
                     | some m => if m ≤ s.now then some (!h) else none
                     | none => none, some (s.now + s.setup.settings.tamperDebounce)⟩ } })

/-- R48: the grant order over the requests that wait. R46, R48, R50: the guard runs out. An owner kept for its
second try is seized again; else the line is IDLE, or the request that stands first is granted, with the try at
1 and the seize time taken, and the other request goes on waiting. A report request stands first where no customer
request waits, or beside a PAID_FREE request where an URGENT kind is queued or it has waited for 30 minutes. R36: the
grant to the customer raises the tally of the number's kind. -/
def Obligations.GuardEndsAndGrants : Prop :=
  (∀ s : State,
    (s.line.customerRequest = some .emergency → s.nextGrant = some .customer) ∧
    (∀ t, s.line.customerRequest = some .paidFree → s.line.reportRequest = some t →
      (s.nextGrant = some .report ↔
        (∃ k ∈ s.alarms.queue, k.isIn s.setup.settings.urgentKinds = true) ∨ 1800000 ≤ s.now - t) ∧
      (s.nextGrant = some .report ∨ s.nextGrant = some .customer)) ∧
    (s.line.customerRequest = some .paidFree → s.line.reportRequest = none → s.nextGrant = some .customer) ∧
    (∀ t, s.line.customerRequest = none → s.line.reportRequest = some t → s.nextGrant = some .report) ∧
    (s.line.customerRequest = none → s.line.reportRequest = none → s.nextGrant = none)) ∧
  (∀ (s : State) (m : Nat), s.isHeld = false → s.line.guardTimer = some m →
    let n := max s.now m
    let seized : LineState :=
      { s.line with phase := .seizing, guardTimer := none
                    dialToneTimer := some (n + 1000 * s.setup.settings.dialToneWait)
                    toneFrom := if s.pins.tonePresent then some n else none }
    (s.line.owner ≠ none → exec .guardExpiry s = .next { s with now := n, line := seized }) ∧
    (s.line.owner = none → s.line.customerRequest = none → s.line.reportRequest = none →
      exec .guardExpiry s = .next
        { s with now := n, line := { s.line with phase := .idle, guardTimer := none } }) ∧
    let urgent := ∃ k ∈ s.alarms.queue, k.isIn s.setup.settings.urgentKinds = true
    let customerFirst := s.line.customerRequest = some .emergency ∨
      (s.line.customerRequest = some .paidFree ∧ (s.line.reportRequest = none ∨
        (¬ urgent ∧ n - s.line.reportRequest.getD 0 < 1800000)))
    (∀ r, s.line.owner = none → s.line.reportRequest = some r →
      s.line.customerRequest = none ∨
        (s.line.customerRequest = some .paidFree ∧ (urgent ∨ 1800000 ≤ n - r)) →
      exec .guardExpiry s = .next
        { s with now := n
                 line := { seized with owner := some .report, attempt := some 1, reportRequest := none
                                       seizeTime := some s.calendar, answerTime := none } }) ∧
    (s.line.owner = none → customerFirst → ∃ t, exec .guardExpiry s = .next t ∧
        t.line = { seized with owner := some .customer, attempt := some 1, customerRequest := none
                               seizeTime := some s.calendar, answerTime := none } ∧
        EventFlag.call.isIn t.status.flags = true ∧
        (∀ k, s.number.kind = some k →
          t.cash.openCall = some ⟨k, s.number.zone, some s.calendar, 0, s.callStatus⟩) ∧
        (s.number.kind = some .paid → s.tallyRises t .paidSeized) ∧
        (s.number.kind = some .free → s.tallyRises t .free) ∧
        (s.number.kind = some .emergency → s.tallyRises t .emergency) ∧
        t.number = s.number ∧ t.coin = s.coin ∧ t.rating = s.rating ∧ t.mem = s.mem ∧ t.now = n))

/-- R37, R50, R128: dial tone present for 200 ms in SEIZING. The line is DIALLING and the owner is told; an idle
emitter begins the first symbol of a customer's number, or of the report number, as a tone under TONE and as the first
of its breaks under PULSE (R43). R50, R58, R133: no dial tone in time. The first try goes through the guard to a
second, its owner kept; after a second the seize-failures tally rises (R159), and a customer's number is refused with
NO_DIAL_TONE and its call recorded (R90, R95), or the report attempt has failed and is recorded (R96). -/
def Obligations.DialToneSearchEnds : Prop :=
  (∀ (s : State) (f : Nat), s.isHeld = false → s.line.phase = .seizing → s.line.toneFrom = some f →
    let n := max s.now (f + 200)
    let begun := fun (code : Nat) (use : ItemUse) (e : EmitterState) =>
      (s.setup.settings.dialMode = .tone →
        e.item = some (.toneOn code use) ∧ e.timer = some (n + s.setup.settings.toneOn)) ∧
      (s.setup.settings.dialMode = .pulse →
        e.item = some (.pulseBreak code ((if code = 0 then 10 else code) - 1) use) ∧
        e.timer = some (n + 60))
    ∃ t, exec .dialToneFound s = .next t ∧ t.now = n ∧
      t.line = { s.line with phase := .dialling, dialToneTimer := none } ∧ t.mem = s.mem ∧ t.coin = s.coin ∧
      t.cash = s.cash ∧ t.clock = s.clock ∧ t.number.digits = s.number.digits ∧
      (s.line.owner = some .customer → t.number.phase = .dialling ∧
        ∀ code rest, s.emitter.item = none → s.emitter.pipsDue = 0 →
          s.number.fifo = code :: rest → s.number.emitted < s.number.digits.length →
          t.number.fifo = rest ∧ begun code .numberSymbol t.emitter) ∧
      (s.line.owner = some .report → t.report.phase = .dialling ∧ t.number = s.number ∧
        ∀ code rest, s.emitter.item = none → s.setup.settings.reportNumber = code :: rest →
          t.report.digitsHanded = 1 ∧ begun code .reportDigit t.emitter)) ∧
  (∀ (s : State) (m : Nat), s.isHeld = false → s.line.dialToneTimer = some m → s.line.phase = .seizing →
    let n := max s.now m
    let guarded : LineState :=
      { s.line with phase := .guarded, guardTimer := some (n + 800), dialToneTimer := none
                    answerWaitTimer := none, timedAnswerTimer := none, clearTimer := none }
    (s.line.attempt = some 1 → exec .dialToneTimeout s = .next
      { s with now := n, emitter := { s.emitter with item := none, timer := none }
               line := { guarded with attempt := some 2 } }) ∧
    let customerRecord : CallRecord :=
      { kind := (s.number.kind.map ZoneKind.recordKind).getD .paid, cause := .noDialTone, zone := s.number.zone,
        number := some s.number.digits, seizeTime := some (s.line.seizeTime.getD s.calendar),
        answerTime := s.line.answerTime, endTime := s.calendar,
        units := some ((s.rating.context.map RatingContext.units).getD 0),
        charge := (s.rating.context.map RatingContext.total).getD 0,
        coins := some ((s.rating.context.map RatingContext.coins).getD 0), flags := s.callStatus, calls := 1,
        alarms := none }
    let reportRecord : CallRecord :=
      { kind := .report, cause := .noDialTone, zone := none, number := some s.setup.settings.reportNumber,
        seizeTime := some (s.line.seizeTime.getD s.calendar), answerTime := s.report.goTime,
        endTime := s.calendar, units := some 0, charge := 0, coins := some 0, flags := 0#8, calls := 1,
        alarms := some s.report.carriedKinds }
    (s.line.attempt ≠ some 1 → ∃ t, exec .dialToneTimeout s = .next t ∧ t.mem = s.mem ∧ t.coin = s.coin ∧
      t.clock = s.clock ∧ s.tallyRises t .seizeFailures ∧
      (s.line.owner = some .customer →
        t.line.phase = .guarded ∧ t.line.owner = none ∧ t.line.guardTimer = some (n + 800) ∧
        t.number.phase = .refused ∧ t.number.cause = some .noDialTone ∧ t.rating.context = none ∧
        t.cash.openCall = none ∧ t.records = (s.offerRecord customerRecord).records ∧
        EventFlag.call.isIn t.status.flags = true) ∧
      (s.line.owner = some .report →
        t.line.phase = .guarded ∧ t.line.owner = none ∧ t.line.guardTimer = some (n + 800) ∧
        t.number = s.number ∧ t.records = (s.offerRecord reportRecord).records ∧
        s.tallyRises t .reportAttempts ∧ EventFlag.report.isIn t.status.flags = true ∧
        (s.report.attempts + 1 < 3 → t.report.phase = .retryWait ∧ t.report.attempts = s.report.attempts + 1 ∧
          t.report.retryTimer = some (n + 120000)) ∧
        (3 ≤ s.report.attempts + 1 → t.report.phase = .held ∧ t.report.attempts = 3 ∧
          t.report.holdTimer = some (n + 3600000)))))

/-- R52, R53: the answer of a customer call in AWAIT_ANSWER, by a reversal that has held for 50 ms, by the timed
answer (marked ANSWER_ASSUMED), or by a metering pulse while the rating takes no metering pulses. R73 to R75: the
escrow is collected. Under INTERNAL rating unit 1 takes the band, charge and length of the moment and S + Ueff falls
due; under METERING rating S does, unless it is 0; a call with no snapshot is not charged. R78, R79, R81: a charge
that banked credit covers is paid, to revenue and the call's total and units; else one that the escrow can still pay
awaits a collect, with unit 1 running; and else the call enters grace, with unit 1 standing still. R53, R77: under
METERING rating the answering pulse is the answer and then the first metering pulse: after S it charges the unit of the
moment, beside S where S awaits a collect, and it cuts the call where S has brought it into grace; in a FREE or
EMERGENCY call, which has no snapshot, it charges nothing (R75). -/
def Obligations.CustomerCallAnswered : Prop :=
  (∀ (s : State) (c : Instr) (n : Nat), s.isHeld = false → s.line.owner = some .customer →
    s.line.phase = .awaitAnswer → s.number.phase ≠ .waitDeposit → s.number.phase ≠ .waitLine →
    ((c = .reversalAnswer ∧ s.setup.settings.answerSource = .reversal ∧ s.pins.reversed = true ∧
        n = max s.now (s.line.polarityAt + 50)) ∨
      (∃ m, c = .timedAnswerExpiry ∧ s.line.timedAnswerTimer = some m ∧ n = max s.now m) ∨
      (c = .meteringPulse ∧ s.setup.settings.answerSource = .metering ∧
        s.setup.settings.ratingSource = .internal ∧ n = s.now)) →
    ∃ t, exec c s = .next t ∧ t.now = n ∧
      t.line = { s.line with phase := .connected, answerTime := some s.calendar, answerWaitTimer := none,
                             timedAnswerTimer := none,
                             clearTimer := if s.pins.loopCurrent then none else some (n + 400) } ∧
      EventFlag.call.isIn t.status.flags = true ∧
      (∀ x, s.rating.context = some x → ∃ y, t.rating.context = some y ∧ y.phase = .answered ∧
        y.snapshot = x.snapshot ∧ (c = .timedAnswerExpiry → RatingFlag.answerAssumed.isIn y.status = true) ∧
        (s.coin.escrow ≠ [] →
          (s.coin.inFlight = false → t.coin.op = .collecting ∧ t.coin.opItems = s.coin.escrow.length ∧
            t.coin.actuator = .collect ∧ t.coin.flapTimer = some (n + 1500)) ∧
          (s.coin.inFlight = true → t.coin.op = s.coin.op ∧
            t.coin.request = if s.coin.request = .none then .collect else s.coin.request)) ∧
        (s.coin.escrow = [] → t.coin.op = s.coin.op) ∧
        let available := (s.coin.escrow ≠ [] ∨ s.coin.gate ≠ none) ∧ s.coin.op ≠ .refunding ∧
          s.coin.request ≠ .refund
        let fallsDue := fun (amount units : Nat) (origin : ChargeOrigin) =>
          (amount ≤ s.coin.banked → y.payment = .settled ∧ y.charge = none ∧ y.graceTimer = none ∧
            y.total = min (x.total + amount) 65535 ∧ y.units = min (x.units + units) 65535 ∧
            t.coin.banked = s.coin.banked - amount ∧
            (s.cash.closeOwed = false → t.cash.totals =
              { s.cash.totals with revenue := addMoney s.cash.totals.revenue amount })) ∧
          (s.coin.banked < amount → y.charge = some ⟨amount, units, origin⟩ ∧ y.total = x.total ∧
            y.units = x.units ∧ t.coin.banked = s.coin.banked ∧
            (s.cash.closeOwed = false → t.cash.totals = s.cash.totals) ∧
            (available → y.payment = .collectWait) ∧
            (¬ available → y.payment = .grace ∧ y.cutWaiting = false ∧
              y.graceTimer = some (n + 1000 * s.setup.settings.graceTime) ∧
              t.emitter.pipTimer = some (n + 2000) ∧ EventFlag.creditLow.isIn t.status.flags = true))
        let notCharged := y.charge = x.charge ∧ y.payment = x.payment ∧ y.total = x.total ∧ y.units = x.units ∧
          y.unitTimer = x.unitTimer ∧ t.coin.banked = s.coin.banked ∧
          (s.cash.closeOwed = false → t.cash.totals = s.cash.totals)
        (x.snapshot = none → notCharged) ∧
        ∀ snap, x.snapshot = some snap →
          let first := ratedUnit snap s.clock
          (s.setup.settings.ratingSource = .internal →
            fallsDue (snap.setupCharge + first.1.charge) 1 .answer ∧ y.unit = some first.1 ∧
            first.2 ||| y.status = y.status ∧
            y.unitTimer = (if snap.setupCharge + first.1.charge ≤ s.coin.banked ∨ available
              then .running (n + 100 * first.1.length) else .still (100 * first.1.length)) ∧
            ∀ o, s.cash.openCall = some o →
              t.cash.openCall = some { o with charge := y.total, flags := y.status }) ∧
          (s.setup.settings.ratingSource = .metering → y.unit = x.unit ∧
            (snap.setupCharge = 0 → notCharged) ∧
            (0 < snap.setupCharge → fallsDue snap.setupCharge 0 .metering))) ∧
      t.number.digits = s.number.digits ∧ t.hook = s.hook ∧ t.tamper = s.tamper ∧ t.mem = s.mem ∧
      t.setup = s.setup ∧ t.coin.escrow = s.coin.escrow ∧ t.coin.gate = s.coin.gate) ∧
  (∀ (s : State) (x : RatingContext) (snap : Snapshot), s.isHeld = false → s.line.owner = some .customer →
    s.line.phase = .awaitAnswer → s.number.phase ≠ .waitDeposit → s.number.phase ≠ .waitLine →
    s.setup.settings.answerSource = .metering → s.setup.settings.ratingSource = .metering →
    s.rating.context = some x → x.snapshot = some snap → x.payment = .settled → x.charge = none →
    x.units ≤ 65535 → x.total ≤ 65535 →
    let setup := snap.setupCharge
    let pulse := (ratedUnit snap s.clock).1
    let available := (s.coin.escrow ≠ [] ∨ s.coin.gate ≠ none) ∧ s.coin.op ≠ .refunding ∧
      s.coin.request ≠ .refund
    let connected : LineState :=
      { s.line with phase := .connected, answerTime := some s.calendar, answerWaitTimer := none,
                    timedAnswerTimer := none, clearTimer := if s.pins.loopCurrent then none else some (s.now + 400) }
    let record : CallRecord :=
      { kind := (s.number.kind.map ZoneKind.recordKind).getD .paid, cause := .creditExhausted,
        zone := s.number.zone, number := some s.number.digits,
        seizeTime := some (s.line.seizeTime.getD s.calendar), answerTime := some s.calendar,
        endTime := s.calendar, units := some x.units, charge := x.total, coins := some x.coins,
        flags := x.status ||| RatingFlag.graceCut.only, calls := 1, alarms := none }
    (setup ≤ s.coin.banked ∨ available → ∃ t y, exec .meteringPulse s = .next t ∧
      t.rating.context = some y ∧ t.now = s.now ∧ t.line = connected ∧ EventFlag.call.isIn t.status.flags = true ∧
      y.phase = .answered ∧ y.snapshot = some snap ∧ y.lastPulse = some pulse ∧
      (s.coin.escrow ≠ [] → s.coin.inFlight = false → t.coin.op = .collecting ∧
        t.coin.opItems = s.coin.escrow.length ∧ t.coin.flapTimer = some (s.now + 1500)) ∧
      (setup + pulse.charge ≤ s.coin.banked → y.payment = .settled ∧ y.charge = none ∧
        y.unitTimer = x.unitTimer ∧
        y.total = min (x.total + setup + pulse.charge) 65535 ∧ y.units = min (x.units + 1) 65535 ∧
        t.coin.banked = s.coin.banked - setup - pulse.charge) ∧
      (setup ≤ s.coin.banked → s.coin.banked < setup + pulse.charge →
        y.charge = some ⟨pulse.charge, 1, .metering⟩ ∧ y.units = x.units ∧
        y.total = min (x.total + setup) 65535 ∧ t.coin.banked = s.coin.banked - setup ∧
        (available → y.payment = .collectWait) ∧
        (¬ available → y.payment = .grace ∧
          y.graceTimer = some (s.now + 1000 * s.setup.settings.graceTime) ∧
          EventFlag.creditLow.isIn t.status.flags = true)) ∧
      (s.coin.banked < setup → y.charge = some ⟨setup + pulse.charge, 1, .metering⟩ ∧
        y.payment = .collectWait ∧ y.total = x.total ∧ y.units = x.units ∧ t.coin.banked = s.coin.banked) ∧
      t.coin.escrow = s.coin.escrow ∧ t.coin.gate = s.coin.gate ∧ t.mem = s.mem ∧ t.setup = s.setup) ∧
    (s.coin.banked < setup → ¬ available → ∃ t, exec .meteringPulse s = .next t ∧ t.now = s.now ∧
      t.line.phase = .guarded ∧ t.line.owner = none ∧ t.line.guardTimer = some (s.now + 800) ∧
      t.number.phase = .empty ∧ t.rating.context = none ∧ t.cash.openCall = none ∧
      t.records = (s.offerRecord record).records ∧ EventFlag.call.isIn t.status.flags = true ∧
      EventFlag.creditLow.isIn t.status.flags = true ∧ t.coin.banked = s.coin.banked ∧
      t.coin.escrow = s.coin.escrow ∧ t.mem = s.mem ∧ t.setup = s.setup)) ∧
  ∀ (s : State) (x : RatingContext), s.isHeld = false → s.line.owner = some .customer →
    s.line.phase = .awaitAnswer → s.number.phase ≠ .waitDeposit → s.number.phase ≠ .waitLine →
    s.setup.settings.answerSource = .metering → s.setup.settings.ratingSource = .metering →
    s.rating.context = some x → x.snapshot = none →
    ∃ t, exec .meteringPulse s = .next t ∧ t.now = s.now ∧
      t.rating.context = some { x with phase := .answered } ∧
      t.line = { s.line with phase := .connected, answerTime := some s.calendar, answerWaitTimer := none,
                             timedAnswerTimer := none,
                             clearTimer := if s.pins.loopCurrent then none else some (s.now + 400) } ∧
      EventFlag.call.isIn t.status.flags = true ∧
      (s.coin.escrow ≠ [] →
        (s.coin.inFlight = false → t.coin.op = .collecting ∧ t.coin.opItems = s.coin.escrow.length ∧
          t.coin.actuator = .collect ∧ t.coin.flapTimer = some (s.now + 1500)) ∧
        (s.coin.inFlight = true → t.coin.op = s.coin.op ∧
          t.coin.request = if s.coin.request = .none then .collect else s.coin.request)) ∧
      (s.coin.escrow = [] → t.coin.op = s.coin.op ∧ t.coin.request = s.coin.request) ∧
      t.coin.banked = s.coin.banked ∧ t.coin.escrow = s.coin.escrow ∧ t.coin.gate = s.coin.gate ∧
      (s.cash.closeOwed = false → t.cash.totals = s.cash.totals) ∧ t.cash.openCall = s.cash.openCall ∧
      t.number.digits = s.number.digits ∧ t.mem = s.mem ∧ t.setup = s.setup

/-- R54, R56, R58, R90, R95: a customer call that nobody answered, or that was cleared at the far end, is
released and closed: the line goes through its guard with no owner, the number and the context end, the
open-call mirror is cleared, and its record is offered; the purse is not touched. -/
def Obligations.CustomerCallCloses : Prop :=
  ∀ (s : State) (c : Instr) (cause : EndCause) (n : Nat), s.isHeld = false → s.line.owner = some .customer →
    ((∃ m, c = .answerWaitExpiry ∧ cause = .noAnswer ∧ s.line.phase = .awaitAnswer ∧
        s.line.answerWaitTimer = some m ∧ n = max s.now m) ∨
      (∃ m, c = .clearTimerExpiry ∧ cause = .remoteClear ∧ s.line.phase = .connected ∧
        s.line.clearTimer = some m ∧ n = max s.now m) ∨
      (c = .polarityReturnClear ∧ cause = .remoteClear ∧ s.line.phase = .connected ∧
        s.setup.settings.answerSource = .reversal ∧ s.pins.reversed = false ∧
        n = max s.now (s.line.polarityAt + 50))) →
    let record : CallRecord :=
      { kind := (s.number.kind.map ZoneKind.recordKind).getD .paid, cause := cause, zone := s.number.zone,
        number := some s.number.digits, seizeTime := some (s.line.seizeTime.getD s.calendar),
        answerTime := s.line.answerTime, endTime := s.calendar,
        units := some ((s.rating.context.map RatingContext.units).getD 0),
        charge := (s.rating.context.map RatingContext.total).getD 0,
        coins := some ((s.rating.context.map RatingContext.coins).getD 0), flags := s.callStatus, calls := 1,
        alarms := none }
    ∃ t, exec c s = .next t ∧ t.now = n ∧ t.line.phase = .guarded ∧ t.line.owner = none ∧
      t.line.attempt = none ∧ t.line.guardTimer = some (n + 800) ∧ t.line.clearTimer = none ∧
      t.line.answerWaitTimer = none ∧ t.line.customerRequest = none ∧ t.number.phase = .empty ∧
      t.number.digits = [] ∧ t.number.fifo = [] ∧ t.rating.context = none ∧ t.cash.openCall = none ∧
      t.records = (s.offerRecord record).records ∧ t.cash.summary = s.cash.summary ||| s.callStatus ∧
      EventFlag.call.isIn t.status.flags = true ∧ t.emitter.item = none ∧ t.emitter.pipsDue = 0 ∧
      t.coin = s.coin ∧ t.cash.totals = s.cash.totals ∧ t.hook = s.hook ∧ t.mem = s.mem ∧ t.setup = s.setup

/-- R59, R61, R186: the debounced changes of the hook and its first level. R20, R39, R60: a hook clear forfeits
banked credit, ends the number or the customer call, and requests a refund of the escrow, which starts at once
when no operation is in flight. -/
def Obligations.HookSwitch : Prop :=
  (∀ (s : State) (m : Nat), s.isHeld = false → s.hook.debounce.timer = some m →
    let n := max s.now m
    (s.pins.onHook = true → s.hook.debounce.level = some false →
      exec .hookDebouncedChange s = .next { s with now := n, hook :=
        if s.hook.phase = .offHook then ⟨⟨some true, none⟩, .onHook, some (n + s.setup.settings.hookFlashLimit)⟩
        else { s.hook with debounce := ⟨some true, none⟩ } }) ∧
    (s.pins.onHook = false → s.hook.debounce.level = some true → s.hook.phase = .cleared →
      exec .hookDebouncedChange s = .next
        { s with now := n, hook := ⟨⟨some false, none⟩, .offHook, none⟩
                 status := { s.status with flags := s.status.flags ||| EventFlag.hook.only }
                 path := (s.tally .offHooks).path }) ∧
    (s.pins.onHook = false → s.hook.debounce.level = some true → s.hook.phase = .onHook →
      ∃ t, exec .hookDebouncedChange s = .next t ∧ t.now = n ∧
        t.hook = ⟨⟨some false, none⟩, .offHook, none⟩ ∧ EventFlag.hook.isIn t.status.flags = true ∧
        (∀ x, s.line.owner = some .customer → s.rating.context = some x →
          ∃ y, t.rating.context = some y ∧ y.status = x.status ||| RatingFlag.hookFlash.only ∧
            y.total = x.total ∧ y.charge = x.charge) ∧
        t.line = s.line ∧ t.number = s.number ∧ t.coin = s.coin ∧ t.cash.totals = s.cash.totals ∧
        t.mem = s.mem) ∧
    (s.hook.debounce.level = none → exec .hookFirstLevel s = .next
      { s with now := n, hook := ⟨⟨some s.pins.onHook, none⟩,
          if s.pins.onHook then .cleared else .offHook, s.hook.flashTimer⟩ })) ∧
  (∀ (s : State) (m : Nat), s.isHeld = false → s.hook.flashTimer = some m →
    (s.line.phase = .idle → s.line.owner = none) →
    ∃ t, exec .hookFlashTimerExpiry s = .next t ∧ t.now = max s.now m ∧ t.hook.phase = .cleared ∧
      t.hook.flashTimer = none ∧ t.hook.debounce = s.hook.debounce ∧ t.coin.banked = 0 ∧
      t.coin.escrow = s.coin.escrow ∧ t.coin.gate = s.coin.gate ∧
      (s.coin.inFlight = true → t.coin.request = .refund ∧ t.coin.op = s.coin.op) ∧
      (s.coin.inFlight = false → s.coin.escrow ≠ [] →
        t.coin.op = .refunding ∧ t.coin.opItems = s.coin.escrow.length ∧
        t.coin.flapTimer = some (max s.now m + 1500)) ∧
      (s.cash.closeOwed = false → t.cash.totals.forfeited =
        if s.coin.banked = 0 then s.cash.totals.forfeited
        else addMoney s.cash.totals.forfeited s.coin.banked) ∧
      t.number.phase = .empty ∧ t.line.owner ≠ some .customer ∧ EventFlag.hook.isIn t.status.flags = true ∧
      t.mem = s.mem ∧ t.setup = s.setup ∧ t.clock = s.clock)

/-- R62: the line-present input has contradicted the qualified status for 2 s. A lost line is one occurrence of
LINE_LOST and a reason of paid service, which refuses a PAID number that waits for its deposit (R35). It ends its
owner's call: the line is released, through its guard and with no owner (R46); a customer call is closed with LINE_LOST
(R58, R90, R95); a report attempt is closed as a failed one with LINE_LOST, its timers stopped and its kinds RAISED
again (R118, R133, R134). A line found again only removes the reason. The model's choice in it (log entry 38, DESIGN
CHOICE): the call ends before LINE_LOST is an occurrence, so that a LINE_LOST that is a new kind then begins a new run,
with attempts 0 (R126), and one that is not leaves the pause of the failed attempt. -/
def Obligations.LineQualified : Prop :=
  (∀ (s : State) (m : Nat), s.isHeld = false → s.line.qualifyTimer = some m → s.line.status = .present →
    let n := max s.now m
    let enabled := AlarmKind.lineLost.isIn s.setup.settings.reportEnables
    let isNew := enabled = true ∧
      ((s.alarms.get .lineLost).phase = .quiet ∨ (s.alarms.get .lineLost).phase = .reported)
    let customerRecord : CallRecord :=
      { kind := (s.number.kind.map ZoneKind.recordKind).getD .paid, cause := .lineLost, zone := s.number.zone,
        number := some s.number.digits, seizeTime := some (s.line.seizeTime.getD s.calendar),
        answerTime := s.line.answerTime, endTime := s.calendar,
        units := some ((s.rating.context.map RatingContext.units).getD 0),
        charge := (s.rating.context.map RatingContext.total).getD 0,
        coins := some ((s.rating.context.map RatingContext.coins).getD 0), flags := s.callStatus, calls := 1,
        alarms := none }
    let reportRecord : CallRecord :=
      { kind := .report, cause := .lineLost, zone := none, number := some s.setup.settings.reportNumber,
        seizeTime := some (s.line.seizeTime.getD s.calendar), answerTime := s.report.goTime,
        endTime := s.calendar, units := some 0, charge := 0, coins := some 0, flags := 0#8, calls := 1,
        alarms := some s.report.carriedKinds }
    ∃ t, exec .lineQualifyExpiry s = .next t ∧ t.now = n ∧ t.line.status = .lost ∧
      t.line.qualifyTimer = none ∧ t.coin.reasons.lineLost = true ∧
      (s.coin.reasons.lineLost = false → EventFlag.service.isIn t.status.flags = true) ∧
      (s.line.owner ≠ some .report →
        t.alarms.get .lineLost = (s.alarms.occur .lineLost enabled s.calendar).get .lineLost) ∧
      EventFlag.alarm.isIn t.status.flags = true ∧
      (s.line.owner = none → t.alarms = s.alarms.occur .lineLost enabled s.calendar ∧ t.records = s.records ∧
        (s.number.phase = .waitDeposit → s.coin.reasons.lineLost = false →
          t.number.phase = .refused ∧ t.number.cause = some .serviceUnavailable)) ∧
      (s.line.owner ≠ none → s.line.phase ≠ .idle → t.line.phase = .guarded ∧ t.line.owner = none ∧
        t.line.attempt = none ∧ (s.line.phase = .guarded → t.line.guardTimer = s.line.guardTimer) ∧
        (s.line.phase ≠ .guarded → t.line.guardTimer = some (n + 800) ∧ t.line.dialToneTimer = none ∧
          t.line.answerWaitTimer = none ∧ t.line.timedAnswerTimer = none ∧ t.line.clearTimer = none ∧
          t.emitter.item = none)) ∧
      (s.line.owner = some .customer → s.line.phase ≠ .idle → t.number.phase = .empty ∧ t.number.digits = [] ∧
        t.number.fifo = [] ∧ t.rating.context = none ∧ t.cash.openCall = none ∧
        t.records = (s.offerRecord customerRecord).records ∧
        t.cash.summary = s.cash.summary ||| s.callStatus ∧ EventFlag.call.isIn t.status.flags = true) ∧
      (s.line.owner = some .report → s.line.phase ≠ .idle →
        t.records = (s.offerRecord reportRecord).records ∧
        t.alarms = s.alarms.fail.occur .lineLost enabled s.calendar ∧ t.report.message = [] ∧
        t.report.goTime = none ∧ t.report.goTimer = none ∧ t.report.ackTimer = none ∧
        EventFlag.report.isIn t.status.flags = true ∧
        (isNew → t.report.phase = .waitLine ∧ t.report.attempts = 0 ∧ t.report.runTime = some n ∧
          t.line.reportRequest = some n) ∧
        (¬ isNew → s.report.attempts + 1 < 3 → t.report.phase = .retryWait ∧
          t.report.attempts = s.report.attempts + 1 ∧ t.report.retryTimer = some (n + 120000)) ∧
        (¬ isNew → 3 ≤ s.report.attempts + 1 → t.report.phase = .held ∧ t.report.attempts = 3 ∧
          t.report.holdTimer = some (n + 3600000))) ∧
      t.coin = { s.coin with reasons := { s.coin.reasons with lineLost := true } } ∧
      t.cash.totals = s.cash.totals ∧ t.hook = s.hook ∧ t.tamper = s.tamper ∧ t.mem = s.mem ∧
      t.setup = s.setup) ∧
  ∀ (s : State) (m : Nat), s.isHeld = false → s.line.qualifyTimer = some m → s.line.status = .lost →
    exec .lineQualifyExpiry s = .next
      { s with now := max s.now m
               line := { s.line with status := .present, qualifyTimer := none }
               coin := { s.coin with reasons := { s.coin.reasons with lineLost := false } }
               status := if s.coin.reasons.lineLost then
                   { s.status with flags := s.status.flags ||| EventFlag.service.only } else s.status }

/-! ### Rating (chapter 4) -/

/-- R71, R76, R78, R79, R81: the unit timer runs out. While the answer charge is pending it waits at 0. Else the
charge of the next unit falls due: paid out of banked credit when covered, to revenue and with the next unit
running on from now; not covered, it starts or awaits a collect while the escrow can still pay (a coin in the escrow
or on the gate, and no refund in flight or asked for), and otherwise the call enters grace. -/
def Obligations.UnitTimerRunsOut : Prop :=
  ∀ (s : State) (x : RatingContext) (m : Nat), s.isHeld = false → s.cash.closeOwed = false →
    s.number.phase ≠ .waitDeposit → s.number.phase ≠ .waitLine → s.rating.context = some x →
    x.unitTimer = .running m →
    let n := max s.now m
    (∀ p, x.charge = some p → exec .unitTimerExpiry s = .next
      { s with now := n, rating := { s.rating with context := some { x with unitTimer := .atZero } } }) ∧
    ∀ snap, x.charge = none → x.snapshot = some snap →
      let next := (ratedUnit snap s.clock).1
      let available := (s.coin.escrow ≠ [] ∨ s.coin.gate ≠ none) ∧ s.coin.op ≠ .refunding ∧
        s.coin.request ≠ .refund
      (next.charge ≤ s.coin.banked → ∃ t y, exec .unitTimerExpiry s = .next t ∧ t.now = n ∧
        t.rating.context = some y ∧ y.unit = some next ∧ y.unitTimer = .running (n + 100 * next.length) ∧
        y.units = min (x.units + 1) 65535 ∧ y.total = min (x.total + next.charge) 65535 ∧
        (65535 < x.total + next.charge ∨ 65535 < x.units + 1 → RatingFlag.saturated.isIn y.status = true) ∧
        y.charge = none ∧ y.payment = .settled ∧ y.graceTimer = none ∧ y.coins = x.coins ∧
        t.coin.banked = s.coin.banked - next.charge ∧ t.coin.escrow = s.coin.escrow ∧
        t.coin.gate = s.coin.gate ∧ t.coin.op = s.coin.op ∧
        t.cash.totals = { s.cash.totals with revenue := addMoney s.cash.totals.revenue next.charge } ∧
        t.mem = s.mem ∧ t.clock = s.clock ∧ t.hook = s.hook ∧ t.tamper = s.tamper ∧ t.alarms = s.alarms ∧
        t.records = s.records ∧ t.line = s.line ∧ t.number = s.number ∧ t.setup = s.setup) ∧
      (s.coin.banked < next.charge → available →
        ∃ t y, exec .unitTimerExpiry s = .next t ∧ t.rating.context = some y ∧ y.payment = .collectWait ∧
          y.charge = some ⟨next.charge, 1, .unitExpiry next⟩ ∧ y.unitTimer = .stopped ∧
          y.total = x.total ∧ y.units = x.units ∧
          (s.coin.inFlight = false → s.coin.escrow ≠ [] → t.coin.op = .collecting ∧
            t.coin.opItems = s.coin.escrow.length ∧ t.coin.chuteCount = 0 ∧ t.coin.actuator = .collect ∧
            t.coin.flapTimer = some (n + 1500)) ∧
          (s.coin.inFlight = true → t.coin = { s.coin with request := .collect }) ∧
          t.coin.escrow = s.coin.escrow ∧ t.coin.gate = s.coin.gate ∧ t.coin.banked = s.coin.banked ∧
          t.cash.totals = s.cash.totals ∧ t.mem = s.mem ∧ t.line = s.line ∧ t.number = s.number) ∧
      (s.coin.banked < next.charge → ¬ available →
        ∃ t y, exec .unitTimerExpiry s = .next t ∧ t.rating.context = some y ∧ y.payment = .grace ∧
          y.charge = some ⟨next.charge, 1, .unitExpiry next⟩ ∧ y.unitTimer = .stopped ∧
          y.graceTimer = some (n + 1000 * s.setup.settings.graceTime) ∧ y.cutWaiting = false ∧
          y.total = x.total ∧ y.units = x.units ∧ EventFlag.creditLow.isIn t.status.flags = true ∧
          s.tallyRises t .graceEntries ∧ t.emitter.pipTimer = some (n + 2000) ∧ t.coin = s.coin ∧
          t.cash.totals = s.cash.totals ∧ t.mem = s.mem ∧ t.line = s.line)

/-- R83, R84: the grace timer runs out. While a collect is in flight or pending the cut waits for its result; else
the call is cut for want of credit, its record carrying GRACE_CUT and CREDIT_EXHAUSTED. R55, R77: a metering pulse
while a customer call is connected. Under INTERNAL rating, and in a FREE or EMERGENCY call, which has no snapshot
(R75), it does nothing; under METERING rating it charges the unit of the moment when the call is settled, paid where
credit covers it, and else awaiting a collect or bringing grace; joins the pending charge while a collect is awaited,
to two units; and cuts a call in grace, or one whose pending charge it would bring to a third unit. -/
def Obligations.GraceAndMeteringPulses : Prop :=
  (∀ (s : State) (x : RatingContext) (m : Nat), s.isHeld = false → s.rating.context = some x →
    x.graceTimer = some m →
    (s.coin.op = .collecting ∨ s.coin.request = .collect → exec .graceTimerExpiry s = .next
      { s with now := max s.now m
               rating := { s.rating with
                 context := some { x with graceTimer := none, cutWaiting := true } } }) ∧
    (s.coin.op ≠ .collecting → s.coin.request ≠ .collect → s.line.owner = some .customer →
      s.line.phase = .connected →
      let record : CallRecord :=
        { kind := (s.number.kind.map ZoneKind.recordKind).getD .paid, cause := .creditExhausted,
          zone := s.number.zone, number := some s.number.digits,
          seizeTime := some (s.line.seizeTime.getD s.calendar), answerTime := s.line.answerTime,
          endTime := s.calendar, units := some x.units, charge := x.total, coins := some x.coins,
          flags := x.status ||| RatingFlag.graceCut.only, calls := 1, alarms := none }
      ∃ t, exec .graceTimerExpiry s = .next t ∧ t.now = max s.now m ∧
        t.records = (s.offerRecord record).records ∧
        t.cash.summary = s.cash.summary ||| (x.status ||| RatingFlag.graceCut.only) ∧
        t.line.phase = .guarded ∧ t.line.owner = none ∧ t.line.guardTimer = some (max s.now m + 800) ∧
        t.number.phase = .empty ∧ t.rating.context = none ∧ t.cash.openCall = none ∧
        EventFlag.call.isIn t.status.flags = true ∧ t.coin = s.coin ∧ t.cash.totals = s.cash.totals ∧
        t.mem = s.mem ∧ t.setup = s.setup)) ∧
  (∀ (s : State), s.isHeld = false → s.cash.closeOwed = false → s.number.phase ≠ .waitDeposit →
    s.number.phase ≠ .waitLine → s.line.owner = some .customer → s.line.phase = .connected →
    (s.setup.settings.ratingSource = .internal → exec .meteringPulse s = .next s) ∧
    (∀ x, s.rating.context = some x → x.snapshot = none → exec .meteringPulse s = .next s) ∧
    ∀ x snap, s.setup.settings.ratingSource = .metering → s.rating.context = some x →
      x.snapshot = some snap →
      let u := (ratedUnit snap s.clock).1
      let available := (s.coin.escrow ≠ [] ∨ s.coin.gate ≠ none) ∧ s.coin.op ≠ .refunding ∧
        s.coin.request ≠ .refund
      (x.payment = .settled → u.charge ≤ s.coin.banked → ∃ t y, exec .meteringPulse s = .next t ∧
        t.rating.context = some y ∧ y.lastPulse = some u ∧ y.units = min (x.units + 1) 65535 ∧
        y.total = min (x.total + u.charge) 65535 ∧ y.charge = none ∧ y.payment = .settled ∧
        y.unitTimer = x.unitTimer ∧ t.coin.banked = s.coin.banked - u.charge ∧
        t.coin.escrow = s.coin.escrow ∧ t.cash.totals =
          { s.cash.totals with revenue := addMoney s.cash.totals.revenue u.charge } ∧
        t.mem = s.mem ∧ t.line = s.line ∧ t.number = s.number ∧ t.setup = s.setup ∧ t.now = s.now) ∧
      (∀ p, x.payment = .collectWait → x.charge = some p → p.units ≤ 1 →
        ∃ t y, exec .meteringPulse s = .next t ∧ t.rating.context = some y ∧
          y.charge = some ⟨p.amount + u.charge, p.units + 1, p.origin⟩ ∧ y.payment = .collectWait ∧
          y.total = x.total ∧ y.units = x.units ∧ t.coin = s.coin ∧ t.cash.totals = s.cash.totals ∧
          t.line = s.line ∧ t.number = s.number ∧ t.mem = s.mem) ∧
      (x.payment = .settled → s.coin.banked < u.charge → ∃ t y, exec .meteringPulse s = .next t ∧
        t.rating.context = some y ∧ y.lastPulse = some u ∧ y.charge = some ⟨u.charge, 1, .metering⟩ ∧
        y.total = x.total ∧ y.units = x.units ∧ t.coin.banked = s.coin.banked ∧
        (available → y.payment = .collectWait ∧
          (s.coin.escrow ≠ [] → s.coin.inFlight = false → t.coin.op = .collecting)) ∧
        (¬ available → y.payment = .grace ∧
          y.graceTimer = some (s.now + 1000 * s.setup.settings.graceTime) ∧
          EventFlag.creditLow.isIn t.status.flags = true) ∧
        t.cash.totals = s.cash.totals ∧ t.line = s.line ∧ t.mem = s.mem) ∧
      (x.payment = .grace ∨ (x.payment = .collectWait ∧ 2 ≤ (x.charge.map Charge.units).getD 0) →
        let record : CallRecord :=
          { kind := (s.number.kind.map ZoneKind.recordKind).getD .paid, cause := .creditExhausted,
            zone := s.number.zone, number := some s.number.digits,
            seizeTime := some (s.line.seizeTime.getD s.calendar), answerTime := s.line.answerTime,
            endTime := s.calendar, units := some x.units, charge := x.total, coins := some x.coins,
            flags := x.status ||| RatingFlag.graceCut.only, calls := 1, alarms := none }
        ∃ t, exec .meteringPulse s = .next t ∧ t.line.phase = .guarded ∧ t.line.owner = none ∧
        t.line.guardTimer = some (s.now + 800) ∧ t.records = (s.offerRecord record).records ∧
        t.number.phase = .empty ∧ t.rating.context = none ∧
        t.cash.openCall = none ∧ t.cash.summary = s.cash.summary ||| (x.status ||| RatingFlag.graceCut.only) ∧
        t.coin = s.coin ∧ t.cash.totals = s.cash.totals ∧ t.mem = s.mem))

/-! ### The record ring (chapter 5) -/

/-- R98: the word that publishes a record, which follows its 24 slot words. The producer passes to the slot
after it, in the copy and in word 0 of the RECORDS area, RECORD is set, and the next job comes to the front.
R99, R102: the host's write of the consumer index. A value in the occupied span of a ring whose header stands is
taken and passes to word 1 of the RECORDS area, and a held record leaves for the ring when it freed a slot; any
other value is dropped with INDEX_REFUSED, at once and without a turn at the port. The model's choice in it (log
entry 9, DEDUCED): the index is judged and acts as the write is taken, before the part turn that the write may have
to wait for. -/
def Obligations.RecordRingIndices : Prop :=
  (∀ (s : State) (rest : List Requester) (slot : Nat) (record : CallRecord) (more : List RecordJob),
    s.isHeld = false → s.path.busWait = [] → s.path.partQueue = .recordWriter :: rest →
    s.records.headerRead = none → s.records.newBase = none → s.records.written = 24 →
    s.records.jobs = .slot slot record :: more → slot < 32 →
    ∃ t, exec .recordPublish s = .next t ∧
      t.records = { s.records with producer := (slot + 1) % 32, jobs := more, written := 0 } ∧
      t.status = { s.status with flags := s.status.flags ||| EventFlag.record.only } ∧
      sameOutside s.mem t.mem s.records.base 2 ∧
      (s.records.base + 1 < Config.flashBase → Memory.wf s.mem = true →
        readWord t.mem s.records.base = BitVec.ofNat 16 ((slot + 1) % 32)) ∧
      t.path.partOwed = false ∧ t.path.tallies = s.path.tallies ∧
      (.recordWriter ∉ rest → t.path.partQueue = if more = [] then rest else rest ++ [.recordWriter]) ∧
      t.coin = s.coin ∧ t.cash = s.cash ∧ t.line = s.line ∧ t.number = s.number ∧ t.alarms = s.alarms ∧
      t.setup = s.setup ∧ t.now = s.now ∧ t.clock = s.clock) ∧
  (∀ (access : SpecialAccess) (value : Word) (s : State), s.holdsHost = false →
    let w := specialOperand access value
    let v := w.toNat
    let addr := wordAddr s.setup.settings.bases.records 1
    let a := s.specialAction .consumerIndex w
    let taken := s.records.newBase = none ∧ s.records.headerOwed = false ∧ v ≤ 31 ∧
      (v + 32 - s.records.consumer) % 32 ≤ (s.records.producer + 32 - s.records.consumer) % 32
    (taken →
      (∃ t, exec (.consumerIndexWrite access value) s = .next t ∧ s.writesAt a t addr 2 ∧
        (addr + 1 < Config.flashBase → Memory.wf (s.atHostTurn a).mem = true → readWord t.mem addr = w)) ∧
      a = { s with records := a.records, path := a.path } ∧ a.path.partOwed = s.path.partOwed ∧
      a.path.tallies = s.path.tallies ∧
      (∀ h, s.records.held = some h → s.records.consumer ≠ v → .recordWriter ∈ a.path.partQueue ∧
        a.records = { s.records with
          consumer := v, held := none, jobs := s.records.jobs ++ [.slot s.records.writeIndex h, .flagClear]
          writeIndex := (s.records.writeIndex + 1) % 32 }) ∧
      (s.records.held = none ∨ s.records.consumer = v →
        a.records = { s.records with consumer := v } ∧ a.path = s.path)) ∧
    (¬ taken → exec (.consumerIndexWrite access value) s = .next a ∧
      a = { s with status := { s.status with flags := s.status.flags ||| EventFlag.indexRefused.only }
                   path := (s.tally .writesRefused).path } ∧ a.path.partOwed = s.path.partOwed))

/-! ### Tamper inputs and collection sessions (chapters 6 and 8) -/

/-- R105, R107, R109, R110, R141: the debounce of an input of a monitor with its first statuses ends with a new
level. The level and the status follow the raw input; a status that does not change is no edge. The active edge
of DOOR or HOUSING, and the inactive edge of VAULT, is one occurrence outside a session and none inside; CORD
starts or stops its onset timer; SHOCK enters the shock window, and the third within 10 s is one occurrence and
empties the window; a vault that leaves inside a session is marked out. -/
def Obligations.TamperEdges : Prop :=
  ∀ (s : State) (i : TamperInput) (m : Nat), s.isHeld = false → s.tamper.firstSet = true →
    (s.tamper.get i).debounce = ⟨some (!s.pins.tamper.get i), some m⟩ →
    let n := max s.now m
    let active := s.setup.settings.activeLevels.get i == s.pins.tamper.get i
    let settled := s.tamper.put i ⟨⟨some (s.pins.tamper.get i), none⟩, active⟩
    (∃ t, exec (.tamperEdge i) s = .next t ∧ t.now = n ∧ t.tamper.get i = settled.get i ∧
      (∀ j, t.tamper.get j = settled.get j) ∧ t.mem = s.mem ∧ t.setup = s.setup ∧ t.clock = s.clock ∧
      t.hook = s.hook ∧ t.pins = s.pins) ∧
    (active = (s.tamper.get i).active →
      exec (.tamperEdge i) s = .next { s with now := n, tamper := settled }) ∧
    (active ≠ (s.tamper.get i).active →
      (i = .door ∨ i = .housing → active = true → s.tamper.sessionOpen = false →
        ∃ t, exec (.tamperEdge i) s = .next t ∧ t.tamper = settled ∧
          t.alarms = s.alarms.occur (if i = .door then .doorForced else .housingOpen)
            ((if i = .door then AlarmKind.doorForced else .housingOpen).isIn s.setup.settings.reportEnables)
            s.calendar ∧ EventFlag.alarm.isIn t.status.flags = true ∧ t.coin = s.coin ∧
          t.cash.totals = s.cash.totals ∧ t.number = s.number) ∧
      (i = .door ∨ i = .housing → active = false ∨ s.tamper.sessionOpen = true →
        exec (.tamperEdge i) s = .next { s with now := n, tamper := settled }) ∧
      (i = .vault → active = false → s.tamper.sessionOpen = false →
        ∃ t, exec (.tamperEdge i) s = .next t ∧ t.tamper = settled ∧
          t.alarms = s.alarms.occur .vaultRemoved
            (AlarmKind.vaultRemoved.isIn s.setup.settings.reportEnables) s.calendar ∧
          EventFlag.alarm.isIn t.status.flags = true ∧ t.coin = s.coin ∧
          t.cash.totals = s.cash.totals) ∧
      (i = .vault → active = false → s.tamper.sessionOpen = true → exec (.tamperEdge i) s = .next
        { s with now := n, tamper := { settled with vaultOut := true } }) ∧
      (i = .vault → active = true → s.tamper.sessionOpen = false ∨ s.tamper.vaultOut = false →
        exec (.tamperEdge i) s = .next { s with now := n, tamper := settled }) ∧
      (i = .cord → exec (.tamperEdge i) s = .next
        { s with now := n, tamper := { settled with
            cordRaised := false, cordTimer := if active then some (n + 1000) else none } }) ∧
      (i = .shock → active = false →
        exec (.tamperEdge i) s = .next { s with now := n, tamper := settled }) ∧
      (i = .shock → active = true →
        let recent := s.tamper.shockWindow.filter fun e => decide (n < e + 10000)
        (recent.length < 2 → exec (.tamperEdge i) s = .next
          { s with now := n, tamper := { settled with shockWindow := recent ++ [n] } }) ∧
        (2 ≤ recent.length → ∃ t, exec (.tamperEdge i) s = .next t ∧
          t.tamper = { settled with shockWindow := [] } ∧
          t.alarms = s.alarms.occur .shock (AlarmKind.shock.isIn s.setup.settings.reportEnables) s.calendar ∧
          EventFlag.alarm.isIn t.status.flags = true ∧ t.coin = s.coin ∧ t.cash.totals = s.cash.totals)))

/-- R138, R140, R141, R142: the key and the vault exchange. The active edge of KEY opens a session: a customer call
that has been seized ends with SESSION (R57, R58), in whatever state the line is, the release of a call in the guard
between two tries leaving the guard to run on (R46); banked credit is forfeited, the escrow is to be refunded and
paid service is unavailable. Its inactive edge closes the session: the summary and cash-suspect are cleared, every
REPORTED and NOTED kind goes back to QUIET and no other kind changes, but that each standing door, housing and vault
condition is one occurrence. The return of a vault that was out owes a collection close, which happens at once over a
settled purse. -/
def Obligations.KeyAndVaultExchange : Prop :=
  ∀ (s : State) (i : TamperInput) (m : Nat), s.isHeld = false → s.tamper.firstSet = true →
    (s.tamper.get i).debounce = ⟨some (!s.pins.tamper.get i), some m⟩ →
    let n := max s.now m
    let active := s.setup.settings.activeLevels.get i == s.pins.tamper.get i
    let record : CallRecord :=
      { kind := (s.number.kind.map ZoneKind.recordKind).getD .paid, cause := .session, zone := s.number.zone,
        number := some s.number.digits, seizeTime := some (s.line.seizeTime.getD s.calendar),
        answerTime := s.line.answerTime, endTime := s.calendar,
        units := some ((s.rating.context.map RatingContext.units).getD 0),
        charge := (s.rating.context.map RatingContext.total).getD 0,
        coins := some ((s.rating.context.map RatingContext.coins).getD 0), flags := s.callStatus, calls := 1,
        alarms := none }
    active ≠ (s.tamper.get i).active →
    (i = .key → active = true → s.tamper.sessionOpen = false →
      ∃ t, exec (.tamperEdge i) s = .next t ∧ t.tamper.sessionOpen = true ∧ t.coin.banked = 0 ∧
        t.coin.reasons.sessionOpen = true ∧ t.tamper.vaultOut = (!s.tamper.vault.active) ∧
        t.coin.escrow = s.coin.escrow ∧ t.coin.gate = s.coin.gate ∧
        (s.coin.inFlight = false → s.coin.escrow ≠ [] → t.coin.op = .refunding) ∧
        (s.coin.inFlight = true → t.coin.request = .refund ∧ t.coin.op = s.coin.op) ∧
        (s.line.owner = some .customer → s.line.phase ≠ .idle → t.line.phase = .guarded ∧
          t.line.owner = none ∧ (s.line.phase = .guarded → t.line.guardTimer = s.line.guardTimer) ∧
          (s.line.phase ≠ .guarded → t.line.guardTimer = some (n + 800)) ∧
          t.number.phase = .empty ∧ t.rating.context = none ∧ t.cash.openCall = none ∧
          t.records = (s.offerRecord record).records ∧ EventFlag.call.isIn t.status.flags = true) ∧
        t.mem = s.mem) ∧
    (i = .key → active = false → s.tamper.sessionOpen = true →
      ∃ t, exec (.tamperEdge i) s = .next t ∧ t.tamper.sessionOpen = false ∧ t.tamper.vaultOut = false ∧
        t.coin.reasons.sessionOpen = false ∧ t.cash.summary = 0#8 ∧ t.cash.suspect = false ∧
        (∀ k, t.alarms.get k =
          if (k = .doorForced ∧ s.tamper.door.active = true) ∨
              (k = .housingOpen ∧ s.tamper.housing.active = true) ∨
              (k = .vaultRemoved ∧ s.tamper.vault.active = false) then
            (s.alarms.clearAll.occur k (k.isIn s.setup.settings.reportEnables) s.calendar).get k
          else if (s.alarms.get k).phase = .reported ∨ (s.alarms.get k).phase = .noted then
            ⟨.quiet, 0, 0, none, none⟩
          else s.alarms.get k) ∧
        (s.pins.flapHome = true → t.coin.reasons.escrowJammed = false) ∧
        (s.tamper.door.active = true → (t.alarms.get .doorForced).lastTime = some s.calendar) ∧
        (s.tamper.housing.active = true → (t.alarms.get .housingOpen).lastTime = some s.calendar) ∧
        (s.tamper.vault.active = false → (t.alarms.get .vaultRemoved).lastTime = some s.calendar) ∧
        t.coin.banked = s.coin.banked ∧ t.coin.escrow = s.coin.escrow ∧
        t.cash.totals = s.cash.totals ∧ t.mem = s.mem) ∧
    (i = .vault → active = true → s.tamper.sessionOpen = true → s.tamper.vaultOut = true →
      ∃ t, exec (.tamperEdge i) s = .next t ∧ t.tamper.vaultOut = false ∧ t.tamper.sessionOpen = true ∧
        (s.coin.escrow = [] → s.coin.gate = none → s.coin.inFlight = false → s.coin.banked = 0 →
          t.cash.closeOwed = false ∧ t.cash.totals = zeroTotals ∧ t.cash.vaultCoins = 0 ∧
          t.cash.acceptedCounts = zeroCounts ∧ t.cash.vaultCounts = zeroCounts ∧
          t.cash.lastCollection = ⟨true, some s.calendar, s.cash.totals, s.cash.vaultCoins⟩ ∧
          EventFlag.cash.isIn t.status.flags = true) ∧
        (s.coin.escrow ≠ [] ∨ s.coin.gate ≠ none ∨ s.coin.inFlight = true ∨ s.coin.banked ≠ 0 →
          t.cash.closeOwed = true ∧ t.cash.totals = s.cash.totals ∧
          t.cash.vaultCoins = s.cash.vaultCoins ∧ t.coin = s.coin) ∧
        t.mem = s.mem)

/-- R105, R108, R109, R186: the first statuses of the tamper inputs, once each input has held its first level, and
the end of the cord's onset. Every status follows the first level without an edge; the standing conditions are
occurrences, or KEY ACTIVE opens a session in their place, and they raise nothing; and the start has ended. CORD
active for 1 s is one occurrence of CORD_CUT and the raised mark. -/
def Obligations.FirstStatusesAndCordCut : Prop :=
  (∀ s : State, s.isHeld = false → s.power.phase = .inputWait →
    (∀ i, (s.tamper.get i).debounce.level = none ∧ ∃ m, (s.tamper.get i).debounce.timer = some m) →
    ∃ t, exec .tamperFirstLevels s = .next t ∧ t.power.phase = .ended ∧ t.tamper.firstSet = true ∧
      (∀ i m, (s.tamper.get i).debounce.timer = some m → m ≤ t.now) ∧ s.now ≤ t.now ∧
      (∀ i, t.tamper.get i = ⟨⟨some (s.pins.tamper.get i), none⟩,
        s.setup.settings.activeLevels.get i == s.pins.tamper.get i⟩) ∧
      (t.tamper.key.active = true →
        t.tamper.sessionOpen = true ∧ t.coin.reasons.sessionOpen = true ∧ t.coin.banked = 0 ∧
        (s.number.deposit = none ∨ s.number.kind = some .paid →
          t.alarms.get .doorForced = s.alarms.get .doorForced ∧
          t.alarms.get .housingOpen = s.alarms.get .housingOpen ∧
          t.alarms.get .vaultRemoved = s.alarms.get .vaultRemoved ∧
          (s.line.owner ≠ some .customer → t.alarms = s.alarms))) ∧
      (t.tamper.key.active = false → t.tamper.sessionOpen = s.tamper.sessionOpen ∧
        (t.tamper.door.active = true → (t.alarms.get .doorForced).lastTime = some s.calendar) ∧
        (t.tamper.housing.active = true → (t.alarms.get .housingOpen).lastTime = some s.calendar) ∧
        (t.tamper.vault.active = false → (t.alarms.get .vaultRemoved).lastTime = some s.calendar)) ∧
      (t.tamper.cord.active = true → t.tamper.cordTimer = some (t.now + 1000)) ∧
      t.mem = s.mem ∧ t.setup = s.setup ∧ t.clock = s.clock) ∧
  ∀ (s : State) (m : Nat), s.isHeld = false → s.tamper.cordTimer = some m →
    ∃ t, exec .cordOnsetExpiry s = .next t ∧ t.now = max s.now m ∧
      t.tamper = { s.tamper with cordTimer := none, cordRaised := true } ∧
      t.alarms = s.alarms.occur .cordCut (AlarmKind.cordCut.isIn s.setup.settings.reportEnables) s.calendar ∧
      EventFlag.alarm.isIn t.status.flags = true ∧ t.coin = s.coin ∧ t.cash.totals = s.cash.totals ∧
      t.mem = s.mem ∧ t.setup = s.setup ∧ t.number = s.number ∧ t.hook = s.hook

/-! ### Reporting calls (chapter 7) -/

/-- R126: a pause of the report caller runs out. With nothing to report the run ends in IDLE; else the retry
timer resumes the run with its run time, and the hold timer begins a new one, each by a request for the line,
which a busy line leaves waiting and an idle line grants at once. -/
def Obligations.ReportPausesEnd : Prop :=
  ∀ (s : State) (c : Instr) (m run attempts : Nat), s.isHeld = false →
    (c = .retryTimerExpiry ∧ s.report.retryTimer = some m ∧ s.report.holdTimer = none ∧
        s.report.runTime = some run ∧ attempts = s.report.attempts) ∨
      (c = .holdTimerExpiry ∧ s.report.holdTimer = some m ∧ s.report.retryTimer = none ∧
        run = max s.now m ∧ attempts = 0) →
    let n := max s.now m
    let wanted := s.alarms.queue ≠ [] ∨ s.report.statusMark = true
    let resumed : ReportState := { s.report with
      phase := .waitLine, attempts := attempts, runTime := some run, retryTimer := none, holdTimer := none }
    (¬ wanted → exec c s = .next
      { s with now := n
               report := { s.report with
                 phase := .idle, attempts := 0, runTime := none, retryTimer := none, holdTimer := none } }) ∧
    (wanted → s.line.phase ≠ .idle → exec c s = .next
      { s with now := n, report := resumed, line := { s.line with reportRequest := some run } }) ∧
    (wanted → s.line.phase = .idle → s.line.customerRequest = none → exec c s = .next
      { s with now := n, report := resumed
               line := { s.line with phase := .seizing, owner := some .report, attempt := some 1
                                     reportRequest := none, seizeTime := some s.calendar
                                     answerTime := none, guardTimer := none
                                     dialToneTimer := some (n + 1000 * s.setup.settings.dialToneWait)
                                     toneFrom := if s.pins.tonePresent then some n else none } })

/-- R52, R116, R129, R130, R131: the go tone. The report call is CONNECTED, every queued kind is carried, the
message is built from the identity, the kinds and the collected value, and its first symbol begins. A status
report, with no kind queued, changes nothing of the cash image. -/
def Obligations.GoToneBuildsTheMessage : Prop :=
  ∀ (s : State) (f : Nat), s.isHeld = false → s.report.phase = .awaitGo → s.line.toneFrom = some f →
    ∃ t, exec .goToneFound s = .next t ∧ t.now = max s.now (f + 300) ∧
      t.line = { s.line with phase := .connected, answerTime := some s.calendar } ∧
      t.alarms = s.alarms.build ∧ t.report.phase = .sending ∧ t.report.goTimer = none ∧
      t.report.goTime = some s.calendar ∧ t.report.attempts = s.report.attempts ∧
      t.report.message =
        reportMessage s.setup.settings.phoneIdentity s.alarms.build s.cash.totals.collected ∧
      (∀ k, (s.alarms.get k).phase = .raised → k ∈ s.alarms.queue → s.alarms.queue.Nodup →
        (t.alarms.get k).phase = .reporting ∧ (t.alarms.get k).carried = (s.alarms.get k).count ∧
        (t.alarms.get k).count = (s.alarms.get k).count) ∧
      (s.line.owner = some .report → s.emitter.item = none →
        t.emitter.item = some (.toneOn 10 .messageSymbol) ∧ t.report.handed = 1) ∧
      (s.alarms.queue = [] → t.cash = s.cash) ∧
      t.cash.totals = s.cash.totals ∧ t.coin = s.coin ∧ t.number.digits = s.number.digits ∧ t.mem = s.mem

/-- R117, R118, R132, R133: the end of an attempt. No go tone in time, or no acknowledgement in time, is a
counted failure: the kinds carried are RAISED again with their counts, and the caller pauses, for the hold time
after the third. The acknowledgement settles the kinds carried and ends the run. The line goes through its guard
with no owner, a REPORT record is offered, and REPORT is set. R49, R133, R135, R136: a customer EMERGENCY request
placed while REPORT owns the line abandons the attempt with PREEMPTED, and a service restart abandons it with RESTART:
no attempt is counted, the kinds carried are RAISED again, the record is offered, and the request is placed again with
the run time it had; a FREE number's request pre-empts nothing. -/
def Obligations.ReportAttemptEnds : Prop :=
  (∀ (s : State) (c : Instr) (outcome : EndCause) (n : Nat), s.isHeld = false →
    s.line.owner = some .report → s.line.phase = .awaitAnswer ∨ s.line.phase = .connected →
    ((∃ m, c = .goTimerExpiry ∧ outcome = .noGo ∧ s.report.goTimer = some m ∧ n = max s.now m) ∨
      (∃ m, c = .ackTimerExpiry ∧ outcome = .noAck ∧ s.report.ackTimer = some m ∧ n = max s.now m) ∨
      (∃ f, c = .ackToneFound ∧ outcome = .ok ∧ s.report.phase = .awaitAck ∧
        s.line.toneFrom = some f ∧ n = max s.now (f + 500))) →
    let record : CallRecord :=
      { kind := .report, cause := outcome, zone := none, number := some s.setup.settings.reportNumber,
        seizeTime := some (s.line.seizeTime.getD s.calendar), answerTime := s.report.goTime,
        endTime := s.calendar, units := some 0, charge := 0, coins := some 0, flags := 0#8, calls := 1,
        alarms := some s.report.carriedKinds }
    ∃ t, exec c s = .next t ∧ t.now = n ∧ t.line.phase = .guarded ∧ t.line.owner = none ∧
      t.line.guardTimer = some (n + 800) ∧ t.emitter.item = none ∧
      t.records = (s.offerRecord record).records ∧ t.report.message = [] ∧ t.report.goTime = none ∧
      t.report.goTimer = none ∧ t.report.ackTimer = none ∧ EventFlag.report.isIn t.status.flags = true ∧
      t.coin = s.coin ∧ t.number = s.number ∧ t.cash.totals = s.cash.totals ∧ t.mem = s.mem ∧
      (outcome ≠ .ok → t.alarms = s.alarms.fail ∧
        (s.report.attempts + 1 < 3 → t.report.phase = .retryWait ∧
          t.report.attempts = s.report.attempts + 1 ∧ t.report.retryTimer = some (n + 120000)) ∧
        (3 ≤ s.report.attempts + 1 → t.report.phase = .held ∧ t.report.attempts = 3 ∧
          t.report.holdTimer = some (n + 3600000))) ∧
      (outcome = .ok → t.alarms = s.alarms.acknowledge ∧ t.report.statusMark = false ∧
        t.report.attempts = 0 ∧
        (s.alarms.acknowledge.queue = [] → t.report.phase = .idle ∧ t.report.runTime = none) ∧
        (s.alarms.acknowledge.queue ≠ [] → t.report.phase = .waitLine ∧ t.report.runTime = some n ∧
          t.line.reportRequest = some n))) ∧
  ∀ (s : State) (run : Nat), s.isHeld = false → s.line.owner = some .report → s.line.phase ≠ .idle →
    s.report.runTime = some run →
    let abandoned := fun (t : State) (outcome : EndCause) =>
      let record : CallRecord :=
        { kind := .report, cause := outcome, zone := none, number := some s.setup.settings.reportNumber,
          seizeTime := some (s.line.seizeTime.getD s.calendar), answerTime := s.report.goTime,
          endTime := s.calendar, units := some 0, charge := 0, coins := some 0, flags := 0#8, calls := 1,
          alarms := some s.report.carriedKinds }
      t.line.phase = .guarded ∧ t.line.owner = none ∧ t.line.attempt = none ∧
        (s.line.phase = .guarded → t.line.guardTimer = s.line.guardTimer) ∧
        (s.line.phase ≠ .guarded → t.line.guardTimer = some (s.now + 800) ∧ t.emitter.item = none) ∧
        t.line.reportRequest = some run ∧ t.report.phase = .waitLine ∧ t.report.runTime = some run ∧
        t.report.attempts = s.report.attempts ∧ t.report.statusMark = s.report.statusMark ∧
        t.report.message = [] ∧ t.report.goTime = none ∧ t.report.goTimer = none ∧ t.report.ackTimer = none ∧
        t.alarms = s.alarms.fail ∧ t.records = (s.offerRecord record).records ∧
        EventFlag.report.isIn t.status.flags = true ∧ t.clock = s.clock ∧ t.setup = s.setup
    (∀ (rest : List Requester) (zone : Nat) (ws : List Word) (more : List AnalyserRead),
      s.path.busWait = [] → s.path.partQueue = .numberAnalyser :: rest →
      s.number.reads = ⟨.zoneEntry zone, ws, false⟩ :: more → ws.length = 15 →
      (s.setup.settings.dialMode = .tone ∨ ∀ d ∈ s.number.digits, d < 10) →
      let kind := natAt (ws ++ [readWord s.mem (wordAddr s.setup.settings.bases.tariff (16 * zone + 15))]) 0
      (kind = 3 → ∃ t, exec .zoneEntryReadEnd s = .next t ∧ abandoned t .preempted ∧
        t.line.customerRequest = some .emergency ∧ t.number.phase = .waitLine ∧
        (s.records.held = none → t.path.tallies = s.path.tallies) ∧ t.coin = s.coin ∧ t.mem = s.mem) ∧
      (kind = 2 → ∃ t, exec .zoneEntryReadEnd s = .next t ∧
        t.line = { s.line with customerRequest := some .paidFree } ∧ t.report = s.report ∧
        t.alarms = s.alarms ∧ t.records = s.records ∧ t.number.phase = .waitLine)) ∧
    (s.holdsHost = false → s.path.partQueue = [] → s.mailbox.command = none → Memory.wf s.mem = true →
      s.setup.settings.bases.mailbox + 31 < Config.flashBase →
      ∃ t, exec .restartService s = .next t ∧ abandoned t .restart ∧
        t.power = { s.power with cause := .restart } ∧ t.number.phase = .empty ∧ t.coin.banked = 0)

/-! ### The memory port and the host's accesses (chapter 9) -/

/-- R159, R161, R162: a part turn. With nothing queued there is none; the turn of the tally logic adds the
oldest pending amount to its tally, saturating at 65535; a turn of the record writer writes the next word of a
record's slot; each clears the part-owed mark, and a requester with a further word joins again at the newest
end. R146, R147: a write-back. Its first turn writes the odd sequence and freezes the copy; the turns between write
the field words of the copy in ascending order and then the check word; its last writes the sequence plus 2 at the
copy's base, after which it is queued again when the image has changed meanwhile and else idle. R170: the turns of a
response before its last write words 7 to 13 of the mailbox, the code and then the data. -/
def Obligations.PartTurnsAtThePort : Prop :=
  (∀ s : State, s.isHeld = false → s.path.busWait = [] →
    (s.path.partQueue = [] → exec .partWordTurn s = .next s) ∧
    (∀ rest e more, s.path.partQueue = .tallyLogic :: rest → s.path.tallies = e :: more →
      let addr := wordAddr s.setup.settings.bases.tally e.tally.index
      ∃ t, exec .partWordTurn s = .next t ∧ t = { s with mem := t.mem, path := t.path } ∧
        t.path.tallies = more ∧ t.path.partOwed = false ∧ t.path.readData = s.path.readData ∧
        (.tallyLogic ∉ rest → t.path.partQueue = if more = [] then rest else rest ++ [.tallyLogic]) ∧
        sameOutside s.mem t.mem addr 2 ∧
        (addr + 1 < Config.flashBase → Memory.wf s.mem = true →
          (readWord t.mem addr).toNat = min ((readWord s.mem addr).toNat + e.amount) 65535)) ∧
    ∀ rest slot record more, s.path.partQueue = .recordWriter :: rest → s.records.headerRead = none →
      s.records.jobs = .slot slot record :: more → s.records.written < 24 →
      let addr := wordAddr s.records.base (4 + 24 * slot + s.records.written)
      ∃ t, exec .partWordTurn s = .next t ∧
        t = { s with mem := t.mem, path := t.path
                     records := { s.records with written := s.records.written + 1 } } ∧
        t.path.partOwed = false ∧ t.path.tallies = s.path.tallies ∧
        (.recordWriter ∉ rest → t.path.partQueue = rest ++ [.recordWriter]) ∧
        sameOutside s.mem t.mem addr 2 ∧
        (addr + 1 < Config.flashBase → Memory.wf s.mem = true →
          readWord t.mem addr = (recordWords record).getD s.records.written 0#16)) ∧
  (∀ (s : State) (rest : List Requester), s.isHeld = false → s.path.busWait = [] →
    s.path.partQueue = .cashStore :: rest → s.cash.restore = none → .cashStore ∉ rest →
    (s.cash.phase = .queued → ∃ t, exec .partWordTurn s = .next t ∧
      t = { s with mem := t.mem, path := t.path
                   cash := { s.cash with phase := .writing, again := false, copyWords := cashFields s
                                         copyBase := s.setup.settings.bases.cash, written := 1 } } ∧
      t.path.partQueue = rest ++ [.cashStore] ∧
      sameOutside s.mem t.mem s.setup.settings.bases.cash 2 ∧
      (s.setup.settings.bases.cash + 1 < Config.flashBase → Memory.wf s.mem = true →
        readWord t.mem s.setup.settings.bases.cash = s.cash.sequence + 1#16)) ∧
    (s.cash.phase = .writing → 1 ≤ s.cash.written → s.cash.written ≤ 127 →
      let addr := s.cash.copyBase + 2 * s.cash.written
      ∃ t, exec .partWordTurn s = .next t ∧
        t = { s with mem := t.mem, path := t.path, cash := { s.cash with written := s.cash.written + 1 } } ∧
        t.path.partOwed = false ∧ t.path.partQueue = rest ++ [.cashStore] ∧ sameOutside s.mem t.mem addr 2 ∧
        (addr + 1 < Config.flashBase → Memory.wf s.mem = true →
          (s.cash.written ≤ 126 → readWord t.mem addr = s.cash.copyWords.getD (s.cash.written - 1) 0#16) ∧
          (s.cash.written = 127 →
            (readWord t.mem addr).toNat = (s.cash.copyWords.map BitVec.toNat).sum % 65536))) ∧
    (s.cash.phase = .writing → s.cash.written = 128 → ∃ t, exec .writeBackEnd s = .next t ∧
      t = { s with mem := t.mem, path := t.path
                   cash := { s.cash with sequence := s.cash.sequence + 2#16, again := false, written := 0
                                         phase := if s.cash.again then .queued else .idle } } ∧
      t.path.partOwed = false ∧
      t.path.partQueue = (if s.cash.again then rest ++ [.cashStore] else rest) ∧
      sameOutside s.mem t.mem s.cash.copyBase 2 ∧
      (s.cash.copyBase + 1 < Config.flashBase → Memory.wf s.mem = true →
        readWord t.mem s.cash.copyBase = s.cash.sequence + 2#16))) ∧
  ∀ (s : State) (rest : List Requester) (c : Command) (k : Nat), s.isHeld = false → s.path.busWait = [] →
    s.path.partQueue = .mailbox :: rest → .mailbox ∉ rest → s.mailbox.command = some c → c.step = .respond k →
    k < 7 →
    let addr := c.base + 2 * (7 + k)
    ∃ t, exec .partWordTurn s = .next t ∧
      t = { s with mem := t.mem, path := t.path, mailbox := ⟨some { c with step := .respond (k + 1) }⟩ } ∧
      t.path.partOwed = false ∧ t.path.partQueue = rest ++ [.mailbox] ∧ sameOutside s.mem t.mem addr 2 ∧
      (addr + 1 < Config.flashBase → Memory.wf s.mem = true →
        readWord t.mem addr = if k = 0 then c.code else c.data.getD (k - 1) 0#16)

/-- R152, R154, R155: a host write by the area it falls in. In no area, in TALLY, in TARIFF during a session and
in the other words of MAILBOX and RECORDS it passes; in LIVE and ALIAS it is dropped; in CASH, and in TARIFF
outside a session, it is a protected write, dropped with one MEMORY_WRITE occurrence. The area of an address is
the one that holds it. R153, R157: a host write of a whole special word acts as the special word's own command; a
byte write of its low lane acts on that byte, and one of its high lane passes to memory without acting. R169, R171: a
0 in MAILBOX word 0 passes and posts nothing; another value posts a command to a FREE mailbox, passing, and in TAKEN
is dropped with MAILBOX_REFUSED. The model's choices in it: a protected write is judged by its address alone (log
entry 31, DESIGN CHOICE), and an access is judged and acts as it is taken, before the part turn that it may have to
wait for (log entry 9, DEDUCED). -/
def Obligations.HostWritesByArea : Prop :=
  ((∀ (b : AreaBases) (addr : Nat) (k : AreaKind), layoutValid b = true →
    (b.areaAt addr = some k ↔ b.holds k addr = true)) ∧
  ∀ (addr : Nat) (size : AccessSize) (v : Word) (s : State), s.holdsHost = false →
    accessWellFormed addr size = true →
    let area := s.setup.settings.bases.areaAt addr
    let u := s.atHostTurn s
    let passes := area = none ∨ area = some .tally ∨
      (area = some .tariff ∧ s.tamper.sessionOpen = true) ∨
      (area = some .mailbox ∧ s.setup.settings.bases.offset .mailbox addr ≠ 0 ∧
        s.setup.settings.bases.offset .mailbox addr < 14) ∨
      (area = some .records ∧ s.setup.settings.bases.offset .records addr ≠ 1)
    exec (.protectedWrite addr size v) s = exec (.hostWrite addr size v) s ∧
    (passes → ∃ t, exec (.hostWrite addr size v) s = .next t ∧
      s.writesAt s t addr (match size with | .byte => 1 | .word => 2) ∧
      (size = .byte → addr < Config.flashBase → Memory.wf u.mem = true →
        readByte t.mem addr = BitVec.ofNat 8 v.toNat) ∧
      (size = .word → addr + 1 < Config.flashBase → Memory.wf u.mem = true → readWord t.mem addr = v)) ∧
    (area = some .live ∨ area = some .aliasWindow → exec (.hostWrite addr size v) s = .next s) ∧
    (area = some .cash ∨ (area = some .tariff ∧ s.tamper.sessionOpen = false) →
      ∃ t, exec (.hostWrite addr size v) s = .next t ∧ t.mem = s.mem ∧
        t.alarms = s.alarms.occur .memoryWrite
          (AlarmKind.memoryWrite.isIn s.setup.settings.reportEnables) s.calendar ∧
        EventFlag.alarm.isIn t.status.flags = true ∧ t.path.partOwed = s.path.partOwed ∧
        (∃ e ∈ t.path.tallies, e.tally = .writesRefused) ∧ t.coin = s.coin ∧
        t.cash.totals = s.cash.totals ∧ t.tamper = s.tamper ∧ t.setup = s.setup ∧ t.number = s.number)) ∧
  (∀ (addr : Nat) (v : Word) (s : State), s.holdsHost = false → addr < 0x100000 → addr % 2 = 0 →
    let b := s.setup.settings.bases
    (b.areaAt addr = some .mailbox → b.offset .mailbox addr = 14 →
      exec (.hostWrite addr .word v) s = exec (.dialPost .word v) s ∧
      exec (.hostWrite addr .byte v) s = exec (.dialPost .lowByte v) s) ∧
    (b.areaAt addr = some .mailbox → b.offset .mailbox addr = 15 →
      exec (.hostWrite addr .word v) s = exec (.eventClear .word v) s ∧
      exec (.hostWrite addr .byte v) s = exec (.eventClear .lowByte v) s) ∧
    (b.areaAt addr = some .records → b.offset .records addr = 1 →
      exec (.hostWrite addr .word v) s = exec (.consumerIndexWrite .word v) s ∧
      exec (.hostWrite addr .byte v) s = exec (.consumerIndexWrite .lowByte v) s) ∧
    ∀ k, (b.areaAt (addr + 1) = some .mailbox ∧ (k = 0 ∨ k = 14 ∨ k = 15) ∧
          b.offset .mailbox (addr + 1) = k) ∨
        (b.areaAt (addr + 1) = some .records ∧ k = 1 ∧ b.offset .records (addr + 1) = k) →
      ∃ t, exec (.hostWrite (addr + 1) .byte v) s = .next t ∧ s.writesAt s t (addr + 1) 1) ∧
  ∀ (addr : Nat) (size : AccessSize) (v : Word) (s : State), s.holdsHost = false → addr < 0x100000 →
    addr % 2 = 0 → s.setup.settings.bases.areaAt addr = some .mailbox →
    s.setup.settings.bases.offset .mailbox addr = 0 →
    let w := match size with | .word => v | .byte => v &&& 0xFF#16
    let a := s.specialAction .commandPost w
    let passes := ∃ t, exec (.hostWrite addr size v) s = .next t ∧ s.writesAt a t addr 2 ∧
      (addr + 1 < Config.flashBase → Memory.wf (s.atHostTurn a).mem = true → readWord t.mem addr = w)
    (w = 0#16 → passes ∧ a = s) ∧
    (w ≠ 0#16 → s.mailbox.command = none → passes ∧ a =
      { s with status := { s.status with flags := s.status.flags &&& ~~~ EventFlag.mailboxDone.only }
               mailbox := ⟨some ⟨w, s.setup.settings.bases.mailbox, [], .readArguments, 0#16, []⟩⟩
               path := { s.path with partQueue :=
                 if .mailbox ∈ s.path.partQueue then s.path.partQueue else s.path.partQueue ++ [.mailbox] } }) ∧
    (w ≠ 0#16 → s.mailbox.command ≠ none → exec (.hostWrite addr size v) s = .next
      { s with status := { s.status with flags := s.status.flags ||| EventFlag.mailboxRefused.only } })

/-- R157, R160, R166: the host's accesses with an effect of their own. An alias read returns the tally as it stood
and adds the step of its word, saturating to 0 to 65535; the taking of a response returns word 6 and leaves
MAILBOX_DONE clear, after a write of that word that goes first too (R162, R170); a write of the event clear word
clears the flags whose bits are 1, but for DIAL_LOW, and passes to memory. R148, R153, R154, R156, R164: a plain
read, a read of the high lane of MAILBOX word 6 among them, passes to memory, but that LIVE is served from the part,
as is CASH while a write-back is queued or in progress, at once and without a turn at the port; and during the hold
it is held. The model's choice in it (log entry 9, DEDUCED): a write acts as it is taken, and then waits for the
part turn it may owe. -/
def Obligations.HostAccessesWithAnEffect : Prop :=
  (∀ s : State, s.holdsHost = false →
    (∀ (offset : Fin 256) (lanes : Lanes),
      let u := s.atHostTurn s
      let addr := wordAddr s.setup.settings.bases.tally (offset.val / 8)
      let old := (readWord u.mem addr).toNat
      let step : Int := [-8, -4, -2, -1, 1, 2, 4, 8].getD (offset.val % 8) 0
      ∃ t, exec (.aliasRead offset lanes) s = .next t ∧
        t = { u with mem := t.mem, path := t.path } ∧ t.path.partOwed = true ∧
        t.path.partQueue = u.path.partQueue ∧ t.path.tallies = u.path.tallies ∧
        t.path.readData.toNat = (match lanes with | .word => old | .low => old % 256 | .high => old / 256) ∧
        sameOutside u.mem t.mem addr 2 ∧
        (addr + 1 < Config.flashBase → Memory.wf u.mem = true →
          ((old : Int) + step < 0 → readWord t.mem addr = 0#16) ∧
          (65535 < (old : Int) + step → readWord t.mem addr = 65535#16) ∧
          (0 ≤ (old : Int) + step → (old : Int) + step ≤ 65535 →
            ((readWord t.mem addr).toNat : Int) = old + step))) ∧
    (∀ access : SpecialAccess,
      let u := s.atHostTurn s
      let w := readWord u.mem (wordAddr s.setup.settings.bases.mailbox 6)
      exec (.takeResponse access) s = .next
        { u with status := { u.status with flags := u.status.flags &&& ~~~ EventFlag.mailboxDone.only }
                 path := { u.path with
                   partOwed := true
                   readData := match access with
                     | .word => w
                     | .lowByte => w &&& 0xFF#16 } }) ∧
    ∀ (access : SpecialAccess) (value : Word),
      let v := match access with | .word => value | .lowByte => value &&& 0xFF#16
      let addr := wordAddr s.setup.settings.bases.mailbox 15
      let a := s.clearFlags v
      a = { s with status := ⟨a.status.flags, s.status.mask⟩ } ∧
      (∀ f : EventFlag, f.isIn a.status.flags =
        (f.isIn s.status.flags && (f == .dialLow || !f.isIn v))) ∧
      ∃ t, exec (.eventClear access value) s = .next t ∧ s.writesAt a t addr 2 ∧
        (addr + 1 < Config.flashBase → Memory.wf (s.atHostTurn a).mem = true → readWord t.mem addr = v)) ∧
  ∀ (s : State) (addr : Nat) (lanes : Lanes),
    let area := s.setup.settings.bases.areaAt addr
    let u := s.atHostTurn s
    let lane := fun w : Word => match lanes with | .word => w | .low => w &&& 0xFF#16 | .high => w >>> 8
    let served := fun w : Word => s.hostRead addr lanes =
      some { s with path := { s.path with readData := lane w } }
    (s.holdsHost = true → s.hostRead addr lanes = none) ∧
    (s.holdsHost = false →
      (area = some .live → served (s.liveWord (s.setup.settings.bases.offset .live addr))) ∧
      (area = some .cash → s.cash.phase ≠ .idle →
        served (cashImageWord s (s.setup.settings.bases.offset .cash addr))) ∧
      (area = none ∨ area = some .tally ∨ area = some .tariff ∨ area = some .records ∨
          (area = some .mailbox ∧ (s.setup.settings.bases.offset .mailbox addr ≠ 6 ∨ lanes = .high)) ∨
          (area = some .cash ∧ s.cash.phase = .idle) →
        s.hostRead addr lanes = some
          { u with path := { u.path with partOwed := true, readData := lane (readWord u.mem addr) } }))

/-! ### The mailbox (chapter 10) and the reads of a start (chapter 11.4) -/

/-- R68, R119, R127, R169 to R177: a mailbox command posted to a FREE mailbox in SRAM whose port has no other
work. The arguments and then the code pass to the MAILBOX area, the code is taken and word 0 cleared (log entry
3), and the command is carried out by the rule for its code, with its result and data word 1 in the command in
hand. A command of any code that is posted while another is in hand, whatever other work waits for the port, is
refused with MAILBOX_REFUSED and has no further effect: its arguments alone have passed, each as a host write. -/
def Obligations.MailboxCommandsAct : Prop :=
  (∀ s : State, s.holdsHost = false → s.path.partQueue = [] → Memory.wf s.mem = true →
    s.setup.settings.bases.mailbox + 31 < Config.flashBase →
    let base := s.setup.settings.bases.mailbox
    let cleared := s.status.flags &&& ~~~ EventFlag.mailboxDone.only
    let answered := fun (t : State) (code result data : Word) =>
      ∃ args, t.mailbox.command = some ⟨code, base, args, .respond 0, result, [data]⟩
    let runs := fun (c : Instr) (p : State → Prop) =>
      ∃ t, exec c s = .next t ∧ sameOutside s.mem t.mem base 12 ∧ readWord t.mem base = 0#16 ∧ p t
    (s.mailbox.command = none →
      (∀ m, runs (.setMask m) fun t => answered t 1#16 1#16 s.status.mask ∧
        t.status = ⟨cleared, m⟩ ∧ t.coin = s.coin ∧ t.line = s.line ∧ t.number = s.number ∧
        readWord t.mem (base + 2) = m) ∧
      (∀ date weekday hour minute second, runs (.setClock date weekday hour minute second) fun t =>
        let month := date.toNat / 256
        let day := date.toNat % 256
        let good := 1 ≤ month ∧ month ≤ 12 ∧ 1 ≤ day ∧
          day ≤ (if month = 2 then 29 else monthLength month) ∧ 1 ≤ weekday.toNat ∧ weekday.toNat ≤ 7 ∧
          hour.toNat ≤ 23 ∧ minute.toNat ≤ 59 ∧ second.toNat ≤ 59
        (good → answered t 2#16 1#16 0#16 ∧
          t.clock = ⟨month, day, weekday.toNat, hour.toNat, minute.toNat, second.toNat, true, s.now + 1000⟩) ∧
        (¬ good → answered t 2#16 4#16 0#16 ∧ t.clock = s.clock) ∧
        t.status = ⟨cleared, s.status.mask⟩ ∧ t.coin = s.coin ∧ t.line = s.line) ∧
      runs .endCall (fun t =>
        (s.line.owner = some .customer → s.line.phase ≠ .idle → answered t 3#16 1#16 0#16 ∧
          t.line.phase = .guarded ∧ t.line.owner = none ∧ t.number.phase = .empty ∧
          t.line.guardTimer = (if s.line.phase = .guarded then s.line.guardTimer else some (s.now + 800)) ∧
          t.rating.context = none ∧ t.records = (s.offerRecord (s.customerRecord .hostEnd)).records ∧
          t.cash.openCall = none ∧
          EventFlag.call.isIn t.status.flags = true ∧ t.coin = s.coin) ∧
        (s.line.owner ≠ some .customer → answered t 3#16 3#16 0#16 ∧ t.line = s.line ∧
          t.number = s.number ∧ t.coin = s.coin ∧ t.status = ⟨cleared, s.status.mask⟩)) ∧
      runs .reportNow (fun t =>
        (s.report.phase = .idle ∨ s.report.phase = .retryWait ∨ s.report.phase = .held →
          answered t 4#16 1#16 (BitVec.ofNat 16 s.alarms.queue.length) ∧ t.report.phase = .waitLine ∧
          t.report.attempts = 0 ∧ t.report.runTime = some s.now ∧ t.report.retryTimer = none ∧
          t.report.holdTimer = none ∧ (s.alarms.queue = [] → t.report.statusMark = true) ∧
          (s.line.phase ≠ .idle → t.line = { s.line with reportRequest := some s.now })) ∧
        (s.report.phase ≠ .idle → s.report.phase ≠ .retryWait → s.report.phase ≠ .held →
          answered t 4#16 2#16 (BitVec.ofNat 16 s.alarms.queue.length) ∧ t.report = s.report ∧
          t.line = s.line) ∧
        t.alarms = s.alarms ∧ t.coin = s.coin) ∧
      (∀ w, runs (.clearAlarm w) fun t =>
        (w = 0#16 → answered t 5#16 1#16 (BitVec.ofNat 16 (AlarmKind.all.filter fun k =>
            (s.alarms.get k).phase == .reported || (s.alarms.get k).phase == .noted).length) ∧
          t.alarms = s.alarms.clearAll) ∧
        (∀ k : AlarmKind, w.toNat = k.code →
          ((s.alarms.get k).phase = .reported ∨ (s.alarms.get k).phase = .noted →
            answered t 5#16 1#16 1#16 ∧ t.alarms = s.alarms.put k ⟨.quiet, 0, 0, none, none⟩ ∧
            EventFlag.alarm.isIn t.status.flags = true) ∧
          ((s.alarms.get k).phase = .quiet → answered t 5#16 1#16 0#16 ∧ t.alarms = s.alarms) ∧
          ((s.alarms.get k).phase = .raised ∨ (s.alarms.get k).phase = .reporting →
            answered t 5#16 3#16 0#16 ∧ t.alarms = s.alarms)) ∧
        (12 < w.toNat → answered t 5#16 4#16 0#16 ∧ t.alarms = s.alarms) ∧
        t.coin = s.coin ∧ t.line = s.line) ∧
      runs .reloadSetup (fun t =>
        let may := s.line.phase = .idle ∧ s.hook.phase = .cleared ∧ s.coin.escrow = [] ∧
          s.coin.gate = none ∧ s.coin.banked = 0
        (may → t.setup = { s.setup with load := some ⟨.reload, []⟩ } ∧
          ∃ args, t.mailbox.command = some ⟨6#16, base, args, .waitReload, 0#16, []⟩) ∧
        (¬ may → answered t 6#16 2#16 0#16 ∧ t.setup = s.setup)) ∧
      runs .restartService (fun t => answered t 7#16 1#16 0#16 ∧ t.power = { s.power with cause := .restart } ∧
        t.coin.banked = 0 ∧ t.number.phase = .empty ∧ t.emitter = ⟨none, none, 0, none⟩ ∧
        t.coin.escrow = s.coin.escrow ∧ t.setup = s.setup ∧ t.clock = s.clock) ∧
      (∀ code, 8 ≤ code.toNat → runs (.unknownCommand code) fun t => answered t code 5#16 0#16 ∧
        t.status = ⟨cleared, s.status.mask⟩ ∧ t.coin = s.coin ∧ t.line = s.line ∧ t.alarms = s.alarms))) ∧
  ∀ (s : State) (c : Instr) (arguments : List Word), s.holdsHost = false →
    ((∃ m, c = .setMask m ∧ arguments = [m]) ∨
      (∃ date weekday hour minute second, c = .setClock date weekday hour minute second ∧
        arguments = [date, weekday, hour, minute, second]) ∨
      (∃ k, c = .clearAlarm k ∧ arguments = [k]) ∨
      (arguments = [] ∧ (c = .endCall ∨ c = .reportNow ∨ c = .reloadSetup ∨ c = .restartService ∨
        ∃ code, c = .unknownCommand code ∧ code ≠ 0#16))) →
    let u := s.writeArguments 1 arguments
    (arguments = [] → u = s) ∧
    (∀ a, arguments = [a] → s.writesAt s u (wordAddr s.setup.settings.bases.mailbox 1) 2) ∧
    (u.mailbox.command ≠ none → exec c s = .next
      { u with status := { u.status with flags := u.status.flags ||| EventFlag.mailboxRefused.only } })

/-- R170, R176, R183: the end of a reload's reading gives its result and, with a good block and the part still
at rest, the new settings; and the result word of a response, the last, frees the mailbox and sets MAILBOX_DONE.
-/
def Obligations.ReloadAndResponseEnd : Prop :=
  (∀ (s : State) (rest : List Requester) (ws : List Word) (c : Command), s.isHeld = false →
    s.path.busWait = [] → s.path.partQueue = .setupLoader :: rest → s.setup.load = some ⟨.reload, ws⟩ →
    ws.length = 255 → s.mailbox.command = some c →
    let block := ws ++ [readWord s.mem (Config.setupBase + 510)]
    let may := s.line.phase = .idle ∧ s.hook.phase = .cleared ∧ s.coin.escrow = [] ∧
      s.coin.gate = none ∧ s.coin.banked = 0
    let answered := fun (t : State) (result data : Word) =>
      t.mailbox.command = some { c with step := .respond 0, result := result, data := [data] }
    ∃ t, exec .reloadSetupReadEnd s = .next t ∧ t.mem = s.mem ∧ t.clock = s.clock ∧
      t.setup.load = none ∧ .mailbox ∈ t.path.partQueue ∧ t.path.partOwed = false ∧
      (¬ may → answered t 2#16 0#16 ∧ t.setup.settings = s.setup.settings ∧ t.cash = s.cash) ∧
      (may → setupChecks block = false →
        answered t 6#16 1#16 ∧ t.setup.settings = s.setup.settings ∧ t.cash = s.cash) ∧
      (may → setupChecks block = true → layoutValid (basesAt block) = false →
        answered t 6#16 2#16 ∧ t.setup.settings = s.setup.settings ∧ t.cash = s.cash) ∧
      (may → setupChecks block = true → layoutValid (basesAt block) = true →
        answered t 1#16 (BitVec.ofNat 16 (settingsOf block).count) ∧
        t.setup = ⟨(settingsOf block).value, .file, none⟩ ∧ t.coin.reasons.setupInvalid = false)) ∧
  ∀ (s : State) (rest : List Requester) (c : Command), s.isHeld = false → s.path.busWait = [] →
    s.path.partQueue = .mailbox :: rest → s.mailbox.command = some c → c.step = .respond 7 →
    ∃ t, exec .commandResponseWritten s = .next t ∧
      t = { s with mem := t.mem, path := t.path, mailbox := ⟨none⟩
                   status := { s.status with flags := s.status.flags ||| EventFlag.mailboxDone.only } } ∧
      t.path.partOwed = false ∧ (.mailbox ∉ rest → t.path.partQueue = rest) ∧
      sameOutside s.mem t.mem (c.base + 12) 2 ∧
      (c.base + 13 < Config.flashBase → Memory.wf s.mem = true → readWord t.mem (c.base + 12) = c.result)

/-- R97, R149, R178, R182, R185: the last word of each read of a start. The setup load gives the settings of a
good block, and else the built-in ones and SETUP_INVALID; the header read takes the indices of a good header,
and else an empty ring; the restore takes the cash image, after which banked credit is forfeited, no call stands
open, a report table with no REPORTING kind stands, and the first levels are awaited. The model's choices in it: the
first debounces of the lever, the hook and the tamper inputs run from the end of the restore (log entry 13, DEDUCED),
and an owed collection close is not tested inside the restore read, so that the totals are those of the image with the
forfeiture even where a close is owed and the purse is settled (log entry 25, DEDUCED). -/
def Obligations.StartReadsEnd : Prop :=
  (∀ (s : State) (rest : List Requester) (ws : List Word), s.isHeld = false → s.restored = false →
    s.path.partQueue = .setupLoader :: rest → s.setup.load = some ⟨.start, ws⟩ → ws.length = 255 →
    let block := ws ++ [readWord s.mem (Config.setupBase + 510)]
    let good := setupChecks block = true ∧ layoutValid (basesAt block) = true
    ∃ t, exec .setupLoadEnd s = .next t ∧ t.power.phase = .headerRead ∧ t.records.headerRead = some [] ∧
      t.records.base = t.setup.settings.bases.records ∧ .recordWriter ∈ t.path.partQueue ∧
      (good → t.setup = ⟨(settingsOf block).value, .file, none⟩ ∧
        t.status.mask = (settingsOf block).value.defaultMask ∧ t.coin = s.coin) ∧
      (¬ good → t.setup = ⟨builtInSettings, .builtIn, none⟩ ∧
        t.status.mask = builtInSettings.defaultMask ∧ t.coin.reasons.setupInvalid = true) ∧
      t.mem = s.mem ∧ t.clock = s.clock ∧ t.cash = s.cash) ∧
  (∀ (s : State) (rest : List Requester) (ws : List Word), s.isHeld = false → s.restored = false →
    s.path.partQueue = .recordWriter :: rest → s.records.headerRead = some ws → ws.length = 3 →
    let header := ws ++ [readWord s.mem (wordAddr s.records.base 3)]
    let valid := natAt header 3 = 32 ∧ natAt header 0 ≤ 31 ∧ natAt header 1 ≤ 31
    ∃ t, exec .ringHeaderReadEnd s = .next t ∧ t.power.phase = .restoreRead ∧ t.cash.restore = some [] ∧
      t.records.headerRead = none ∧ t.records.held = none ∧ t.records.flag = false ∧
      (valid → t.records.producer = natAt header 0 ∧ t.records.consumer = natAt header 1 ∧
        t.records.writeIndex = natAt header 0 ∧ t.records.jobs = [.flagZero]) ∧
      (¬ valid → t.records.producer = 0 ∧ t.records.consumer = 0 ∧ t.records.writeIndex = 0 ∧
        t.records.jobs = [.emptyHeader]) ∧
      t.mem = s.mem ∧ t.clock = s.clock ∧ t.setup = s.setup ∧ t.coin = s.coin) ∧
  ∀ (s : State) (rest : List Requester) (ws : List Word), s.isHeld = false → s.path.busWait = [] →
    s.power.phase = .restoreRead → s.path.partQueue = .cashStore :: rest → s.cash.restore = some ws →
    ws.length = 127 → s.coin.op = .idle → s.number.deposit = none →
    let image := ws ++ [readWord s.mem (wordAddr s.setup.settings.bases.cash 127)]
    let values := s.setup.settings.classValues
    let settle := some (s.now + s.setup.settings.hookDebounce)
    ∃ t, exec .restoreReadEnd s = .next t ∧ t.power = { s.power with phase := .inputWait } ∧
      (restoredEscrow values image ≠ [] → t.coin.escrow = restoredEscrow values image ∧
        t.coin.gate = restoredGate values image ∧ t.coin.op = .refunding) ∧
      (restoredEscrow values image = [] → t.coin.escrow = (restoredGate values image).toList ∧
        t.coin.gate = none ∧ (restoredGate values image ≠ none → t.coin.op = .refunding)) ∧
      t.coin.banked = 0 ∧ t.cash.totals = { totalsAt image 1 with
        forfeited := if restoredBanked values image = 0 then (totalsAt image 1).forfeited
          else addMoney (totalsAt image 1).forfeited (restoredBanked values image) } ∧
      t.cash.openCall = none ∧ t.cash.restore = none ∧ t.cash.sequence = restoredSequence image ∧
      (restoreChecks image = false →
        t.cash.suspect = true ∧ EventFlag.cash.isIn t.status.flags = true) ∧
      (∀ k, (t.alarms.get k).phase ≠ .reporting) ∧
      t.lever = { s.lever with timer := settle } ∧
      t.hook.debounce = { s.hook.debounce with timer := settle } ∧
      (∀ i, (t.tamper.get i).debounce.timer = some (s.now + s.setup.settings.tamperDebounce)) ∧
      t.mem = s.mem ∧ t.clock = s.clock ∧ t.setup = s.setup
end

