-- ==== Sys2Proof/Laws/Alarms.lean ====
section
/-! SUPPORT. The laws of the alarm table: reading an entry after a change, and every operation of chapter 6
keeps the table lawful (R113, R115). -/

namespace Sys2Proof.Machine

/-! ### Entries -/

@[simp] theorem AlarmState.get_put_same (a : AlarmState) (k : AlarmKind) (e : AlarmEntry) :
    (a.put k e).get k = e := by
  cases k <;> rfl

theorem AlarmState.get_put_other (a : AlarmState) {j k : AlarmKind} (e : AlarmEntry) (h : j ≠ k) :
    (a.put k e).get j = a.get j := by
  cases j <;> cases k <;> first | rfl | exact absurd rfl h

@[simp] theorem AlarmState.put_queue (a : AlarmState) (k : AlarmKind) (e : AlarmEntry) :
    (a.put k e).queue = a.queue := by
  cases k <;> rfl

@[simp] theorem AlarmState.requeue_get (a : AlarmState) (q : List AlarmKind) (k : AlarmKind) :
    (a.requeue q).get k = a.get k := by
  cases k <;> rfl

@[simp] theorem AlarmState.requeue_queue (a : AlarmState) (q : List AlarmKind) : (a.requeue q).queue = q := rfl

theorem AlarmKind.mem_all (k : AlarmKind) : k ∈ AlarmKind.all := by
  cases k <;> decide

theorem AlarmKind.all_nodup : AlarmKind.all.Nodup := by decide

/-- A change of one entry keeps the table lawful when the new entry is lawful, the new queue has no repeats,
holds the kind as its new state asks, and holds every other kind as before. -/
theorem AlarmState.lawful_change {a : AlarmState} (h : a.lawful) {k : AlarmKind} {e : AlarmEntry}
    {q : List AlarmKind} (he : e.lawful) (hn : q.Nodup) (hk : k ∈ q ↔ (e.phase = .raised ∨ e.phase = .reporting))
    (ho : ∀ j, j ≠ k → (j ∈ q ↔ j ∈ a.queue)) : ((a.put k e).requeue q).lawful := by
  obtain ⟨h1, -, h3⟩ := h
  refine ⟨fun j => ?_, hn, fun j => ?_⟩
  · by_cases hj : j = k
    · subst hj; simpa using he
    · simpa [AlarmState.get_put_other a e hj] using h1 j
  · by_cases hj : j = k
    · subst hj; simpa using hk
    · simp only [AlarmState.requeue_queue, AlarmState.requeue_get, AlarmState.get_put_other a e hj]
      rw [ho j hj, h3 j]

/-- A change of one entry that leaves the queue as it is. -/
theorem AlarmState.lawful_put {a : AlarmState} (h : a.lawful) {k : AlarmKind} {e : AlarmEntry} (he : e.lawful)
    (hk : k ∈ a.queue ↔ (e.phase = .raised ∨ e.phase = .reporting)) : (a.put k e).lawful := by
  have := AlarmState.lawful_change h (q := a.queue) he h.2.1 hk (fun _ _ => Iff.rfl)
  have hq : (a.put k e).requeue a.queue = a.put k e := by cases k <;> rfl
  rwa [hq] at this

/-! ### The operations -/

theorem AlarmState.occur_lawful {a : AlarmState} (h : a.lawful) (k : AlarmKind) (enabled : Bool) (t : CalTime) :
    (a.occur k enabled t).lawful := by
  have hk := h.1 k
  have hq := h.2.2 k
  simp only [AlarmState.occur]
  split
  · rename_i hout
    have hno : k ∉ a.queue := by
      rw [hq]; cases hp : (a.get k).phase <;> simp [AlarmPhase.outOfCycle, hp] at hout ⊢
    split
    · refine AlarmState.lawful_change h ?_ ?_ ?_ ?_
      · simp [AlarmEntry.lawful, cycleEntry]
      · exact List.nodup_append.2 ⟨h.2.1, by simp, by simp; rintro _ hx rfl; exact hno hx⟩
      · simp [cycleEntry]
      · intro j hj; simp [hj]
    · refine AlarmState.lawful_put h ?_ ?_
      · simp [AlarmEntry.lawful, cycleEntry]
      · simp [cycleEntry, hno]
  · rename_i hout
    refine AlarmState.lawful_put h ?_ hq
    simp only [AlarmEntry.lawful, AlarmEntry.again, saturate99, Config.alarmCountLimit] at hk ⊢
    cases hp : (a.get k).phase <;> simp [AlarmPhase.outOfCycle, hp] at hout hk ⊢ <;> omega

theorem AlarmState.carry_lawful {a : AlarmState} (h : a.lawful) {k : AlarmKind} (hk : k ∈ a.queue) :
    (a.carry k).lawful := by
  have he := h.1 k
  refine AlarmState.lawful_put h ?_ (by simp [hk])
  have hq := (h.2.2 k).1 hk
  simp only [AlarmEntry.lawful] at he ⊢
  rcases hq with hq | hq <;> simp [hq] at he ⊢ <;> omega

theorem AlarmState.carry_queue (a : AlarmState) (k : AlarmKind) : (a.carry k).queue = a.queue := by
  simp [AlarmState.carry]

theorem AlarmState.build_lawful {a : AlarmState} (h : a.lawful) : a.build.lawful := by
  have key : ∀ (l : List AlarmKind) (b : AlarmState), b.lawful → (∀ k ∈ l, k ∈ b.queue) →
      (l.foldl AlarmState.carry b).lawful := by
    intro l
    induction l with
    | nil => intro b hb _; exact hb
    | cons k l ih =>
      intro b hb hl
      refine ih _ (AlarmState.carry_lawful hb (hl k (by simp))) ?_
      intro j hj
      rw [AlarmState.carry_queue]
      exact hl j (by simp [hj])
  exact key _ _ h fun _ hk => hk

theorem AlarmState.settle_lawful {a : AlarmState} (h : a.lawful) (k : AlarmKind) : (a.settle k).lawful := by
  have he := h.1 k
  simp only [AlarmState.settle]
  split
  · rename_i hp
    have hf : (a.queue.filter fun j => j != k).Nodup := h.2.1.filter _
    have hnk : k ∉ a.queue.filter fun j => j != k := by simp
    split
    · refine AlarmState.lawful_change h ?_ hf ?_ ?_
      · simp [AlarmEntry.lawful]
      · simp
      · intro j hj; simp [hj]
    · rename_i hc
      refine AlarmState.lawful_change h ?_ ?_ ?_ ?_
      · simp only [AlarmEntry.lawful] at he ⊢
        simp [hp] at he ⊢
        omega
      · exact List.nodup_append.2 ⟨hf, by simp, by simp⟩
      · simp
      · intro j hj; simp [hj]
  · exact h

theorem AlarmState.foldl_lawful {f : AlarmState → AlarmKind → AlarmState} (hf : ∀ a k, a.lawful → (f a k).lawful)
    (l : List AlarmKind) {a : AlarmState} (h : a.lawful) : (l.foldl f a).lawful := by
  induction l generalizing a with
  | nil => exact h
  | cons k l ih => exact ih (hf a k h)

theorem AlarmState.acknowledge_lawful {a : AlarmState} (h : a.lawful) : a.acknowledge.lawful :=
  AlarmState.foldl_lawful (fun _ k h => AlarmState.settle_lawful h k) _ h

theorem AlarmState.unreport_lawful {a : AlarmState} (h : a.lawful) (k : AlarmKind) :
    (a.put k (a.get k).unreported).lawful := by
  have he := h.1 k
  have hq := h.2.2 k
  refine AlarmState.lawful_put h ?_ ?_
  · simp only [AlarmEntry.lawful, AlarmEntry.unreported] at he ⊢
    split <;> rename_i hp <;> simp [hp] at he ⊢ <;> omega
  · rw [hq]
    simp only [AlarmEntry.unreported]
    split <;> rename_i hp <;> simp [hp]

theorem AlarmState.fail_lawful {a : AlarmState} (h : a.lawful) : a.fail.lawful :=
  AlarmState.foldl_lawful (fun _ k h => AlarmState.unreport_lawful h k) _ h

theorem quietEntry_lawful : quietEntry.lawful := by simp [AlarmEntry.lawful, quietEntry]

theorem AlarmState.clear_lawful {a : AlarmState} (h : a.lawful) (k : AlarmKind) : (a.clear k).lawful := by
  have hq := h.2.2 k
  simp only [AlarmState.clear]
  split
  · rename_i hc
    refine AlarmState.lawful_put h quietEntry_lawful ?_
    rw [hq]
    cases hp : (a.get k).phase <;> simp [AlarmPhase.clearable, hp, quietEntry] at hc ⊢
  · exact h

theorem AlarmState.clearAll_lawful {a : AlarmState} (h : a.lawful) : a.clearAll.lawful :=
  AlarmState.foldl_lawful (fun _ k h => AlarmState.clear_lawful h k) _ h

theorem AlarmState.reenable_lawful (enables : KindSet) {a : AlarmState} (h : a.lawful) (k : AlarmKind) :
    (a.reenable enables k).lawful := by
  have he := h.1 k
  have hq := h.2.2 k
  simp only [AlarmState.reenable]
  split
  · rename_i hp
    split
    · exact h
    · refine AlarmState.lawful_change h ?_ (h.2.1.filter _) ?_ ?_
      · simp only [AlarmEntry.lawful] at he ⊢
        simp [hp] at he ⊢
        omega
      · simp
      · intro j hj; simp [hj]
  · rename_i hp
    split
    · have hno : k ∉ a.queue := by rw [hq]; simp [hp]
      refine AlarmState.lawful_change h ?_ ?_ ?_ ?_
      · simp only [AlarmEntry.lawful] at he ⊢
        simp [hp] at he ⊢
        omega
      · exact List.nodup_append.2 ⟨h.2.1, by simp, by simp; rintro _ hx rfl; exact hno hx⟩
      · simp
      · intro j hj; simp [hj]
    · exact h
  · exact h

theorem AlarmState.reload_lawful (enables : KindSet) {a : AlarmState} (h : a.lawful) :
    (a.reload enables).lawful :=
  AlarmState.foldl_lawful (fun _ k h => AlarmState.reenable_lawful enables h k) _ h

theorem alarmsAtStart_lawful : alarmsAtStart.lawful := by
  refine ⟨fun k => ?_, by simp [alarmsAtStart], fun k => ?_⟩
  · cases k <;> exact quietEntry_lawful
  · cases k <;> simp [alarmsAtStart, AlarmState.get, quietEntry]

/-! ### The rebuild at a start (R122) -/

/-- A table built entry by entry over the kinds of a list. -/
theorem AlarmState.get_foldl_put (e : AlarmKind → AlarmEntry) (l : List AlarmKind) (a : AlarmState)
    (k : AlarmKind) : (l.foldl (fun a j => a.put j (e j)) a).get k = if k ∈ l then e k else a.get k := by
  induction l generalizing a with
  | nil => simp
  | cons j l ih =>
    simp only [List.foldl_cons, ih, List.mem_cons]
    by_cases hl : k ∈ l
    · simp [hl]
    · by_cases hj : k = j
      · subst hj; simp [hl]
      · simp [hl, hj, AlarmState.get_put_other a (e j) hj]

theorem rebuiltEntry_lawful (ws : List Word) (k : AlarmKind) : (rebuiltEntry ws k).lawful := by
  simp only [rebuiltEntry]
  cases hp : (mirroredPhase ws k).rebuilt
  case quiet => exact quietEntry_lawful
  all_goals simp [AlarmEntry.lawful, rebuiltCount, Config.alarmCountLimit]

theorem rebuiltEntry_phase (ws : List Word) (k : AlarmKind) : (rebuiltEntry ws k).phase ≠ .reporting := by
  simp only [rebuiltEntry]
  cases hp : mirroredPhase ws k <;> simp [AlarmPhase.rebuilt, quietEntry]

/-- What `takeRaised` gives: no repeats, RAISED kinds only. -/
theorem takeRaised_spec (a : AlarmState) (cs : List Nat) (taken : List AlarmKind) (hn : taken.Nodup)
    (hr : ∀ k ∈ taken, (a.get k).phase = .raised) :
    (takeRaised a taken cs).Nodup ∧ ∀ k ∈ takeRaised a taken cs, (a.get k).phase = .raised := by
  induction cs generalizing taken with
  | nil => exact ⟨hn, hr⟩
  | cons c cs ih =>
    simp only [takeRaised]
    split
    · split
      · rename_i k _ hk
        refine ih _ (List.nodup_append.2 ⟨hn, by simp, by simp; rintro _ hx rfl; exact hk.2 hx⟩) ?_
        intro j hj
        rcases List.mem_append.1 hj with hj | hj
        · exact hr j hj
        · simp only [List.mem_singleton] at hj
          exact hj ▸ hk.1
      · exact ih _ hn hr
    · exact ih _ hn hr

theorem rebuiltAlarms_lawful (ws : List Word) : (rebuiltAlarms ws).lawful := by
  have hget : ∀ k, (AlarmKind.all.foldl (fun a k => a.put k (rebuiltEntry ws k)) alarmsAtStart).get k
      = rebuiltEntry ws k := fun k => by simp [AlarmState.get_foldl_put, AlarmKind.mem_all]
  unfold rebuiltAlarms
  generalize AlarmKind.all.foldl (fun a k => a.put k (rebuiltEntry ws k)) alarmsAtStart = table at hget ⊢
  obtain ⟨h1, h2⟩ := takeRaised_spec table (mirroredQueue ws) [] (by simp) (by simp)
  refine ⟨fun k => ?_, ?_, fun k => ?_⟩
  · simpa [hget] using rebuiltEntry_lawful ws k
  · simp only [AlarmState.requeue_queue]
    refine List.nodup_append.2 ⟨h1, AlarmKind.all_nodup.filter _, ?_⟩
    intro j hj j' hj' hjj
    subst hjj
    simp [hj] at hj'
  · have hne := rebuiltEntry_phase ws k
    rw [← hget k] at hne
    simp only [AlarmState.requeue_queue, AlarmState.requeue_get, List.mem_append, List.mem_filter,
      AlarmKind.mem_all, true_and, Bool.and_eq_true, beq_iff_eq, decide_eq_true_eq, hne, or_false]
    constructor
    · rintro (hk | hk)
      · exact h2 k hk
      · exact hk.1
    · intro hk
      by_cases hm : k ∈ takeRaised table [] (mirroredQueue ws)
      · exact .inl hm
      · exact .inr ⟨hk, hm⟩

end Sys2Proof.Machine
end

