-- ==== Sys2Proof/Laws/Blocks.lean ====
section
/-! SUPPORT. What the operations on one block's record leave as it was, one lemma for each operation. -/

namespace Sys2Proof.Machine

@[simp] theorem CashState.changed_frame (c : CashState) :
    c.changed.totals = c.totals ∧ c.changed.acceptedCounts = c.acceptedCounts ∧
    c.changed.vaultCoins = c.vaultCoins ∧ c.changed.vaultCounts = c.vaultCounts ∧
    c.changed.openCall = c.openCall ∧ c.changed.summary = c.summary ∧
    c.changed.lastCollection = c.lastCollection ∧ c.changed.closeOwed = c.closeOwed ∧
    c.changed.suspect = c.suspect ∧ c.changed.sequence = c.sequence ∧ c.changed.copyWords = c.copyWords ∧
    c.changed.copyBase = c.copyBase ∧ c.changed.written = c.written ∧ c.changed.restore = c.restore := by
  simp only [CashState.changed]
  (repeat' split) <;> simp

@[simp] theorem CashState.accept_frame (c : CashState) (coin : Coin) :
    (c.accept coin).vaultCoins = c.vaultCoins ∧ (c.accept coin).vaultCounts = c.vaultCounts ∧
    (c.accept coin).openCall = c.openCall ∧ (c.accept coin).summary = c.summary ∧
    (c.accept coin).lastCollection = c.lastCollection ∧ (c.accept coin).closeOwed = c.closeOwed ∧
    (c.accept coin).suspect = c.suspect ∧ (c.accept coin).sequence = c.sequence ∧
    (c.accept coin).phase = c.phase ∧ (c.accept coin).again = c.again ∧
    (c.accept coin).copyWords = c.copyWords ∧ (c.accept coin).copyBase = c.copyBase ∧
    (c.accept coin).written = c.written ∧ (c.accept coin).restore = c.restore := by
  simp [CashState.accept]

@[simp] theorem CashState.collect_frame (c : CashState) (items : List Coin) (k : Nat) :
    (c.collect items k).acceptedCounts = c.acceptedCounts ∧ (c.collect items k).openCall = c.openCall ∧
    (c.collect items k).summary = c.summary ∧ (c.collect items k).lastCollection = c.lastCollection ∧
    (c.collect items k).closeOwed = c.closeOwed ∧ (c.collect items k).suspect = c.suspect ∧
    (c.collect items k).sequence = c.sequence ∧ (c.collect items k).phase = c.phase ∧
    (c.collect items k).again = c.again ∧ (c.collect items k).copyWords = c.copyWords ∧
    (c.collect items k).copyBase = c.copyBase ∧ (c.collect items k).written = c.written ∧
    (c.collect items k).restore = c.restore := by
  simp [CashState.collect]

@[simp] theorem CashState.refund_frame (c : CashState) (items : List Coin) (k : Nat) :
    (c.refund items k).acceptedCounts = c.acceptedCounts ∧ (c.refund items k).vaultCoins = c.vaultCoins ∧
    (c.refund items k).vaultCounts = c.vaultCounts ∧ (c.refund items k).openCall = c.openCall ∧
    (c.refund items k).summary = c.summary ∧ (c.refund items k).lastCollection = c.lastCollection ∧
    (c.refund items k).closeOwed = c.closeOwed ∧ (c.refund items k).suspect = c.suspect ∧
    (c.refund items k).sequence = c.sequence ∧ (c.refund items k).phase = c.phase ∧
    (c.refund items k).again = c.again ∧ (c.refund items k).copyWords = c.copyWords ∧
    (c.refund items k).copyBase = c.copyBase ∧ (c.refund items k).written = c.written ∧
    (c.refund items k).restore = c.restore := by
  simp [CashState.refund]

@[simp] theorem CashState.close_frame (c : CashState) (t : CalTime) :
    (c.close t).openCall = c.openCall ∧ (c.close t).summary = c.summary ∧ (c.close t).suspect = c.suspect ∧
    (c.close t).sequence = c.sequence ∧ (c.close t).phase = c.phase ∧ (c.close t).again = c.again ∧
    (c.close t).copyWords = c.copyWords ∧ (c.close t).copyBase = c.copyBase ∧
    (c.close t).written = c.written ∧ (c.close t).restore = c.restore := by
  simp [CashState.close]

@[simp] theorem CoinState.place_frame (c : CoinState) (coin : Coin) :
    (c.place coin).banked = c.banked ∧ (c.place coin).op = c.op ∧ (c.place coin).opItems = c.opItems ∧
    (c.place coin).chuteCount = c.chuteCount ∧ (c.place coin).actuator = c.actuator ∧
    (c.place coin).flapTimer = c.flapTimer ∧ (c.place coin).settleTimer = c.settleTimer ∧
    (c.place coin).request = c.request ∧ (c.place coin).slug = c.slug ∧
    (c.place coin).leakTimer = c.leakTimer ∧ (c.place coin).cooloffTimer = c.cooloffTimer ∧
    (c.place coin).fillWarned = c.fillWarned ∧ (c.place coin).reasons = c.reasons := by
  simp only [CoinState.place]
  (repeat' split) <;> simp

@[simp] theorem CoinState.finish_frame (c : CoinState) (op : EscrowOp) (credited : Nat) :
    (c.finish op credited).gate = c.gate ∧ (c.finish op credited).request = c.request ∧
    (c.finish op credited).slug = c.slug ∧ (c.finish op credited).leakTimer = c.leakTimer ∧
    (c.finish op credited).cooloffTimer = c.cooloffTimer ∧
    (c.finish op credited).fillWarned = c.fillWarned ∧ (c.finish op credited).reasons = c.reasons := by
  simp [CoinState.finish]

@[simp] theorem LineState.guardFrom_frame (l : LineState) (now : Nat) :
    (l.guardFrom now).owner = l.owner ∧ (l.guardFrom now).attempt = l.attempt ∧
    (l.guardFrom now).toneFrom = l.toneFrom ∧ (l.guardFrom now).polarityAt = l.polarityAt ∧
    (l.guardFrom now).customerRequest = l.customerRequest ∧
    (l.guardFrom now).reportRequest = l.reportRequest ∧ (l.guardFrom now).seizeTime = l.seizeTime ∧
    (l.guardFrom now).answerTime = l.answerTime ∧ (l.guardFrom now).status = l.status ∧
    (l.guardFrom now).qualifyTimer = l.qualifyTimer := by
  simp [LineState.guardFrom]

@[simp] theorem LineState.disown_frame (l : LineState) :
    l.disown.phase = l.phase ∧ l.disown.guardTimer = l.guardTimer ∧
    l.disown.dialToneTimer = l.dialToneTimer ∧ l.disown.answerWaitTimer = l.answerWaitTimer ∧
    l.disown.timedAnswerTimer = l.timedAnswerTimer ∧ l.disown.clearTimer = l.clearTimer ∧
    l.disown.toneFrom = l.toneFrom ∧ l.disown.polarityAt = l.polarityAt ∧
    l.disown.customerRequest = l.customerRequest ∧ l.disown.reportRequest = l.reportRequest ∧
    l.disown.status = l.status ∧ l.disown.qualifyTimer = l.qualifyTimer := by
  simp [LineState.disown]

@[simp] theorem NumberState.blank_frame (n : NumberState) :
    n.blank.phase = n.phase ∧ n.blank.fifo = n.fifo ∧ n.blank.interDigitTimer = n.interDigitTimer ∧
    n.blank.keptExpiry = n.keptExpiry ∧ n.blank.depositTimer = n.depositTimer ∧
    n.blank.lowArmed = n.lowArmed ∧ n.blank.reads = n.reads := by
  simp [NumberState.blank]

@[simp] theorem NumberState.applyMatch_frame (n : NumberState) (ws : List Word) (digits : List Nat) (zone : Nat) :
    (n.applyMatch ws digits zone).phase = n.phase ∧ (n.applyMatch ws digits zone).cause = n.cause ∧
    (n.applyMatch ws digits zone).digits = n.digits ∧ (n.applyMatch ws digits zone).kind = n.kind ∧
    (n.applyMatch ws digits zone).deposit = n.deposit ∧ (n.applyMatch ws digits zone).emitted = n.emitted ∧
    (n.applyMatch ws digits zone).fifo = n.fifo ∧ (n.applyMatch ws digits zone).decided = n.decided ∧
    (n.applyMatch ws digits zone).interDigitTimer = n.interDigitTimer ∧
    (n.applyMatch ws digits zone).keptExpiry = n.keptExpiry ∧
    (n.applyMatch ws digits zone).depositTimer = n.depositTimer ∧
    (n.applyMatch ws digits zone).lowArmed = n.lowArmed ∧ (n.applyMatch ws digits zone).reads = n.reads := by
  simp only [NumberState.applyMatch]
  (repeat' split) <;> simp

@[simp] theorem RecordState.assign_frame (r : RecordState) (rec : CallRecord) :
    (r.assign rec).base = r.base ∧ (r.assign rec).producer = r.producer ∧
    (r.assign rec).consumer = r.consumer ∧ (r.assign rec).flag = r.flag ∧ (r.assign rec).held = r.held ∧
    (r.assign rec).written = r.written ∧ (r.assign rec).headerRead = r.headerRead ∧
    (r.assign rec).newBase = r.newBase ∧ (r.assign rec).headerOwed = r.headerOwed := by
  simp [RecordState.assign]

@[simp] theorem RecordState.hold_frame (r : RecordState) (rec : CallRecord) :
    (r.hold rec).base = r.base ∧ (r.hold rec).producer = r.producer ∧ (r.hold rec).consumer = r.consumer ∧
    (r.hold rec).writeIndex = r.writeIndex ∧ (r.hold rec).written = r.written ∧
    (r.hold rec).headerRead = r.headerRead ∧ (r.hold rec).newBase = r.newBase ∧
    (r.hold rec).headerOwed = r.headerOwed := by
  simp [RecordState.hold]

@[simp] theorem RecordState.leave_frame (r : RecordState) :
    r.leave.base = r.base ∧ r.leave.producer = r.producer ∧ r.leave.consumer = r.consumer ∧
    r.leave.flag = r.flag ∧ r.leave.written = r.written ∧ r.leave.headerRead = r.headerRead ∧
    r.leave.newBase = r.newBase ∧ r.leave.headerOwed = r.headerOwed := by
  simp only [RecordState.leave]
  (repeat' split) <;> simp [RecordState.assign]

@[simp] theorem RecordState.moveTo_frame (r : RecordState) (base : Nat) :
    (r.moveTo base).headerRead = r.headerRead := by
  simp only [RecordState.moveTo]
  (repeat' split) <;> simp [RecordState.assign]

@[simp] theorem RecordState.settleBase_frame (r : RecordState) :
    r.settleBase.headerRead = r.headerRead := by
  simp only [RecordState.settleBase, RecordState.moveTo]
  (repeat' split) <;> simp [RecordState.assign]

@[simp] theorem RecordState.fromHeader_frame (r : RecordState) (ws : List Word) :
    (r.fromHeader ws).base = r.base ∧ (r.fromHeader ws).newBase = r.newBase ∧
    (r.fromHeader ws).headerOwed = r.headerOwed := by
  simp only [RecordState.fromHeader]
  (repeat' split) <;> simp

@[simp] theorem RatingContext.addFlags_frame (c : RatingContext) (f : RatingFlags) :
    (c.addFlags f).kind = c.kind ∧ (c.addFlags f).snapshot = c.snapshot ∧ (c.addFlags f).phase = c.phase ∧
    (c.addFlags f).payment = c.payment ∧ (c.addFlags f).charge = c.charge ∧ (c.addFlags f).unit = c.unit ∧
    (c.addFlags f).lastPulse = c.lastPulse ∧ (c.addFlags f).unitTimer = c.unitTimer ∧
    (c.addFlags f).graceTimer = c.graceTimer ∧ (c.addFlags f).cutWaiting = c.cutWaiting ∧
    (c.addFlags f).units = c.units ∧ (c.addFlags f).total = c.total ∧ (c.addFlags f).coins = c.coins := by
  simp [RatingContext.addFlags]

@[simp] theorem RatingContext.paid_frame (c : RatingContext) (charge : Charge) (now : Nat) :
    (c.paid charge now).kind = c.kind ∧ (c.paid charge now).snapshot = c.snapshot ∧
    (c.paid charge now).phase = c.phase ∧ (c.paid charge now).lastPulse = c.lastPulse ∧
    (c.paid charge now).coins = c.coins := by
  simp [RatingContext.paid]

@[simp] theorem RatingContext.addUnit_frame (c : RatingContext) (charge : Nat) :
    (c.addUnit charge).kind = c.kind ∧ (c.addUnit charge).snapshot = c.snapshot ∧
    (c.addUnit charge).phase = c.phase ∧ (c.addUnit charge).payment = c.payment ∧
    (c.addUnit charge).unit = c.unit ∧ (c.addUnit charge).lastPulse = c.lastPulse ∧
    (c.addUnit charge).unitTimer = c.unitTimer ∧ (c.addUnit charge).graceTimer = c.graceTimer ∧
    (c.addUnit charge).cutWaiting = c.cutWaiting ∧ (c.addUnit charge).units = c.units ∧
    (c.addUnit charge).total = c.total ∧ (c.addUnit charge).coins = c.coins ∧
    (c.addUnit charge).status = c.status := by
  simp [RatingContext.addUnit]

@[simp] theorem AlarmState.requeue_frame (a : AlarmState) (q : List AlarmKind) :
    (a.requeue q).doorForced = a.doorForced ∧ (a.requeue q).housingOpen = a.housingOpen ∧
    (a.requeue q).vaultRemoved = a.vaultRemoved ∧ (a.requeue q).cordCut = a.cordCut ∧
    (a.requeue q).shock = a.shock ∧ (a.requeue q).returnBlocked = a.returnBlocked ∧
    (a.requeue q).coinJam = a.coinJam ∧ (a.requeue q).slugAttack = a.slugAttack ∧
    (a.requeue q).lineLost = a.lineLost ∧ (a.requeue q).memoryWrite = a.memoryWrite ∧
    (a.requeue q).ratingAnomaly = a.ratingAnomaly ∧ (a.requeue q).vaultFull = a.vaultFull := by
  simp [AlarmState.requeue]

end Sys2Proof.Machine
end

