-- ==== Sys2Proof/Laws/State.lean ====
section
/-! SUPPORT. What each named update of `State` leaves in each field: true by `rfl`, so that no later proof
unfolds a record update. -/

namespace Sys2Proof.Machine

variable (s : State)

@[simp] theorem State.updNow_now (f : Nat → Nat) : (s.updNow f).now = f s.now := rfl
@[simp] theorem State.updNow_mem (f : Nat → Nat) : (s.updNow f).mem = s.mem := rfl
@[simp] theorem State.updNow_pins (f : Nat → Nat) : (s.updNow f).pins = s.pins := rfl
@[simp] theorem State.updNow_power (f : Nat → Nat) : (s.updNow f).power = s.power := rfl
@[simp] theorem State.updNow_clock (f : Nat → Nat) : (s.updNow f).clock = s.clock := rfl
@[simp] theorem State.updNow_setup (f : Nat → Nat) : (s.updNow f).setup = s.setup := rfl
@[simp] theorem State.updNow_coin (f : Nat → Nat) : (s.updNow f).coin = s.coin := rfl
@[simp] theorem State.updNow_lever (f : Nat → Nat) : (s.updNow f).lever = s.lever := rfl
@[simp] theorem State.updNow_number (f : Nat → Nat) : (s.updNow f).number = s.number := rfl
@[simp] theorem State.updNow_emitter (f : Nat → Nat) : (s.updNow f).emitter = s.emitter := rfl
@[simp] theorem State.updNow_line (f : Nat → Nat) : (s.updNow f).line = s.line := rfl
@[simp] theorem State.updNow_hook (f : Nat → Nat) : (s.updNow f).hook = s.hook := rfl
@[simp] theorem State.updNow_rating (f : Nat → Nat) : (s.updNow f).rating = s.rating := rfl
@[simp] theorem State.updNow_records (f : Nat → Nat) : (s.updNow f).records = s.records := rfl
@[simp] theorem State.updNow_tamper (f : Nat → Nat) : (s.updNow f).tamper = s.tamper := rfl
@[simp] theorem State.updNow_alarms (f : Nat → Nat) : (s.updNow f).alarms = s.alarms := rfl
@[simp] theorem State.updNow_report (f : Nat → Nat) : (s.updNow f).report = s.report := rfl
@[simp] theorem State.updNow_cash (f : Nat → Nat) : (s.updNow f).cash = s.cash := rfl
@[simp] theorem State.updNow_path (f : Nat → Nat) : (s.updNow f).path = s.path := rfl
@[simp] theorem State.updNow_status (f : Nat → Nat) : (s.updNow f).status = s.status := rfl
@[simp] theorem State.updNow_mailbox (f : Nat → Nat) : (s.updNow f).mailbox = s.mailbox := rfl
@[simp] theorem State.updNow_pending (f : Nat → Nat) : (s.updNow f).pending = s.pending := rfl

@[simp] theorem State.updMem_now (f : Memory → Memory) : (s.updMem f).now = s.now := rfl
@[simp] theorem State.updMem_mem (f : Memory → Memory) : (s.updMem f).mem = f s.mem := rfl
@[simp] theorem State.updMem_pins (f : Memory → Memory) : (s.updMem f).pins = s.pins := rfl
@[simp] theorem State.updMem_power (f : Memory → Memory) : (s.updMem f).power = s.power := rfl
@[simp] theorem State.updMem_clock (f : Memory → Memory) : (s.updMem f).clock = s.clock := rfl
@[simp] theorem State.updMem_setup (f : Memory → Memory) : (s.updMem f).setup = s.setup := rfl
@[simp] theorem State.updMem_coin (f : Memory → Memory) : (s.updMem f).coin = s.coin := rfl
@[simp] theorem State.updMem_lever (f : Memory → Memory) : (s.updMem f).lever = s.lever := rfl
@[simp] theorem State.updMem_number (f : Memory → Memory) : (s.updMem f).number = s.number := rfl
@[simp] theorem State.updMem_emitter (f : Memory → Memory) : (s.updMem f).emitter = s.emitter := rfl
@[simp] theorem State.updMem_line (f : Memory → Memory) : (s.updMem f).line = s.line := rfl
@[simp] theorem State.updMem_hook (f : Memory → Memory) : (s.updMem f).hook = s.hook := rfl
@[simp] theorem State.updMem_rating (f : Memory → Memory) : (s.updMem f).rating = s.rating := rfl
@[simp] theorem State.updMem_records (f : Memory → Memory) : (s.updMem f).records = s.records := rfl
@[simp] theorem State.updMem_tamper (f : Memory → Memory) : (s.updMem f).tamper = s.tamper := rfl
@[simp] theorem State.updMem_alarms (f : Memory → Memory) : (s.updMem f).alarms = s.alarms := rfl
@[simp] theorem State.updMem_report (f : Memory → Memory) : (s.updMem f).report = s.report := rfl
@[simp] theorem State.updMem_cash (f : Memory → Memory) : (s.updMem f).cash = s.cash := rfl
@[simp] theorem State.updMem_path (f : Memory → Memory) : (s.updMem f).path = s.path := rfl
@[simp] theorem State.updMem_status (f : Memory → Memory) : (s.updMem f).status = s.status := rfl
@[simp] theorem State.updMem_mailbox (f : Memory → Memory) : (s.updMem f).mailbox = s.mailbox := rfl
@[simp] theorem State.updMem_pending (f : Memory → Memory) : (s.updMem f).pending = s.pending := rfl

@[simp] theorem State.updPins_now (f : Pins → Pins) : (s.updPins f).now = s.now := rfl
@[simp] theorem State.updPins_mem (f : Pins → Pins) : (s.updPins f).mem = s.mem := rfl
@[simp] theorem State.updPins_pins (f : Pins → Pins) : (s.updPins f).pins = f s.pins := rfl
@[simp] theorem State.updPins_power (f : Pins → Pins) : (s.updPins f).power = s.power := rfl
@[simp] theorem State.updPins_clock (f : Pins → Pins) : (s.updPins f).clock = s.clock := rfl
@[simp] theorem State.updPins_setup (f : Pins → Pins) : (s.updPins f).setup = s.setup := rfl
@[simp] theorem State.updPins_coin (f : Pins → Pins) : (s.updPins f).coin = s.coin := rfl
@[simp] theorem State.updPins_lever (f : Pins → Pins) : (s.updPins f).lever = s.lever := rfl
@[simp] theorem State.updPins_number (f : Pins → Pins) : (s.updPins f).number = s.number := rfl
@[simp] theorem State.updPins_emitter (f : Pins → Pins) : (s.updPins f).emitter = s.emitter := rfl
@[simp] theorem State.updPins_line (f : Pins → Pins) : (s.updPins f).line = s.line := rfl
@[simp] theorem State.updPins_hook (f : Pins → Pins) : (s.updPins f).hook = s.hook := rfl
@[simp] theorem State.updPins_rating (f : Pins → Pins) : (s.updPins f).rating = s.rating := rfl
@[simp] theorem State.updPins_records (f : Pins → Pins) : (s.updPins f).records = s.records := rfl
@[simp] theorem State.updPins_tamper (f : Pins → Pins) : (s.updPins f).tamper = s.tamper := rfl
@[simp] theorem State.updPins_alarms (f : Pins → Pins) : (s.updPins f).alarms = s.alarms := rfl
@[simp] theorem State.updPins_report (f : Pins → Pins) : (s.updPins f).report = s.report := rfl
@[simp] theorem State.updPins_cash (f : Pins → Pins) : (s.updPins f).cash = s.cash := rfl
@[simp] theorem State.updPins_path (f : Pins → Pins) : (s.updPins f).path = s.path := rfl
@[simp] theorem State.updPins_status (f : Pins → Pins) : (s.updPins f).status = s.status := rfl
@[simp] theorem State.updPins_mailbox (f : Pins → Pins) : (s.updPins f).mailbox = s.mailbox := rfl
@[simp] theorem State.updPins_pending (f : Pins → Pins) : (s.updPins f).pending = s.pending := rfl

@[simp] theorem State.updPower_now (f : PowerState → PowerState) : (s.updPower f).now = s.now := rfl
@[simp] theorem State.updPower_mem (f : PowerState → PowerState) : (s.updPower f).mem = s.mem := rfl
@[simp] theorem State.updPower_pins (f : PowerState → PowerState) : (s.updPower f).pins = s.pins := rfl
@[simp] theorem State.updPower_power (f : PowerState → PowerState) : (s.updPower f).power = f s.power := rfl
@[simp] theorem State.updPower_clock (f : PowerState → PowerState) : (s.updPower f).clock = s.clock := rfl
@[simp] theorem State.updPower_setup (f : PowerState → PowerState) : (s.updPower f).setup = s.setup := rfl
@[simp] theorem State.updPower_coin (f : PowerState → PowerState) : (s.updPower f).coin = s.coin := rfl
@[simp] theorem State.updPower_lever (f : PowerState → PowerState) : (s.updPower f).lever = s.lever := rfl
@[simp] theorem State.updPower_number (f : PowerState → PowerState) : (s.updPower f).number = s.number := rfl
@[simp] theorem State.updPower_emitter (f : PowerState → PowerState) : (s.updPower f).emitter = s.emitter := rfl
@[simp] theorem State.updPower_line (f : PowerState → PowerState) : (s.updPower f).line = s.line := rfl
@[simp] theorem State.updPower_hook (f : PowerState → PowerState) : (s.updPower f).hook = s.hook := rfl
@[simp] theorem State.updPower_rating (f : PowerState → PowerState) : (s.updPower f).rating = s.rating := rfl
@[simp] theorem State.updPower_records (f : PowerState → PowerState) : (s.updPower f).records = s.records := rfl
@[simp] theorem State.updPower_tamper (f : PowerState → PowerState) : (s.updPower f).tamper = s.tamper := rfl
@[simp] theorem State.updPower_alarms (f : PowerState → PowerState) : (s.updPower f).alarms = s.alarms := rfl
@[simp] theorem State.updPower_report (f : PowerState → PowerState) : (s.updPower f).report = s.report := rfl
@[simp] theorem State.updPower_cash (f : PowerState → PowerState) : (s.updPower f).cash = s.cash := rfl
@[simp] theorem State.updPower_path (f : PowerState → PowerState) : (s.updPower f).path = s.path := rfl
@[simp] theorem State.updPower_status (f : PowerState → PowerState) : (s.updPower f).status = s.status := rfl
@[simp] theorem State.updPower_mailbox (f : PowerState → PowerState) : (s.updPower f).mailbox = s.mailbox := rfl
@[simp] theorem State.updPower_pending (f : PowerState → PowerState) : (s.updPower f).pending = s.pending := rfl

@[simp] theorem State.updClock_now (f : Clock → Clock) : (s.updClock f).now = s.now := rfl
@[simp] theorem State.updClock_mem (f : Clock → Clock) : (s.updClock f).mem = s.mem := rfl
@[simp] theorem State.updClock_pins (f : Clock → Clock) : (s.updClock f).pins = s.pins := rfl
@[simp] theorem State.updClock_power (f : Clock → Clock) : (s.updClock f).power = s.power := rfl
@[simp] theorem State.updClock_clock (f : Clock → Clock) : (s.updClock f).clock = f s.clock := rfl
@[simp] theorem State.updClock_setup (f : Clock → Clock) : (s.updClock f).setup = s.setup := rfl
@[simp] theorem State.updClock_coin (f : Clock → Clock) : (s.updClock f).coin = s.coin := rfl
@[simp] theorem State.updClock_lever (f : Clock → Clock) : (s.updClock f).lever = s.lever := rfl
@[simp] theorem State.updClock_number (f : Clock → Clock) : (s.updClock f).number = s.number := rfl
@[simp] theorem State.updClock_emitter (f : Clock → Clock) : (s.updClock f).emitter = s.emitter := rfl
@[simp] theorem State.updClock_line (f : Clock → Clock) : (s.updClock f).line = s.line := rfl
@[simp] theorem State.updClock_hook (f : Clock → Clock) : (s.updClock f).hook = s.hook := rfl
@[simp] theorem State.updClock_rating (f : Clock → Clock) : (s.updClock f).rating = s.rating := rfl
@[simp] theorem State.updClock_records (f : Clock → Clock) : (s.updClock f).records = s.records := rfl
@[simp] theorem State.updClock_tamper (f : Clock → Clock) : (s.updClock f).tamper = s.tamper := rfl
@[simp] theorem State.updClock_alarms (f : Clock → Clock) : (s.updClock f).alarms = s.alarms := rfl
@[simp] theorem State.updClock_report (f : Clock → Clock) : (s.updClock f).report = s.report := rfl
@[simp] theorem State.updClock_cash (f : Clock → Clock) : (s.updClock f).cash = s.cash := rfl
@[simp] theorem State.updClock_path (f : Clock → Clock) : (s.updClock f).path = s.path := rfl
@[simp] theorem State.updClock_status (f : Clock → Clock) : (s.updClock f).status = s.status := rfl
@[simp] theorem State.updClock_mailbox (f : Clock → Clock) : (s.updClock f).mailbox = s.mailbox := rfl
@[simp] theorem State.updClock_pending (f : Clock → Clock) : (s.updClock f).pending = s.pending := rfl

@[simp] theorem State.updSetup_now (f : SetupState → SetupState) : (s.updSetup f).now = s.now := rfl
@[simp] theorem State.updSetup_mem (f : SetupState → SetupState) : (s.updSetup f).mem = s.mem := rfl
@[simp] theorem State.updSetup_pins (f : SetupState → SetupState) : (s.updSetup f).pins = s.pins := rfl
@[simp] theorem State.updSetup_power (f : SetupState → SetupState) : (s.updSetup f).power = s.power := rfl
@[simp] theorem State.updSetup_clock (f : SetupState → SetupState) : (s.updSetup f).clock = s.clock := rfl
@[simp] theorem State.updSetup_setup (f : SetupState → SetupState) : (s.updSetup f).setup = f s.setup := rfl
@[simp] theorem State.updSetup_coin (f : SetupState → SetupState) : (s.updSetup f).coin = s.coin := rfl
@[simp] theorem State.updSetup_lever (f : SetupState → SetupState) : (s.updSetup f).lever = s.lever := rfl
@[simp] theorem State.updSetup_number (f : SetupState → SetupState) : (s.updSetup f).number = s.number := rfl
@[simp] theorem State.updSetup_emitter (f : SetupState → SetupState) : (s.updSetup f).emitter = s.emitter := rfl
@[simp] theorem State.updSetup_line (f : SetupState → SetupState) : (s.updSetup f).line = s.line := rfl
@[simp] theorem State.updSetup_hook (f : SetupState → SetupState) : (s.updSetup f).hook = s.hook := rfl
@[simp] theorem State.updSetup_rating (f : SetupState → SetupState) : (s.updSetup f).rating = s.rating := rfl
@[simp] theorem State.updSetup_records (f : SetupState → SetupState) : (s.updSetup f).records = s.records := rfl
@[simp] theorem State.updSetup_tamper (f : SetupState → SetupState) : (s.updSetup f).tamper = s.tamper := rfl
@[simp] theorem State.updSetup_alarms (f : SetupState → SetupState) : (s.updSetup f).alarms = s.alarms := rfl
@[simp] theorem State.updSetup_report (f : SetupState → SetupState) : (s.updSetup f).report = s.report := rfl
@[simp] theorem State.updSetup_cash (f : SetupState → SetupState) : (s.updSetup f).cash = s.cash := rfl
@[simp] theorem State.updSetup_path (f : SetupState → SetupState) : (s.updSetup f).path = s.path := rfl
@[simp] theorem State.updSetup_status (f : SetupState → SetupState) : (s.updSetup f).status = s.status := rfl
@[simp] theorem State.updSetup_mailbox (f : SetupState → SetupState) : (s.updSetup f).mailbox = s.mailbox := rfl
@[simp] theorem State.updSetup_pending (f : SetupState → SetupState) : (s.updSetup f).pending = s.pending := rfl

@[simp] theorem State.updCoin_now (f : CoinState → CoinState) : (s.updCoin f).now = s.now := rfl
@[simp] theorem State.updCoin_mem (f : CoinState → CoinState) : (s.updCoin f).mem = s.mem := rfl
@[simp] theorem State.updCoin_pins (f : CoinState → CoinState) : (s.updCoin f).pins = s.pins := rfl
@[simp] theorem State.updCoin_power (f : CoinState → CoinState) : (s.updCoin f).power = s.power := rfl
@[simp] theorem State.updCoin_clock (f : CoinState → CoinState) : (s.updCoin f).clock = s.clock := rfl
@[simp] theorem State.updCoin_setup (f : CoinState → CoinState) : (s.updCoin f).setup = s.setup := rfl
@[simp] theorem State.updCoin_coin (f : CoinState → CoinState) : (s.updCoin f).coin = f s.coin := rfl
@[simp] theorem State.updCoin_lever (f : CoinState → CoinState) : (s.updCoin f).lever = s.lever := rfl
@[simp] theorem State.updCoin_number (f : CoinState → CoinState) : (s.updCoin f).number = s.number := rfl
@[simp] theorem State.updCoin_emitter (f : CoinState → CoinState) : (s.updCoin f).emitter = s.emitter := rfl
@[simp] theorem State.updCoin_line (f : CoinState → CoinState) : (s.updCoin f).line = s.line := rfl
@[simp] theorem State.updCoin_hook (f : CoinState → CoinState) : (s.updCoin f).hook = s.hook := rfl
@[simp] theorem State.updCoin_rating (f : CoinState → CoinState) : (s.updCoin f).rating = s.rating := rfl
@[simp] theorem State.updCoin_records (f : CoinState → CoinState) : (s.updCoin f).records = s.records := rfl
@[simp] theorem State.updCoin_tamper (f : CoinState → CoinState) : (s.updCoin f).tamper = s.tamper := rfl
@[simp] theorem State.updCoin_alarms (f : CoinState → CoinState) : (s.updCoin f).alarms = s.alarms := rfl
@[simp] theorem State.updCoin_report (f : CoinState → CoinState) : (s.updCoin f).report = s.report := rfl
@[simp] theorem State.updCoin_cash (f : CoinState → CoinState) : (s.updCoin f).cash = s.cash := rfl
@[simp] theorem State.updCoin_path (f : CoinState → CoinState) : (s.updCoin f).path = s.path := rfl
@[simp] theorem State.updCoin_status (f : CoinState → CoinState) : (s.updCoin f).status = s.status := rfl
@[simp] theorem State.updCoin_mailbox (f : CoinState → CoinState) : (s.updCoin f).mailbox = s.mailbox := rfl
@[simp] theorem State.updCoin_pending (f : CoinState → CoinState) : (s.updCoin f).pending = s.pending := rfl

@[simp] theorem State.updLever_now (f : Debounce → Debounce) : (s.updLever f).now = s.now := rfl
@[simp] theorem State.updLever_mem (f : Debounce → Debounce) : (s.updLever f).mem = s.mem := rfl
@[simp] theorem State.updLever_pins (f : Debounce → Debounce) : (s.updLever f).pins = s.pins := rfl
@[simp] theorem State.updLever_power (f : Debounce → Debounce) : (s.updLever f).power = s.power := rfl
@[simp] theorem State.updLever_clock (f : Debounce → Debounce) : (s.updLever f).clock = s.clock := rfl
@[simp] theorem State.updLever_setup (f : Debounce → Debounce) : (s.updLever f).setup = s.setup := rfl
@[simp] theorem State.updLever_coin (f : Debounce → Debounce) : (s.updLever f).coin = s.coin := rfl
@[simp] theorem State.updLever_lever (f : Debounce → Debounce) : (s.updLever f).lever = f s.lever := rfl
@[simp] theorem State.updLever_number (f : Debounce → Debounce) : (s.updLever f).number = s.number := rfl
@[simp] theorem State.updLever_emitter (f : Debounce → Debounce) : (s.updLever f).emitter = s.emitter := rfl
@[simp] theorem State.updLever_line (f : Debounce → Debounce) : (s.updLever f).line = s.line := rfl
@[simp] theorem State.updLever_hook (f : Debounce → Debounce) : (s.updLever f).hook = s.hook := rfl
@[simp] theorem State.updLever_rating (f : Debounce → Debounce) : (s.updLever f).rating = s.rating := rfl
@[simp] theorem State.updLever_records (f : Debounce → Debounce) : (s.updLever f).records = s.records := rfl
@[simp] theorem State.updLever_tamper (f : Debounce → Debounce) : (s.updLever f).tamper = s.tamper := rfl
@[simp] theorem State.updLever_alarms (f : Debounce → Debounce) : (s.updLever f).alarms = s.alarms := rfl
@[simp] theorem State.updLever_report (f : Debounce → Debounce) : (s.updLever f).report = s.report := rfl
@[simp] theorem State.updLever_cash (f : Debounce → Debounce) : (s.updLever f).cash = s.cash := rfl
@[simp] theorem State.updLever_path (f : Debounce → Debounce) : (s.updLever f).path = s.path := rfl
@[simp] theorem State.updLever_status (f : Debounce → Debounce) : (s.updLever f).status = s.status := rfl
@[simp] theorem State.updLever_mailbox (f : Debounce → Debounce) : (s.updLever f).mailbox = s.mailbox := rfl
@[simp] theorem State.updLever_pending (f : Debounce → Debounce) : (s.updLever f).pending = s.pending := rfl

@[simp] theorem State.updNumber_now (f : NumberState → NumberState) : (s.updNumber f).now = s.now := rfl
@[simp] theorem State.updNumber_mem (f : NumberState → NumberState) : (s.updNumber f).mem = s.mem := rfl
@[simp] theorem State.updNumber_pins (f : NumberState → NumberState) : (s.updNumber f).pins = s.pins := rfl
@[simp] theorem State.updNumber_power (f : NumberState → NumberState) : (s.updNumber f).power = s.power := rfl
@[simp] theorem State.updNumber_clock (f : NumberState → NumberState) : (s.updNumber f).clock = s.clock := rfl
@[simp] theorem State.updNumber_setup (f : NumberState → NumberState) : (s.updNumber f).setup = s.setup := rfl
@[simp] theorem State.updNumber_coin (f : NumberState → NumberState) : (s.updNumber f).coin = s.coin := rfl
@[simp] theorem State.updNumber_lever (f : NumberState → NumberState) : (s.updNumber f).lever = s.lever := rfl
@[simp] theorem State.updNumber_number (f : NumberState → NumberState) : (s.updNumber f).number = f s.number := rfl
@[simp] theorem State.updNumber_emitter (f : NumberState → NumberState) : (s.updNumber f).emitter = s.emitter := rfl
@[simp] theorem State.updNumber_line (f : NumberState → NumberState) : (s.updNumber f).line = s.line := rfl
@[simp] theorem State.updNumber_hook (f : NumberState → NumberState) : (s.updNumber f).hook = s.hook := rfl
@[simp] theorem State.updNumber_rating (f : NumberState → NumberState) : (s.updNumber f).rating = s.rating := rfl
@[simp] theorem State.updNumber_records (f : NumberState → NumberState) : (s.updNumber f).records = s.records := rfl
@[simp] theorem State.updNumber_tamper (f : NumberState → NumberState) : (s.updNumber f).tamper = s.tamper := rfl
@[simp] theorem State.updNumber_alarms (f : NumberState → NumberState) : (s.updNumber f).alarms = s.alarms := rfl
@[simp] theorem State.updNumber_report (f : NumberState → NumberState) : (s.updNumber f).report = s.report := rfl
@[simp] theorem State.updNumber_cash (f : NumberState → NumberState) : (s.updNumber f).cash = s.cash := rfl
@[simp] theorem State.updNumber_path (f : NumberState → NumberState) : (s.updNumber f).path = s.path := rfl
@[simp] theorem State.updNumber_status (f : NumberState → NumberState) : (s.updNumber f).status = s.status := rfl
@[simp] theorem State.updNumber_mailbox (f : NumberState → NumberState) : (s.updNumber f).mailbox = s.mailbox := rfl
@[simp] theorem State.updNumber_pending (f : NumberState → NumberState) : (s.updNumber f).pending = s.pending := rfl

@[simp] theorem State.updEmitter_now (f : EmitterState → EmitterState) : (s.updEmitter f).now = s.now := rfl
@[simp] theorem State.updEmitter_mem (f : EmitterState → EmitterState) : (s.updEmitter f).mem = s.mem := rfl
@[simp] theorem State.updEmitter_pins (f : EmitterState → EmitterState) : (s.updEmitter f).pins = s.pins := rfl
@[simp] theorem State.updEmitter_power (f : EmitterState → EmitterState) : (s.updEmitter f).power = s.power := rfl
@[simp] theorem State.updEmitter_clock (f : EmitterState → EmitterState) : (s.updEmitter f).clock = s.clock := rfl
@[simp] theorem State.updEmitter_setup (f : EmitterState → EmitterState) : (s.updEmitter f).setup = s.setup := rfl
@[simp] theorem State.updEmitter_coin (f : EmitterState → EmitterState) : (s.updEmitter f).coin = s.coin := rfl
@[simp] theorem State.updEmitter_lever (f : EmitterState → EmitterState) : (s.updEmitter f).lever = s.lever := rfl
@[simp] theorem State.updEmitter_number (f : EmitterState → EmitterState) : (s.updEmitter f).number = s.number := rfl
@[simp] theorem State.updEmitter_emitter (f : EmitterState → EmitterState) : (s.updEmitter f).emitter = f s.emitter := rfl
@[simp] theorem State.updEmitter_line (f : EmitterState → EmitterState) : (s.updEmitter f).line = s.line := rfl
@[simp] theorem State.updEmitter_hook (f : EmitterState → EmitterState) : (s.updEmitter f).hook = s.hook := rfl
@[simp] theorem State.updEmitter_rating (f : EmitterState → EmitterState) : (s.updEmitter f).rating = s.rating := rfl
@[simp] theorem State.updEmitter_records (f : EmitterState → EmitterState) : (s.updEmitter f).records = s.records := rfl
@[simp] theorem State.updEmitter_tamper (f : EmitterState → EmitterState) : (s.updEmitter f).tamper = s.tamper := rfl
@[simp] theorem State.updEmitter_alarms (f : EmitterState → EmitterState) : (s.updEmitter f).alarms = s.alarms := rfl
@[simp] theorem State.updEmitter_report (f : EmitterState → EmitterState) : (s.updEmitter f).report = s.report := rfl
@[simp] theorem State.updEmitter_cash (f : EmitterState → EmitterState) : (s.updEmitter f).cash = s.cash := rfl
@[simp] theorem State.updEmitter_path (f : EmitterState → EmitterState) : (s.updEmitter f).path = s.path := rfl
@[simp] theorem State.updEmitter_status (f : EmitterState → EmitterState) : (s.updEmitter f).status = s.status := rfl
@[simp] theorem State.updEmitter_mailbox (f : EmitterState → EmitterState) : (s.updEmitter f).mailbox = s.mailbox := rfl
@[simp] theorem State.updEmitter_pending (f : EmitterState → EmitterState) : (s.updEmitter f).pending = s.pending := rfl

@[simp] theorem State.updLine_now (f : LineState → LineState) : (s.updLine f).now = s.now := rfl
@[simp] theorem State.updLine_mem (f : LineState → LineState) : (s.updLine f).mem = s.mem := rfl
@[simp] theorem State.updLine_pins (f : LineState → LineState) : (s.updLine f).pins = s.pins := rfl
@[simp] theorem State.updLine_power (f : LineState → LineState) : (s.updLine f).power = s.power := rfl
@[simp] theorem State.updLine_clock (f : LineState → LineState) : (s.updLine f).clock = s.clock := rfl
@[simp] theorem State.updLine_setup (f : LineState → LineState) : (s.updLine f).setup = s.setup := rfl
@[simp] theorem State.updLine_coin (f : LineState → LineState) : (s.updLine f).coin = s.coin := rfl
@[simp] theorem State.updLine_lever (f : LineState → LineState) : (s.updLine f).lever = s.lever := rfl
@[simp] theorem State.updLine_number (f : LineState → LineState) : (s.updLine f).number = s.number := rfl
@[simp] theorem State.updLine_emitter (f : LineState → LineState) : (s.updLine f).emitter = s.emitter := rfl
@[simp] theorem State.updLine_line (f : LineState → LineState) : (s.updLine f).line = f s.line := rfl
@[simp] theorem State.updLine_hook (f : LineState → LineState) : (s.updLine f).hook = s.hook := rfl
@[simp] theorem State.updLine_rating (f : LineState → LineState) : (s.updLine f).rating = s.rating := rfl
@[simp] theorem State.updLine_records (f : LineState → LineState) : (s.updLine f).records = s.records := rfl
@[simp] theorem State.updLine_tamper (f : LineState → LineState) : (s.updLine f).tamper = s.tamper := rfl
@[simp] theorem State.updLine_alarms (f : LineState → LineState) : (s.updLine f).alarms = s.alarms := rfl
@[simp] theorem State.updLine_report (f : LineState → LineState) : (s.updLine f).report = s.report := rfl
@[simp] theorem State.updLine_cash (f : LineState → LineState) : (s.updLine f).cash = s.cash := rfl
@[simp] theorem State.updLine_path (f : LineState → LineState) : (s.updLine f).path = s.path := rfl
@[simp] theorem State.updLine_status (f : LineState → LineState) : (s.updLine f).status = s.status := rfl
@[simp] theorem State.updLine_mailbox (f : LineState → LineState) : (s.updLine f).mailbox = s.mailbox := rfl
@[simp] theorem State.updLine_pending (f : LineState → LineState) : (s.updLine f).pending = s.pending := rfl

@[simp] theorem State.updHook_now (f : HookState → HookState) : (s.updHook f).now = s.now := rfl
@[simp] theorem State.updHook_mem (f : HookState → HookState) : (s.updHook f).mem = s.mem := rfl
@[simp] theorem State.updHook_pins (f : HookState → HookState) : (s.updHook f).pins = s.pins := rfl
@[simp] theorem State.updHook_power (f : HookState → HookState) : (s.updHook f).power = s.power := rfl
@[simp] theorem State.updHook_clock (f : HookState → HookState) : (s.updHook f).clock = s.clock := rfl
@[simp] theorem State.updHook_setup (f : HookState → HookState) : (s.updHook f).setup = s.setup := rfl
@[simp] theorem State.updHook_coin (f : HookState → HookState) : (s.updHook f).coin = s.coin := rfl
@[simp] theorem State.updHook_lever (f : HookState → HookState) : (s.updHook f).lever = s.lever := rfl
@[simp] theorem State.updHook_number (f : HookState → HookState) : (s.updHook f).number = s.number := rfl
@[simp] theorem State.updHook_emitter (f : HookState → HookState) : (s.updHook f).emitter = s.emitter := rfl
@[simp] theorem State.updHook_line (f : HookState → HookState) : (s.updHook f).line = s.line := rfl
@[simp] theorem State.updHook_hook (f : HookState → HookState) : (s.updHook f).hook = f s.hook := rfl
@[simp] theorem State.updHook_rating (f : HookState → HookState) : (s.updHook f).rating = s.rating := rfl
@[simp] theorem State.updHook_records (f : HookState → HookState) : (s.updHook f).records = s.records := rfl
@[simp] theorem State.updHook_tamper (f : HookState → HookState) : (s.updHook f).tamper = s.tamper := rfl
@[simp] theorem State.updHook_alarms (f : HookState → HookState) : (s.updHook f).alarms = s.alarms := rfl
@[simp] theorem State.updHook_report (f : HookState → HookState) : (s.updHook f).report = s.report := rfl
@[simp] theorem State.updHook_cash (f : HookState → HookState) : (s.updHook f).cash = s.cash := rfl
@[simp] theorem State.updHook_path (f : HookState → HookState) : (s.updHook f).path = s.path := rfl
@[simp] theorem State.updHook_status (f : HookState → HookState) : (s.updHook f).status = s.status := rfl
@[simp] theorem State.updHook_mailbox (f : HookState → HookState) : (s.updHook f).mailbox = s.mailbox := rfl
@[simp] theorem State.updHook_pending (f : HookState → HookState) : (s.updHook f).pending = s.pending := rfl

@[simp] theorem State.updRating_now (f : RatingState → RatingState) : (s.updRating f).now = s.now := rfl
@[simp] theorem State.updRating_mem (f : RatingState → RatingState) : (s.updRating f).mem = s.mem := rfl
@[simp] theorem State.updRating_pins (f : RatingState → RatingState) : (s.updRating f).pins = s.pins := rfl
@[simp] theorem State.updRating_power (f : RatingState → RatingState) : (s.updRating f).power = s.power := rfl
@[simp] theorem State.updRating_clock (f : RatingState → RatingState) : (s.updRating f).clock = s.clock := rfl
@[simp] theorem State.updRating_setup (f : RatingState → RatingState) : (s.updRating f).setup = s.setup := rfl
@[simp] theorem State.updRating_coin (f : RatingState → RatingState) : (s.updRating f).coin = s.coin := rfl
@[simp] theorem State.updRating_lever (f : RatingState → RatingState) : (s.updRating f).lever = s.lever := rfl
@[simp] theorem State.updRating_number (f : RatingState → RatingState) : (s.updRating f).number = s.number := rfl
@[simp] theorem State.updRating_emitter (f : RatingState → RatingState) : (s.updRating f).emitter = s.emitter := rfl
@[simp] theorem State.updRating_line (f : RatingState → RatingState) : (s.updRating f).line = s.line := rfl
@[simp] theorem State.updRating_hook (f : RatingState → RatingState) : (s.updRating f).hook = s.hook := rfl
@[simp] theorem State.updRating_rating (f : RatingState → RatingState) : (s.updRating f).rating = f s.rating := rfl
@[simp] theorem State.updRating_records (f : RatingState → RatingState) : (s.updRating f).records = s.records := rfl
@[simp] theorem State.updRating_tamper (f : RatingState → RatingState) : (s.updRating f).tamper = s.tamper := rfl
@[simp] theorem State.updRating_alarms (f : RatingState → RatingState) : (s.updRating f).alarms = s.alarms := rfl
@[simp] theorem State.updRating_report (f : RatingState → RatingState) : (s.updRating f).report = s.report := rfl
@[simp] theorem State.updRating_cash (f : RatingState → RatingState) : (s.updRating f).cash = s.cash := rfl
@[simp] theorem State.updRating_path (f : RatingState → RatingState) : (s.updRating f).path = s.path := rfl
@[simp] theorem State.updRating_status (f : RatingState → RatingState) : (s.updRating f).status = s.status := rfl
@[simp] theorem State.updRating_mailbox (f : RatingState → RatingState) : (s.updRating f).mailbox = s.mailbox := rfl
@[simp] theorem State.updRating_pending (f : RatingState → RatingState) : (s.updRating f).pending = s.pending := rfl

@[simp] theorem State.updRecords_now (f : RecordState → RecordState) : (s.updRecords f).now = s.now := rfl
@[simp] theorem State.updRecords_mem (f : RecordState → RecordState) : (s.updRecords f).mem = s.mem := rfl
@[simp] theorem State.updRecords_pins (f : RecordState → RecordState) : (s.updRecords f).pins = s.pins := rfl
@[simp] theorem State.updRecords_power (f : RecordState → RecordState) : (s.updRecords f).power = s.power := rfl
@[simp] theorem State.updRecords_clock (f : RecordState → RecordState) : (s.updRecords f).clock = s.clock := rfl
@[simp] theorem State.updRecords_setup (f : RecordState → RecordState) : (s.updRecords f).setup = s.setup := rfl
@[simp] theorem State.updRecords_coin (f : RecordState → RecordState) : (s.updRecords f).coin = s.coin := rfl
@[simp] theorem State.updRecords_lever (f : RecordState → RecordState) : (s.updRecords f).lever = s.lever := rfl
@[simp] theorem State.updRecords_number (f : RecordState → RecordState) : (s.updRecords f).number = s.number := rfl
@[simp] theorem State.updRecords_emitter (f : RecordState → RecordState) : (s.updRecords f).emitter = s.emitter := rfl
@[simp] theorem State.updRecords_line (f : RecordState → RecordState) : (s.updRecords f).line = s.line := rfl
@[simp] theorem State.updRecords_hook (f : RecordState → RecordState) : (s.updRecords f).hook = s.hook := rfl
@[simp] theorem State.updRecords_rating (f : RecordState → RecordState) : (s.updRecords f).rating = s.rating := rfl
@[simp] theorem State.updRecords_records (f : RecordState → RecordState) : (s.updRecords f).records = f s.records := rfl
@[simp] theorem State.updRecords_tamper (f : RecordState → RecordState) : (s.updRecords f).tamper = s.tamper := rfl
@[simp] theorem State.updRecords_alarms (f : RecordState → RecordState) : (s.updRecords f).alarms = s.alarms := rfl
@[simp] theorem State.updRecords_report (f : RecordState → RecordState) : (s.updRecords f).report = s.report := rfl
@[simp] theorem State.updRecords_cash (f : RecordState → RecordState) : (s.updRecords f).cash = s.cash := rfl
@[simp] theorem State.updRecords_path (f : RecordState → RecordState) : (s.updRecords f).path = s.path := rfl
@[simp] theorem State.updRecords_status (f : RecordState → RecordState) : (s.updRecords f).status = s.status := rfl
@[simp] theorem State.updRecords_mailbox (f : RecordState → RecordState) : (s.updRecords f).mailbox = s.mailbox := rfl
@[simp] theorem State.updRecords_pending (f : RecordState → RecordState) : (s.updRecords f).pending = s.pending := rfl

@[simp] theorem State.updTamper_now (f : TamperState → TamperState) : (s.updTamper f).now = s.now := rfl
@[simp] theorem State.updTamper_mem (f : TamperState → TamperState) : (s.updTamper f).mem = s.mem := rfl
@[simp] theorem State.updTamper_pins (f : TamperState → TamperState) : (s.updTamper f).pins = s.pins := rfl
@[simp] theorem State.updTamper_power (f : TamperState → TamperState) : (s.updTamper f).power = s.power := rfl
@[simp] theorem State.updTamper_clock (f : TamperState → TamperState) : (s.updTamper f).clock = s.clock := rfl
@[simp] theorem State.updTamper_setup (f : TamperState → TamperState) : (s.updTamper f).setup = s.setup := rfl
@[simp] theorem State.updTamper_coin (f : TamperState → TamperState) : (s.updTamper f).coin = s.coin := rfl
@[simp] theorem State.updTamper_lever (f : TamperState → TamperState) : (s.updTamper f).lever = s.lever := rfl
@[simp] theorem State.updTamper_number (f : TamperState → TamperState) : (s.updTamper f).number = s.number := rfl
@[simp] theorem State.updTamper_emitter (f : TamperState → TamperState) : (s.updTamper f).emitter = s.emitter := rfl
@[simp] theorem State.updTamper_line (f : TamperState → TamperState) : (s.updTamper f).line = s.line := rfl
@[simp] theorem State.updTamper_hook (f : TamperState → TamperState) : (s.updTamper f).hook = s.hook := rfl
@[simp] theorem State.updTamper_rating (f : TamperState → TamperState) : (s.updTamper f).rating = s.rating := rfl
@[simp] theorem State.updTamper_records (f : TamperState → TamperState) : (s.updTamper f).records = s.records := rfl
@[simp] theorem State.updTamper_tamper (f : TamperState → TamperState) : (s.updTamper f).tamper = f s.tamper := rfl
@[simp] theorem State.updTamper_alarms (f : TamperState → TamperState) : (s.updTamper f).alarms = s.alarms := rfl
@[simp] theorem State.updTamper_report (f : TamperState → TamperState) : (s.updTamper f).report = s.report := rfl
@[simp] theorem State.updTamper_cash (f : TamperState → TamperState) : (s.updTamper f).cash = s.cash := rfl
@[simp] theorem State.updTamper_path (f : TamperState → TamperState) : (s.updTamper f).path = s.path := rfl
@[simp] theorem State.updTamper_status (f : TamperState → TamperState) : (s.updTamper f).status = s.status := rfl
@[simp] theorem State.updTamper_mailbox (f : TamperState → TamperState) : (s.updTamper f).mailbox = s.mailbox := rfl
@[simp] theorem State.updTamper_pending (f : TamperState → TamperState) : (s.updTamper f).pending = s.pending := rfl

@[simp] theorem State.updAlarms_now (f : AlarmState → AlarmState) : (s.updAlarms f).now = s.now := rfl
@[simp] theorem State.updAlarms_mem (f : AlarmState → AlarmState) : (s.updAlarms f).mem = s.mem := rfl
@[simp] theorem State.updAlarms_pins (f : AlarmState → AlarmState) : (s.updAlarms f).pins = s.pins := rfl
@[simp] theorem State.updAlarms_power (f : AlarmState → AlarmState) : (s.updAlarms f).power = s.power := rfl
@[simp] theorem State.updAlarms_clock (f : AlarmState → AlarmState) : (s.updAlarms f).clock = s.clock := rfl
@[simp] theorem State.updAlarms_setup (f : AlarmState → AlarmState) : (s.updAlarms f).setup = s.setup := rfl
@[simp] theorem State.updAlarms_coin (f : AlarmState → AlarmState) : (s.updAlarms f).coin = s.coin := rfl
@[simp] theorem State.updAlarms_lever (f : AlarmState → AlarmState) : (s.updAlarms f).lever = s.lever := rfl
@[simp] theorem State.updAlarms_number (f : AlarmState → AlarmState) : (s.updAlarms f).number = s.number := rfl
@[simp] theorem State.updAlarms_emitter (f : AlarmState → AlarmState) : (s.updAlarms f).emitter = s.emitter := rfl
@[simp] theorem State.updAlarms_line (f : AlarmState → AlarmState) : (s.updAlarms f).line = s.line := rfl
@[simp] theorem State.updAlarms_hook (f : AlarmState → AlarmState) : (s.updAlarms f).hook = s.hook := rfl
@[simp] theorem State.updAlarms_rating (f : AlarmState → AlarmState) : (s.updAlarms f).rating = s.rating := rfl
@[simp] theorem State.updAlarms_records (f : AlarmState → AlarmState) : (s.updAlarms f).records = s.records := rfl
@[simp] theorem State.updAlarms_tamper (f : AlarmState → AlarmState) : (s.updAlarms f).tamper = s.tamper := rfl
@[simp] theorem State.updAlarms_alarms (f : AlarmState → AlarmState) : (s.updAlarms f).alarms = f s.alarms := rfl
@[simp] theorem State.updAlarms_report (f : AlarmState → AlarmState) : (s.updAlarms f).report = s.report := rfl
@[simp] theorem State.updAlarms_cash (f : AlarmState → AlarmState) : (s.updAlarms f).cash = s.cash := rfl
@[simp] theorem State.updAlarms_path (f : AlarmState → AlarmState) : (s.updAlarms f).path = s.path := rfl
@[simp] theorem State.updAlarms_status (f : AlarmState → AlarmState) : (s.updAlarms f).status = s.status := rfl
@[simp] theorem State.updAlarms_mailbox (f : AlarmState → AlarmState) : (s.updAlarms f).mailbox = s.mailbox := rfl
@[simp] theorem State.updAlarms_pending (f : AlarmState → AlarmState) : (s.updAlarms f).pending = s.pending := rfl

@[simp] theorem State.updReport_now (f : ReportState → ReportState) : (s.updReport f).now = s.now := rfl
@[simp] theorem State.updReport_mem (f : ReportState → ReportState) : (s.updReport f).mem = s.mem := rfl
@[simp] theorem State.updReport_pins (f : ReportState → ReportState) : (s.updReport f).pins = s.pins := rfl
@[simp] theorem State.updReport_power (f : ReportState → ReportState) : (s.updReport f).power = s.power := rfl
@[simp] theorem State.updReport_clock (f : ReportState → ReportState) : (s.updReport f).clock = s.clock := rfl
@[simp] theorem State.updReport_setup (f : ReportState → ReportState) : (s.updReport f).setup = s.setup := rfl
@[simp] theorem State.updReport_coin (f : ReportState → ReportState) : (s.updReport f).coin = s.coin := rfl
@[simp] theorem State.updReport_lever (f : ReportState → ReportState) : (s.updReport f).lever = s.lever := rfl
@[simp] theorem State.updReport_number (f : ReportState → ReportState) : (s.updReport f).number = s.number := rfl
@[simp] theorem State.updReport_emitter (f : ReportState → ReportState) : (s.updReport f).emitter = s.emitter := rfl
@[simp] theorem State.updReport_line (f : ReportState → ReportState) : (s.updReport f).line = s.line := rfl
@[simp] theorem State.updReport_hook (f : ReportState → ReportState) : (s.updReport f).hook = s.hook := rfl
@[simp] theorem State.updReport_rating (f : ReportState → ReportState) : (s.updReport f).rating = s.rating := rfl
@[simp] theorem State.updReport_records (f : ReportState → ReportState) : (s.updReport f).records = s.records := rfl
@[simp] theorem State.updReport_tamper (f : ReportState → ReportState) : (s.updReport f).tamper = s.tamper := rfl
@[simp] theorem State.updReport_alarms (f : ReportState → ReportState) : (s.updReport f).alarms = s.alarms := rfl
@[simp] theorem State.updReport_report (f : ReportState → ReportState) : (s.updReport f).report = f s.report := rfl
@[simp] theorem State.updReport_cash (f : ReportState → ReportState) : (s.updReport f).cash = s.cash := rfl
@[simp] theorem State.updReport_path (f : ReportState → ReportState) : (s.updReport f).path = s.path := rfl
@[simp] theorem State.updReport_status (f : ReportState → ReportState) : (s.updReport f).status = s.status := rfl
@[simp] theorem State.updReport_mailbox (f : ReportState → ReportState) : (s.updReport f).mailbox = s.mailbox := rfl
@[simp] theorem State.updReport_pending (f : ReportState → ReportState) : (s.updReport f).pending = s.pending := rfl

@[simp] theorem State.updCash_now (f : CashState → CashState) : (s.updCash f).now = s.now := rfl
@[simp] theorem State.updCash_mem (f : CashState → CashState) : (s.updCash f).mem = s.mem := rfl
@[simp] theorem State.updCash_pins (f : CashState → CashState) : (s.updCash f).pins = s.pins := rfl
@[simp] theorem State.updCash_power (f : CashState → CashState) : (s.updCash f).power = s.power := rfl
@[simp] theorem State.updCash_clock (f : CashState → CashState) : (s.updCash f).clock = s.clock := rfl
@[simp] theorem State.updCash_setup (f : CashState → CashState) : (s.updCash f).setup = s.setup := rfl
@[simp] theorem State.updCash_coin (f : CashState → CashState) : (s.updCash f).coin = s.coin := rfl
@[simp] theorem State.updCash_lever (f : CashState → CashState) : (s.updCash f).lever = s.lever := rfl
@[simp] theorem State.updCash_number (f : CashState → CashState) : (s.updCash f).number = s.number := rfl
@[simp] theorem State.updCash_emitter (f : CashState → CashState) : (s.updCash f).emitter = s.emitter := rfl
@[simp] theorem State.updCash_line (f : CashState → CashState) : (s.updCash f).line = s.line := rfl
@[simp] theorem State.updCash_hook (f : CashState → CashState) : (s.updCash f).hook = s.hook := rfl
@[simp] theorem State.updCash_rating (f : CashState → CashState) : (s.updCash f).rating = s.rating := rfl
@[simp] theorem State.updCash_records (f : CashState → CashState) : (s.updCash f).records = s.records := rfl
@[simp] theorem State.updCash_tamper (f : CashState → CashState) : (s.updCash f).tamper = s.tamper := rfl
@[simp] theorem State.updCash_alarms (f : CashState → CashState) : (s.updCash f).alarms = s.alarms := rfl
@[simp] theorem State.updCash_report (f : CashState → CashState) : (s.updCash f).report = s.report := rfl
@[simp] theorem State.updCash_cash (f : CashState → CashState) : (s.updCash f).cash = f s.cash := rfl
@[simp] theorem State.updCash_path (f : CashState → CashState) : (s.updCash f).path = s.path := rfl
@[simp] theorem State.updCash_status (f : CashState → CashState) : (s.updCash f).status = s.status := rfl
@[simp] theorem State.updCash_mailbox (f : CashState → CashState) : (s.updCash f).mailbox = s.mailbox := rfl
@[simp] theorem State.updCash_pending (f : CashState → CashState) : (s.updCash f).pending = s.pending := rfl

@[simp] theorem State.updPath_now (f : PathState → PathState) : (s.updPath f).now = s.now := rfl
@[simp] theorem State.updPath_mem (f : PathState → PathState) : (s.updPath f).mem = s.mem := rfl
@[simp] theorem State.updPath_pins (f : PathState → PathState) : (s.updPath f).pins = s.pins := rfl
@[simp] theorem State.updPath_power (f : PathState → PathState) : (s.updPath f).power = s.power := rfl
@[simp] theorem State.updPath_clock (f : PathState → PathState) : (s.updPath f).clock = s.clock := rfl
@[simp] theorem State.updPath_setup (f : PathState → PathState) : (s.updPath f).setup = s.setup := rfl
@[simp] theorem State.updPath_coin (f : PathState → PathState) : (s.updPath f).coin = s.coin := rfl
@[simp] theorem State.updPath_lever (f : PathState → PathState) : (s.updPath f).lever = s.lever := rfl
@[simp] theorem State.updPath_number (f : PathState → PathState) : (s.updPath f).number = s.number := rfl
@[simp] theorem State.updPath_emitter (f : PathState → PathState) : (s.updPath f).emitter = s.emitter := rfl
@[simp] theorem State.updPath_line (f : PathState → PathState) : (s.updPath f).line = s.line := rfl
@[simp] theorem State.updPath_hook (f : PathState → PathState) : (s.updPath f).hook = s.hook := rfl
@[simp] theorem State.updPath_rating (f : PathState → PathState) : (s.updPath f).rating = s.rating := rfl
@[simp] theorem State.updPath_records (f : PathState → PathState) : (s.updPath f).records = s.records := rfl
@[simp] theorem State.updPath_tamper (f : PathState → PathState) : (s.updPath f).tamper = s.tamper := rfl
@[simp] theorem State.updPath_alarms (f : PathState → PathState) : (s.updPath f).alarms = s.alarms := rfl
@[simp] theorem State.updPath_report (f : PathState → PathState) : (s.updPath f).report = s.report := rfl
@[simp] theorem State.updPath_cash (f : PathState → PathState) : (s.updPath f).cash = s.cash := rfl
@[simp] theorem State.updPath_path (f : PathState → PathState) : (s.updPath f).path = f s.path := rfl
@[simp] theorem State.updPath_status (f : PathState → PathState) : (s.updPath f).status = s.status := rfl
@[simp] theorem State.updPath_mailbox (f : PathState → PathState) : (s.updPath f).mailbox = s.mailbox := rfl
@[simp] theorem State.updPath_pending (f : PathState → PathState) : (s.updPath f).pending = s.pending := rfl

@[simp] theorem State.updStatus_now (f : StatusState → StatusState) : (s.updStatus f).now = s.now := rfl
@[simp] theorem State.updStatus_mem (f : StatusState → StatusState) : (s.updStatus f).mem = s.mem := rfl
@[simp] theorem State.updStatus_pins (f : StatusState → StatusState) : (s.updStatus f).pins = s.pins := rfl
@[simp] theorem State.updStatus_power (f : StatusState → StatusState) : (s.updStatus f).power = s.power := rfl
@[simp] theorem State.updStatus_clock (f : StatusState → StatusState) : (s.updStatus f).clock = s.clock := rfl
@[simp] theorem State.updStatus_setup (f : StatusState → StatusState) : (s.updStatus f).setup = s.setup := rfl
@[simp] theorem State.updStatus_coin (f : StatusState → StatusState) : (s.updStatus f).coin = s.coin := rfl
@[simp] theorem State.updStatus_lever (f : StatusState → StatusState) : (s.updStatus f).lever = s.lever := rfl
@[simp] theorem State.updStatus_number (f : StatusState → StatusState) : (s.updStatus f).number = s.number := rfl
@[simp] theorem State.updStatus_emitter (f : StatusState → StatusState) : (s.updStatus f).emitter = s.emitter := rfl
@[simp] theorem State.updStatus_line (f : StatusState → StatusState) : (s.updStatus f).line = s.line := rfl
@[simp] theorem State.updStatus_hook (f : StatusState → StatusState) : (s.updStatus f).hook = s.hook := rfl
@[simp] theorem State.updStatus_rating (f : StatusState → StatusState) : (s.updStatus f).rating = s.rating := rfl
@[simp] theorem State.updStatus_records (f : StatusState → StatusState) : (s.updStatus f).records = s.records := rfl
@[simp] theorem State.updStatus_tamper (f : StatusState → StatusState) : (s.updStatus f).tamper = s.tamper := rfl
@[simp] theorem State.updStatus_alarms (f : StatusState → StatusState) : (s.updStatus f).alarms = s.alarms := rfl
@[simp] theorem State.updStatus_report (f : StatusState → StatusState) : (s.updStatus f).report = s.report := rfl
@[simp] theorem State.updStatus_cash (f : StatusState → StatusState) : (s.updStatus f).cash = s.cash := rfl
@[simp] theorem State.updStatus_path (f : StatusState → StatusState) : (s.updStatus f).path = s.path := rfl
@[simp] theorem State.updStatus_status (f : StatusState → StatusState) : (s.updStatus f).status = f s.status := rfl
@[simp] theorem State.updStatus_mailbox (f : StatusState → StatusState) : (s.updStatus f).mailbox = s.mailbox := rfl
@[simp] theorem State.updStatus_pending (f : StatusState → StatusState) : (s.updStatus f).pending = s.pending := rfl

@[simp] theorem State.updMailbox_now (f : MailboxState → MailboxState) : (s.updMailbox f).now = s.now := rfl
@[simp] theorem State.updMailbox_mem (f : MailboxState → MailboxState) : (s.updMailbox f).mem = s.mem := rfl
@[simp] theorem State.updMailbox_pins (f : MailboxState → MailboxState) : (s.updMailbox f).pins = s.pins := rfl
@[simp] theorem State.updMailbox_power (f : MailboxState → MailboxState) : (s.updMailbox f).power = s.power := rfl
@[simp] theorem State.updMailbox_clock (f : MailboxState → MailboxState) : (s.updMailbox f).clock = s.clock := rfl
@[simp] theorem State.updMailbox_setup (f : MailboxState → MailboxState) : (s.updMailbox f).setup = s.setup := rfl
@[simp] theorem State.updMailbox_coin (f : MailboxState → MailboxState) : (s.updMailbox f).coin = s.coin := rfl
@[simp] theorem State.updMailbox_lever (f : MailboxState → MailboxState) : (s.updMailbox f).lever = s.lever := rfl
@[simp] theorem State.updMailbox_number (f : MailboxState → MailboxState) : (s.updMailbox f).number = s.number := rfl
@[simp] theorem State.updMailbox_emitter (f : MailboxState → MailboxState) : (s.updMailbox f).emitter = s.emitter := rfl
@[simp] theorem State.updMailbox_line (f : MailboxState → MailboxState) : (s.updMailbox f).line = s.line := rfl
@[simp] theorem State.updMailbox_hook (f : MailboxState → MailboxState) : (s.updMailbox f).hook = s.hook := rfl
@[simp] theorem State.updMailbox_rating (f : MailboxState → MailboxState) : (s.updMailbox f).rating = s.rating := rfl
@[simp] theorem State.updMailbox_records (f : MailboxState → MailboxState) : (s.updMailbox f).records = s.records := rfl
@[simp] theorem State.updMailbox_tamper (f : MailboxState → MailboxState) : (s.updMailbox f).tamper = s.tamper := rfl
@[simp] theorem State.updMailbox_alarms (f : MailboxState → MailboxState) : (s.updMailbox f).alarms = s.alarms := rfl
@[simp] theorem State.updMailbox_report (f : MailboxState → MailboxState) : (s.updMailbox f).report = s.report := rfl
@[simp] theorem State.updMailbox_cash (f : MailboxState → MailboxState) : (s.updMailbox f).cash = s.cash := rfl
@[simp] theorem State.updMailbox_path (f : MailboxState → MailboxState) : (s.updMailbox f).path = s.path := rfl
@[simp] theorem State.updMailbox_status (f : MailboxState → MailboxState) : (s.updMailbox f).status = s.status := rfl
@[simp] theorem State.updMailbox_mailbox (f : MailboxState → MailboxState) : (s.updMailbox f).mailbox = f s.mailbox := rfl
@[simp] theorem State.updMailbox_pending (f : MailboxState → MailboxState) : (s.updMailbox f).pending = s.pending := rfl

@[simp] theorem State.updPending_now (f : List Instr → List Instr) : (s.updPending f).now = s.now := rfl
@[simp] theorem State.updPending_mem (f : List Instr → List Instr) : (s.updPending f).mem = s.mem := rfl
@[simp] theorem State.updPending_pins (f : List Instr → List Instr) : (s.updPending f).pins = s.pins := rfl
@[simp] theorem State.updPending_power (f : List Instr → List Instr) : (s.updPending f).power = s.power := rfl
@[simp] theorem State.updPending_clock (f : List Instr → List Instr) : (s.updPending f).clock = s.clock := rfl
@[simp] theorem State.updPending_setup (f : List Instr → List Instr) : (s.updPending f).setup = s.setup := rfl
@[simp] theorem State.updPending_coin (f : List Instr → List Instr) : (s.updPending f).coin = s.coin := rfl
@[simp] theorem State.updPending_lever (f : List Instr → List Instr) : (s.updPending f).lever = s.lever := rfl
@[simp] theorem State.updPending_number (f : List Instr → List Instr) : (s.updPending f).number = s.number := rfl
@[simp] theorem State.updPending_emitter (f : List Instr → List Instr) : (s.updPending f).emitter = s.emitter := rfl
@[simp] theorem State.updPending_line (f : List Instr → List Instr) : (s.updPending f).line = s.line := rfl
@[simp] theorem State.updPending_hook (f : List Instr → List Instr) : (s.updPending f).hook = s.hook := rfl
@[simp] theorem State.updPending_rating (f : List Instr → List Instr) : (s.updPending f).rating = s.rating := rfl
@[simp] theorem State.updPending_records (f : List Instr → List Instr) : (s.updPending f).records = s.records := rfl
@[simp] theorem State.updPending_tamper (f : List Instr → List Instr) : (s.updPending f).tamper = s.tamper := rfl
@[simp] theorem State.updPending_alarms (f : List Instr → List Instr) : (s.updPending f).alarms = s.alarms := rfl
@[simp] theorem State.updPending_report (f : List Instr → List Instr) : (s.updPending f).report = s.report := rfl
@[simp] theorem State.updPending_cash (f : List Instr → List Instr) : (s.updPending f).cash = s.cash := rfl
@[simp] theorem State.updPending_path (f : List Instr → List Instr) : (s.updPending f).path = s.path := rfl
@[simp] theorem State.updPending_status (f : List Instr → List Instr) : (s.updPending f).status = s.status := rfl
@[simp] theorem State.updPending_mailbox (f : List Instr → List Instr) : (s.updPending f).mailbox = s.mailbox := rfl
@[simp] theorem State.updPending_pending (f : List Instr → List Instr) : (s.updPending f).pending = f s.pending := rfl

end Sys2Proof.Machine
end

