-- ==== Sys2Proof/Laws/FramesBase.lean ====
section
/-! SUPPORT. Frames: the fields of `State` that an operation leaves as they were, one lemma for each operation
of the flags, tallies, records, line grants and reports. -/

namespace Sys2Proof.Machine

@[simp] theorem State.raise_frame (s : State) (f : EventFlag) :
    (s.raise f).now = s.now ∧ (s.raise f).mem = s.mem ∧ (s.raise f).pins = s.pins ∧
    (s.raise f).power = s.power ∧ (s.raise f).clock = s.clock ∧ (s.raise f).setup = s.setup ∧
    (s.raise f).coin = s.coin ∧ (s.raise f).lever = s.lever ∧ (s.raise f).number = s.number ∧
    (s.raise f).emitter = s.emitter ∧ (s.raise f).line = s.line ∧ (s.raise f).hook = s.hook ∧
    (s.raise f).rating = s.rating ∧ (s.raise f).records = s.records ∧ (s.raise f).tamper = s.tamper ∧
    (s.raise f).alarms = s.alarms ∧ (s.raise f).report = s.report ∧ (s.raise f).cash = s.cash ∧
    (s.raise f).path = s.path ∧ (s.raise f).mailbox = s.mailbox ∧ (s.raise f).pending = s.pending := by
  simp [State.raise]

@[simp] theorem State.lower_frame (s : State) (f : EventFlag) :
    (s.lower f).now = s.now ∧ (s.lower f).mem = s.mem ∧ (s.lower f).pins = s.pins ∧
    (s.lower f).power = s.power ∧ (s.lower f).clock = s.clock ∧ (s.lower f).setup = s.setup ∧
    (s.lower f).coin = s.coin ∧ (s.lower f).lever = s.lever ∧ (s.lower f).number = s.number ∧
    (s.lower f).emitter = s.emitter ∧ (s.lower f).line = s.line ∧ (s.lower f).hook = s.hook ∧
    (s.lower f).rating = s.rating ∧ (s.lower f).records = s.records ∧ (s.lower f).tamper = s.tamper ∧
    (s.lower f).alarms = s.alarms ∧ (s.lower f).report = s.report ∧ (s.lower f).cash = s.cash ∧
    (s.lower f).path = s.path ∧ (s.lower f).mailbox = s.mailbox ∧ (s.lower f).pending = s.pending := by
  simp [State.lower]

@[simp] theorem State.clearFlags_frame (s : State) (value : Word) :
    (s.clearFlags value).now = s.now ∧ (s.clearFlags value).mem = s.mem ∧
    (s.clearFlags value).pins = s.pins ∧ (s.clearFlags value).power = s.power ∧
    (s.clearFlags value).clock = s.clock ∧ (s.clearFlags value).setup = s.setup ∧
    (s.clearFlags value).coin = s.coin ∧ (s.clearFlags value).lever = s.lever ∧
    (s.clearFlags value).number = s.number ∧ (s.clearFlags value).emitter = s.emitter ∧
    (s.clearFlags value).line = s.line ∧ (s.clearFlags value).hook = s.hook ∧
    (s.clearFlags value).rating = s.rating ∧ (s.clearFlags value).records = s.records ∧
    (s.clearFlags value).tamper = s.tamper ∧ (s.clearFlags value).alarms = s.alarms ∧
    (s.clearFlags value).report = s.report ∧ (s.clearFlags value).cash = s.cash ∧
    (s.clearFlags value).path = s.path ∧ (s.clearFlags value).mailbox = s.mailbox ∧
    (s.clearFlags value).pending = s.pending := by
  simp [State.clearFlags]

@[simp] theorem State.reach_frame (s : State) (moment : Nat) :
    (s.reach moment).mem = s.mem ∧ (s.reach moment).pins = s.pins ∧ (s.reach moment).power = s.power ∧
    (s.reach moment).clock = s.clock ∧ (s.reach moment).setup = s.setup ∧ (s.reach moment).coin = s.coin ∧
    (s.reach moment).lever = s.lever ∧ (s.reach moment).number = s.number ∧
    (s.reach moment).emitter = s.emitter ∧ (s.reach moment).line = s.line ∧ (s.reach moment).hook = s.hook ∧
    (s.reach moment).rating = s.rating ∧ (s.reach moment).records = s.records ∧
    (s.reach moment).tamper = s.tamper ∧ (s.reach moment).alarms = s.alarms ∧
    (s.reach moment).report = s.report ∧ (s.reach moment).cash = s.cash ∧ (s.reach moment).path = s.path ∧
    (s.reach moment).status = s.status ∧ (s.reach moment).mailbox = s.mailbox ∧
    (s.reach moment).pending = s.pending := by
  simp [State.reach]

@[simp] theorem State.join_frame (s : State) (r : Requester) :
    (s.join r).now = s.now ∧ (s.join r).mem = s.mem ∧ (s.join r).pins = s.pins ∧
    (s.join r).power = s.power ∧ (s.join r).clock = s.clock ∧ (s.join r).setup = s.setup ∧
    (s.join r).coin = s.coin ∧ (s.join r).lever = s.lever ∧ (s.join r).number = s.number ∧
    (s.join r).emitter = s.emitter ∧ (s.join r).line = s.line ∧ (s.join r).hook = s.hook ∧
    (s.join r).rating = s.rating ∧ (s.join r).records = s.records ∧ (s.join r).tamper = s.tamper ∧
    (s.join r).alarms = s.alarms ∧ (s.join r).report = s.report ∧ (s.join r).cash = s.cash ∧
    (s.join r).status = s.status ∧ (s.join r).mailbox = s.mailbox ∧ (s.join r).pending = s.pending := by
  simp [State.join]

@[simp] theorem State.tally_frame (s : State) (t : TallyName) :
    (s.tally t).now = s.now ∧ (s.tally t).mem = s.mem ∧ (s.tally t).pins = s.pins ∧
    (s.tally t).power = s.power ∧ (s.tally t).clock = s.clock ∧ (s.tally t).setup = s.setup ∧
    (s.tally t).coin = s.coin ∧ (s.tally t).lever = s.lever ∧ (s.tally t).number = s.number ∧
    (s.tally t).emitter = s.emitter ∧ (s.tally t).line = s.line ∧ (s.tally t).hook = s.hook ∧
    (s.tally t).rating = s.rating ∧ (s.tally t).records = s.records ∧ (s.tally t).tamper = s.tamper ∧
    (s.tally t).alarms = s.alarms ∧ (s.tally t).report = s.report ∧ (s.tally t).cash = s.cash ∧
    (s.tally t).status = s.status ∧ (s.tally t).mailbox = s.mailbox ∧ (s.tally t).pending = s.pending := by
  simp [State.tally]

@[simp] theorem State.cashChanged_frame (s : State) :
    s.cashChanged.now = s.now ∧ s.cashChanged.mem = s.mem ∧ s.cashChanged.pins = s.pins ∧
    s.cashChanged.power = s.power ∧ s.cashChanged.clock = s.clock ∧ s.cashChanged.setup = s.setup ∧
    s.cashChanged.coin = s.coin ∧ s.cashChanged.lever = s.lever ∧ s.cashChanged.number = s.number ∧
    s.cashChanged.emitter = s.emitter ∧ s.cashChanged.line = s.line ∧ s.cashChanged.hook = s.hook ∧
    s.cashChanged.rating = s.rating ∧ s.cashChanged.records = s.records ∧ s.cashChanged.tamper = s.tamper ∧
    s.cashChanged.alarms = s.alarms ∧ s.cashChanged.report = s.report ∧ s.cashChanged.status = s.status ∧
    s.cashChanged.mailbox = s.mailbox ∧ s.cashChanged.pending = s.pending := by
  simp only [State.cashChanged]
  (repeat' split) <;> simp

@[simp] theorem State.putByte_frame (s : State) (addr : Nat) (b : Byte) :
    (s.putByte addr b).now = s.now ∧ (s.putByte addr b).pins = s.pins ∧ (s.putByte addr b).power = s.power ∧
    (s.putByte addr b).clock = s.clock ∧ (s.putByte addr b).setup = s.setup ∧
    (s.putByte addr b).coin = s.coin ∧ (s.putByte addr b).lever = s.lever ∧
    (s.putByte addr b).number = s.number ∧ (s.putByte addr b).emitter = s.emitter ∧
    (s.putByte addr b).line = s.line ∧ (s.putByte addr b).hook = s.hook ∧
    (s.putByte addr b).rating = s.rating ∧ (s.putByte addr b).records = s.records ∧
    (s.putByte addr b).tamper = s.tamper ∧ (s.putByte addr b).alarms = s.alarms ∧
    (s.putByte addr b).report = s.report ∧ (s.putByte addr b).cash = s.cash ∧
    (s.putByte addr b).path = s.path ∧ (s.putByte addr b).status = s.status ∧
    (s.putByte addr b).mailbox = s.mailbox ∧ (s.putByte addr b).pending = s.pending := by
  simp [State.putByte]

@[simp] theorem State.countFlash_frame (s : State) (addr : Nat) :
    (s.countFlash addr).now = s.now ∧ (s.countFlash addr).mem = s.mem ∧ (s.countFlash addr).pins = s.pins ∧
    (s.countFlash addr).power = s.power ∧ (s.countFlash addr).clock = s.clock ∧
    (s.countFlash addr).setup = s.setup ∧ (s.countFlash addr).coin = s.coin ∧
    (s.countFlash addr).lever = s.lever ∧ (s.countFlash addr).number = s.number ∧
    (s.countFlash addr).emitter = s.emitter ∧ (s.countFlash addr).line = s.line ∧
    (s.countFlash addr).hook = s.hook ∧ (s.countFlash addr).rating = s.rating ∧
    (s.countFlash addr).records = s.records ∧ (s.countFlash addr).tamper = s.tamper ∧
    (s.countFlash addr).alarms = s.alarms ∧ (s.countFlash addr).report = s.report ∧
    (s.countFlash addr).cash = s.cash ∧ (s.countFlash addr).status = s.status ∧
    (s.countFlash addr).mailbox = s.mailbox ∧ (s.countFlash addr).pending = s.pending := by
  simp only [State.countFlash]
  (repeat' split) <;> simp

@[simp] theorem State.storeByte_frame (s : State) (addr : Nat) (b : Byte) :
    (s.storeByte addr b).now = s.now ∧ (s.storeByte addr b).pins = s.pins ∧
    (s.storeByte addr b).power = s.power ∧ (s.storeByte addr b).clock = s.clock ∧
    (s.storeByte addr b).setup = s.setup ∧ (s.storeByte addr b).coin = s.coin ∧
    (s.storeByte addr b).lever = s.lever ∧ (s.storeByte addr b).number = s.number ∧
    (s.storeByte addr b).emitter = s.emitter ∧ (s.storeByte addr b).line = s.line ∧
    (s.storeByte addr b).hook = s.hook ∧ (s.storeByte addr b).rating = s.rating ∧
    (s.storeByte addr b).records = s.records ∧ (s.storeByte addr b).tamper = s.tamper ∧
    (s.storeByte addr b).alarms = s.alarms ∧ (s.storeByte addr b).report = s.report ∧
    (s.storeByte addr b).cash = s.cash ∧ (s.storeByte addr b).status = s.status ∧
    (s.storeByte addr b).mailbox = s.mailbox ∧ (s.storeByte addr b).pending = s.pending := by
  simp [State.storeByte]

@[simp] theorem State.storeWord_frame (s : State) (addr : Nat) (w : Word) :
    (s.storeWord addr w).now = s.now ∧ (s.storeWord addr w).pins = s.pins ∧
    (s.storeWord addr w).power = s.power ∧ (s.storeWord addr w).clock = s.clock ∧
    (s.storeWord addr w).setup = s.setup ∧ (s.storeWord addr w).coin = s.coin ∧
    (s.storeWord addr w).lever = s.lever ∧ (s.storeWord addr w).number = s.number ∧
    (s.storeWord addr w).emitter = s.emitter ∧ (s.storeWord addr w).line = s.line ∧
    (s.storeWord addr w).hook = s.hook ∧ (s.storeWord addr w).rating = s.rating ∧
    (s.storeWord addr w).records = s.records ∧ (s.storeWord addr w).tamper = s.tamper ∧
    (s.storeWord addr w).alarms = s.alarms ∧ (s.storeWord addr w).report = s.report ∧
    (s.storeWord addr w).cash = s.cash ∧ (s.storeWord addr w).status = s.status ∧
    (s.storeWord addr w).mailbox = s.mailbox ∧ (s.storeWord addr w).pending = s.pending := by
  simp [State.storeWord]

@[simp] theorem State.offerRecord_frame (s : State) (rec : CallRecord) :
    (s.offerRecord rec).now = s.now ∧ (s.offerRecord rec).mem = s.mem ∧ (s.offerRecord rec).pins = s.pins ∧
    (s.offerRecord rec).power = s.power ∧ (s.offerRecord rec).clock = s.clock ∧
    (s.offerRecord rec).setup = s.setup ∧ (s.offerRecord rec).coin = s.coin ∧
    (s.offerRecord rec).lever = s.lever ∧ (s.offerRecord rec).number = s.number ∧
    (s.offerRecord rec).emitter = s.emitter ∧ (s.offerRecord rec).line = s.line ∧
    (s.offerRecord rec).hook = s.hook ∧ (s.offerRecord rec).rating = s.rating ∧
    (s.offerRecord rec).tamper = s.tamper ∧ (s.offerRecord rec).alarms = s.alarms ∧
    (s.offerRecord rec).report = s.report ∧ (s.offerRecord rec).cash = s.cash ∧
    (s.offerRecord rec).mailbox = s.mailbox ∧ (s.offerRecord rec).pending = s.pending := by
  simp only [State.offerRecord]
  (repeat' split) <;> simp

@[simp] theorem State.moveRecords_frame (s : State) (base : Nat) :
    (s.moveRecords base).now = s.now ∧ (s.moveRecords base).mem = s.mem ∧
    (s.moveRecords base).pins = s.pins ∧ (s.moveRecords base).power = s.power ∧
    (s.moveRecords base).clock = s.clock ∧ (s.moveRecords base).setup = s.setup ∧
    (s.moveRecords base).coin = s.coin ∧ (s.moveRecords base).lever = s.lever ∧
    (s.moveRecords base).number = s.number ∧ (s.moveRecords base).emitter = s.emitter ∧
    (s.moveRecords base).line = s.line ∧ (s.moveRecords base).hook = s.hook ∧
    (s.moveRecords base).rating = s.rating ∧ (s.moveRecords base).tamper = s.tamper ∧
    (s.moveRecords base).alarms = s.alarms ∧ (s.moveRecords base).report = s.report ∧
    (s.moveRecords base).cash = s.cash ∧ (s.moveRecords base).status = s.status ∧
    (s.moveRecords base).mailbox = s.mailbox ∧ (s.moveRecords base).pending = s.pending := by
  simp only [State.moveRecords]
  (repeat' split) <;> simp

@[simp] theorem State.takeIndex_frame (s : State) (v : Nat) :
    (s.takeIndex v).now = s.now ∧ (s.takeIndex v).mem = s.mem ∧ (s.takeIndex v).pins = s.pins ∧
    (s.takeIndex v).power = s.power ∧ (s.takeIndex v).clock = s.clock ∧ (s.takeIndex v).setup = s.setup ∧
    (s.takeIndex v).coin = s.coin ∧ (s.takeIndex v).lever = s.lever ∧ (s.takeIndex v).number = s.number ∧
    (s.takeIndex v).emitter = s.emitter ∧ (s.takeIndex v).line = s.line ∧ (s.takeIndex v).hook = s.hook ∧
    (s.takeIndex v).rating = s.rating ∧ (s.takeIndex v).tamper = s.tamper ∧
    (s.takeIndex v).alarms = s.alarms ∧ (s.takeIndex v).report = s.report ∧ (s.takeIndex v).cash = s.cash ∧
    (s.takeIndex v).status = s.status ∧ (s.takeIndex v).mailbox = s.mailbox ∧
    (s.takeIndex v).pending = s.pending := by
  simp only [State.takeIndex]
  (repeat' split) <;> simp

@[simp] theorem State.refuseIndex_frame (s : State) :
    s.refuseIndex.now = s.now ∧ s.refuseIndex.mem = s.mem ∧ s.refuseIndex.pins = s.pins ∧
    s.refuseIndex.power = s.power ∧ s.refuseIndex.clock = s.clock ∧ s.refuseIndex.setup = s.setup ∧
    s.refuseIndex.coin = s.coin ∧ s.refuseIndex.lever = s.lever ∧ s.refuseIndex.number = s.number ∧
    s.refuseIndex.emitter = s.emitter ∧ s.refuseIndex.line = s.line ∧ s.refuseIndex.hook = s.hook ∧
    s.refuseIndex.rating = s.rating ∧ s.refuseIndex.records = s.records ∧ s.refuseIndex.tamper = s.tamper ∧
    s.refuseIndex.alarms = s.alarms ∧ s.refuseIndex.report = s.report ∧ s.refuseIndex.cash = s.cash ∧
    s.refuseIndex.mailbox = s.mailbox ∧ s.refuseIndex.pending = s.pending := by
  simp [State.refuseIndex]

@[simp] theorem State.storeRecordWord_frame (s : State) (k : Nat) (w : Word) :
    (s.storeRecordWord k w).now = s.now ∧ (s.storeRecordWord k w).pins = s.pins ∧
    (s.storeRecordWord k w).power = s.power ∧ (s.storeRecordWord k w).clock = s.clock ∧
    (s.storeRecordWord k w).setup = s.setup ∧ (s.storeRecordWord k w).coin = s.coin ∧
    (s.storeRecordWord k w).lever = s.lever ∧ (s.storeRecordWord k w).number = s.number ∧
    (s.storeRecordWord k w).emitter = s.emitter ∧ (s.storeRecordWord k w).line = s.line ∧
    (s.storeRecordWord k w).hook = s.hook ∧ (s.storeRecordWord k w).rating = s.rating ∧
    (s.storeRecordWord k w).records = s.records ∧ (s.storeRecordWord k w).tamper = s.tamper ∧
    (s.storeRecordWord k w).alarms = s.alarms ∧ (s.storeRecordWord k w).report = s.report ∧
    (s.storeRecordWord k w).cash = s.cash ∧ (s.storeRecordWord k w).status = s.status ∧
    (s.storeRecordWord k w).mailbox = s.mailbox ∧ (s.storeRecordWord k w).pending = s.pending := by
  simp [State.storeRecordWord]

@[simp] theorem State.jobWord_frame (s : State) :
    s.jobWord.now = s.now ∧ s.jobWord.mem = s.mem ∧ s.jobWord.pins = s.pins ∧ s.jobWord.power = s.power ∧
    s.jobWord.clock = s.clock ∧ s.jobWord.setup = s.setup ∧ s.jobWord.coin = s.coin ∧
    s.jobWord.lever = s.lever ∧ s.jobWord.number = s.number ∧ s.jobWord.emitter = s.emitter ∧
    s.jobWord.line = s.line ∧ s.jobWord.hook = s.hook ∧ s.jobWord.rating = s.rating ∧
    s.jobWord.tamper = s.tamper ∧ s.jobWord.alarms = s.alarms ∧ s.jobWord.report = s.report ∧
    s.jobWord.cash = s.cash ∧ s.jobWord.path = s.path ∧ s.jobWord.status = s.status ∧
    s.jobWord.mailbox = s.mailbox ∧ s.jobWord.pending = s.pending := by
  simp [State.jobWord]

@[simp] theorem State.jobDone_frame (s : State) :
    s.jobDone.now = s.now ∧ s.jobDone.mem = s.mem ∧ s.jobDone.pins = s.pins ∧ s.jobDone.power = s.power ∧
    s.jobDone.clock = s.clock ∧ s.jobDone.setup = s.setup ∧ s.jobDone.coin = s.coin ∧
    s.jobDone.lever = s.lever ∧ s.jobDone.number = s.number ∧ s.jobDone.emitter = s.emitter ∧
    s.jobDone.line = s.line ∧ s.jobDone.hook = s.hook ∧ s.jobDone.rating = s.rating ∧
    s.jobDone.tamper = s.tamper ∧ s.jobDone.alarms = s.alarms ∧ s.jobDone.report = s.report ∧
    s.jobDone.cash = s.cash ∧ s.jobDone.path = s.path ∧ s.jobDone.status = s.status ∧
    s.jobDone.mailbox = s.mailbox ∧ s.jobDone.pending = s.pending := by
  simp [State.jobDone]

@[simp] theorem State.publish_frame (s : State) (slot : Nat) :
    (s.publish slot).now = s.now ∧ (s.publish slot).pins = s.pins ∧ (s.publish slot).power = s.power ∧
    (s.publish slot).clock = s.clock ∧ (s.publish slot).setup = s.setup ∧ (s.publish slot).coin = s.coin ∧
    (s.publish slot).lever = s.lever ∧ (s.publish slot).number = s.number ∧
    (s.publish slot).emitter = s.emitter ∧ (s.publish slot).line = s.line ∧ (s.publish slot).hook = s.hook ∧
    (s.publish slot).rating = s.rating ∧ (s.publish slot).tamper = s.tamper ∧
    (s.publish slot).alarms = s.alarms ∧ (s.publish slot).report = s.report ∧
    (s.publish slot).cash = s.cash ∧ (s.publish slot).mailbox = s.mailbox ∧
    (s.publish slot).pending = s.pending := by
  simp [State.publish]

@[simp] theorem State.recordJobWord_frame (s : State)  (x0 : RecordJob) :
    (s.recordJobWord x0).now = s.now ∧ (s.recordJobWord x0).pins = s.pins ∧
    (s.recordJobWord x0).power = s.power ∧ (s.recordJobWord x0).clock = s.clock ∧
    (s.recordJobWord x0).setup = s.setup ∧ (s.recordJobWord x0).coin = s.coin ∧
    (s.recordJobWord x0).lever = s.lever ∧ (s.recordJobWord x0).number = s.number ∧
    (s.recordJobWord x0).emitter = s.emitter ∧ (s.recordJobWord x0).line = s.line ∧
    (s.recordJobWord x0).hook = s.hook ∧ (s.recordJobWord x0).rating = s.rating ∧
    (s.recordJobWord x0).tamper = s.tamper ∧ (s.recordJobWord x0).alarms = s.alarms ∧
    (s.recordJobWord x0).report = s.report ∧ (s.recordJobWord x0).cash = s.cash ∧
    (s.recordJobWord x0).mailbox = s.mailbox ∧ (s.recordJobWord x0).pending = s.pending := by
  cases x0 <;> simp only [State.recordJobWord] <;> (repeat' split) <;> simp

@[simp] theorem State.abandonItem_frame (s : State) :
    s.abandonItem.now = s.now ∧ s.abandonItem.mem = s.mem ∧ s.abandonItem.pins = s.pins ∧
    s.abandonItem.power = s.power ∧ s.abandonItem.clock = s.clock ∧ s.abandonItem.setup = s.setup ∧
    s.abandonItem.coin = s.coin ∧ s.abandonItem.lever = s.lever ∧ s.abandonItem.number = s.number ∧
    s.abandonItem.line = s.line ∧ s.abandonItem.hook = s.hook ∧ s.abandonItem.rating = s.rating ∧
    s.abandonItem.records = s.records ∧ s.abandonItem.tamper = s.tamper ∧ s.abandonItem.alarms = s.alarms ∧
    s.abandonItem.report = s.report ∧ s.abandonItem.cash = s.cash ∧ s.abandonItem.path = s.path ∧
    s.abandonItem.status = s.status ∧ s.abandonItem.mailbox = s.mailbox ∧ s.abandonItem.pending = s.pending := by
  simp [State.abandonItem]

@[simp] theorem State.releaseLine_frame (s : State) :
    s.releaseLine.now = s.now ∧ s.releaseLine.mem = s.mem ∧ s.releaseLine.pins = s.pins ∧
    s.releaseLine.power = s.power ∧ s.releaseLine.clock = s.clock ∧ s.releaseLine.setup = s.setup ∧
    s.releaseLine.coin = s.coin ∧ s.releaseLine.lever = s.lever ∧ s.releaseLine.number = s.number ∧
    s.releaseLine.hook = s.hook ∧ s.releaseLine.rating = s.rating ∧ s.releaseLine.records = s.records ∧
    s.releaseLine.tamper = s.tamper ∧ s.releaseLine.alarms = s.alarms ∧ s.releaseLine.report = s.report ∧
    s.releaseLine.cash = s.cash ∧ s.releaseLine.path = s.path ∧ s.releaseLine.status = s.status ∧
    s.releaseLine.mailbox = s.mailbox ∧ s.releaseLine.pending = s.pending := by
  simp only [State.releaseLine]
  (repeat' split) <;> simp

@[simp] theorem State.releaseForRetry_frame (s : State) :
    s.releaseForRetry.now = s.now ∧ s.releaseForRetry.mem = s.mem ∧ s.releaseForRetry.pins = s.pins ∧
    s.releaseForRetry.power = s.power ∧ s.releaseForRetry.clock = s.clock ∧
    s.releaseForRetry.setup = s.setup ∧ s.releaseForRetry.coin = s.coin ∧
    s.releaseForRetry.lever = s.lever ∧ s.releaseForRetry.number = s.number ∧
    s.releaseForRetry.hook = s.hook ∧ s.releaseForRetry.rating = s.rating ∧
    s.releaseForRetry.records = s.records ∧ s.releaseForRetry.tamper = s.tamper ∧
    s.releaseForRetry.alarms = s.alarms ∧ s.releaseForRetry.report = s.report ∧
    s.releaseForRetry.cash = s.cash ∧ s.releaseForRetry.path = s.path ∧
    s.releaseForRetry.status = s.status ∧ s.releaseForRetry.mailbox = s.mailbox ∧
    s.releaseForRetry.pending = s.pending := by
  simp [State.releaseForRetry]

@[simp] theorem State.enterSeizing_frame (s : State) :
    s.enterSeizing.now = s.now ∧ s.enterSeizing.mem = s.mem ∧ s.enterSeizing.pins = s.pins ∧
    s.enterSeizing.power = s.power ∧ s.enterSeizing.clock = s.clock ∧ s.enterSeizing.setup = s.setup ∧
    s.enterSeizing.coin = s.coin ∧ s.enterSeizing.lever = s.lever ∧ s.enterSeizing.number = s.number ∧
    s.enterSeizing.emitter = s.emitter ∧ s.enterSeizing.hook = s.hook ∧ s.enterSeizing.rating = s.rating ∧
    s.enterSeizing.records = s.records ∧ s.enterSeizing.tamper = s.tamper ∧
    s.enterSeizing.alarms = s.alarms ∧ s.enterSeizing.report = s.report ∧ s.enterSeizing.cash = s.cash ∧
    s.enterSeizing.path = s.path ∧ s.enterSeizing.status = s.status ∧ s.enterSeizing.mailbox = s.mailbox ∧
    s.enterSeizing.pending = s.pending := by
  simp only [State.enterSeizing]
  (repeat' split) <;> simp

@[simp] theorem State.takeLine_frame (s : State) (o : Owner) :
    (s.takeLine o).now = s.now ∧ (s.takeLine o).mem = s.mem ∧ (s.takeLine o).pins = s.pins ∧
    (s.takeLine o).power = s.power ∧ (s.takeLine o).clock = s.clock ∧ (s.takeLine o).setup = s.setup ∧
    (s.takeLine o).coin = s.coin ∧ (s.takeLine o).lever = s.lever ∧ (s.takeLine o).number = s.number ∧
    (s.takeLine o).emitter = s.emitter ∧ (s.takeLine o).hook = s.hook ∧ (s.takeLine o).rating = s.rating ∧
    (s.takeLine o).records = s.records ∧ (s.takeLine o).tamper = s.tamper ∧
    (s.takeLine o).alarms = s.alarms ∧ (s.takeLine o).report = s.report ∧ (s.takeLine o).cash = s.cash ∧
    (s.takeLine o).path = s.path ∧ (s.takeLine o).status = s.status ∧ (s.takeLine o).mailbox = s.mailbox ∧
    (s.takeLine o).pending = s.pending := by
  simp only [State.takeLine]
  (repeat' split) <;> simp

@[simp] theorem State.openMirror_frame (s : State) (k : ZoneKind) :
    (s.openMirror k).now = s.now ∧ (s.openMirror k).mem = s.mem ∧ (s.openMirror k).pins = s.pins ∧
    (s.openMirror k).power = s.power ∧ (s.openMirror k).clock = s.clock ∧ (s.openMirror k).setup = s.setup ∧
    (s.openMirror k).coin = s.coin ∧ (s.openMirror k).lever = s.lever ∧ (s.openMirror k).number = s.number ∧
    (s.openMirror k).emitter = s.emitter ∧ (s.openMirror k).line = s.line ∧ (s.openMirror k).hook = s.hook ∧
    (s.openMirror k).rating = s.rating ∧ (s.openMirror k).records = s.records ∧
    (s.openMirror k).tamper = s.tamper ∧ (s.openMirror k).alarms = s.alarms ∧
    (s.openMirror k).report = s.report ∧ (s.openMirror k).status = s.status ∧
    (s.openMirror k).mailbox = s.mailbox ∧ (s.openMirror k).pending = s.pending := by
  simp [State.openMirror]

@[simp] theorem State.tallyGrant_frame (s : State)  (x0 : ZoneKind) :
    (s.tallyGrant x0).now = s.now ∧ (s.tallyGrant x0).mem = s.mem ∧ (s.tallyGrant x0).pins = s.pins ∧
    (s.tallyGrant x0).power = s.power ∧ (s.tallyGrant x0).clock = s.clock ∧
    (s.tallyGrant x0).setup = s.setup ∧ (s.tallyGrant x0).coin = s.coin ∧
    (s.tallyGrant x0).lever = s.lever ∧ (s.tallyGrant x0).number = s.number ∧
    (s.tallyGrant x0).emitter = s.emitter ∧ (s.tallyGrant x0).line = s.line ∧
    (s.tallyGrant x0).hook = s.hook ∧ (s.tallyGrant x0).rating = s.rating ∧
    (s.tallyGrant x0).records = s.records ∧ (s.tallyGrant x0).tamper = s.tamper ∧
    (s.tallyGrant x0).alarms = s.alarms ∧ (s.tallyGrant x0).report = s.report ∧
    (s.tallyGrant x0).cash = s.cash ∧ (s.tallyGrant x0).status = s.status ∧
    (s.tallyGrant x0).mailbox = s.mailbox ∧ (s.tallyGrant x0).pending = s.pending := by
  cases x0 <;> simp [State.tallyGrant]

@[simp] theorem State.grantCustomer_frame (s : State) :
    s.grantCustomer.now = s.now ∧ s.grantCustomer.mem = s.mem ∧ s.grantCustomer.pins = s.pins ∧
    s.grantCustomer.power = s.power ∧ s.grantCustomer.clock = s.clock ∧ s.grantCustomer.setup = s.setup ∧
    s.grantCustomer.coin = s.coin ∧ s.grantCustomer.lever = s.lever ∧ s.grantCustomer.number = s.number ∧
    s.grantCustomer.emitter = s.emitter ∧ s.grantCustomer.hook = s.hook ∧
    s.grantCustomer.rating = s.rating ∧ s.grantCustomer.records = s.records ∧
    s.grantCustomer.tamper = s.tamper ∧ s.grantCustomer.alarms = s.alarms ∧
    s.grantCustomer.report = s.report ∧ s.grantCustomer.mailbox = s.mailbox ∧
    s.grantCustomer.pending = s.pending := by
  simp only [State.grantCustomer]
  (repeat' split) <;> simp

@[simp] theorem State.grantWaiting_frame (s : State) :
    s.grantWaiting.now = s.now ∧ s.grantWaiting.mem = s.mem ∧ s.grantWaiting.pins = s.pins ∧
    s.grantWaiting.power = s.power ∧ s.grantWaiting.clock = s.clock ∧ s.grantWaiting.setup = s.setup ∧
    s.grantWaiting.coin = s.coin ∧ s.grantWaiting.lever = s.lever ∧ s.grantWaiting.number = s.number ∧
    s.grantWaiting.emitter = s.emitter ∧ s.grantWaiting.hook = s.hook ∧ s.grantWaiting.rating = s.rating ∧
    s.grantWaiting.records = s.records ∧ s.grantWaiting.tamper = s.tamper ∧
    s.grantWaiting.alarms = s.alarms ∧ s.grantWaiting.report = s.report ∧
    s.grantWaiting.mailbox = s.mailbox ∧ s.grantWaiting.pending = s.pending := by
  simp only [State.grantWaiting]
  (repeat' split) <;> simp

@[simp] theorem State.placeReport_frame (s : State) (runTime : Nat) :
    (s.placeReport runTime).now = s.now ∧ (s.placeReport runTime).mem = s.mem ∧
    (s.placeReport runTime).pins = s.pins ∧ (s.placeReport runTime).power = s.power ∧
    (s.placeReport runTime).clock = s.clock ∧ (s.placeReport runTime).setup = s.setup ∧
    (s.placeReport runTime).coin = s.coin ∧ (s.placeReport runTime).lever = s.lever ∧
    (s.placeReport runTime).number = s.number ∧ (s.placeReport runTime).emitter = s.emitter ∧
    (s.placeReport runTime).hook = s.hook ∧ (s.placeReport runTime).rating = s.rating ∧
    (s.placeReport runTime).records = s.records ∧ (s.placeReport runTime).tamper = s.tamper ∧
    (s.placeReport runTime).alarms = s.alarms ∧ (s.placeReport runTime).report = s.report ∧
    (s.placeReport runTime).mailbox = s.mailbox ∧ (s.placeReport runTime).pending = s.pending := by
  simp [State.placeReport]

@[simp] theorem State.withdrawCustomer_frame (s : State) :
    s.withdrawCustomer.now = s.now ∧ s.withdrawCustomer.mem = s.mem ∧ s.withdrawCustomer.pins = s.pins ∧
    s.withdrawCustomer.power = s.power ∧ s.withdrawCustomer.clock = s.clock ∧
    s.withdrawCustomer.setup = s.setup ∧ s.withdrawCustomer.coin = s.coin ∧
    s.withdrawCustomer.lever = s.lever ∧ s.withdrawCustomer.number = s.number ∧
    s.withdrawCustomer.emitter = s.emitter ∧ s.withdrawCustomer.hook = s.hook ∧
    s.withdrawCustomer.rating = s.rating ∧ s.withdrawCustomer.records = s.records ∧
    s.withdrawCustomer.tamper = s.tamper ∧ s.withdrawCustomer.alarms = s.alarms ∧
    s.withdrawCustomer.report = s.report ∧ s.withdrawCustomer.cash = s.cash ∧
    s.withdrawCustomer.path = s.path ∧ s.withdrawCustomer.status = s.status ∧
    s.withdrawCustomer.mailbox = s.mailbox ∧ s.withdrawCustomer.pending = s.pending := by
  simp [State.withdrawCustomer]

@[simp] theorem State.beginRun_frame (s : State) :
    s.beginRun.now = s.now ∧ s.beginRun.mem = s.mem ∧ s.beginRun.pins = s.pins ∧
    s.beginRun.power = s.power ∧ s.beginRun.clock = s.clock ∧ s.beginRun.setup = s.setup ∧
    s.beginRun.coin = s.coin ∧ s.beginRun.lever = s.lever ∧ s.beginRun.number = s.number ∧
    s.beginRun.emitter = s.emitter ∧ s.beginRun.hook = s.hook ∧ s.beginRun.rating = s.rating ∧
    s.beginRun.records = s.records ∧ s.beginRun.tamper = s.tamper ∧ s.beginRun.alarms = s.alarms ∧
    s.beginRun.mailbox = s.mailbox ∧ s.beginRun.pending = s.pending := by
  simp [State.beginRun]

@[simp] theorem State.checkQueue_frame (s : State) :
    s.checkQueue.now = s.now ∧ s.checkQueue.mem = s.mem ∧ s.checkQueue.pins = s.pins ∧
    s.checkQueue.power = s.power ∧ s.checkQueue.clock = s.clock ∧ s.checkQueue.setup = s.setup ∧
    s.checkQueue.coin = s.coin ∧ s.checkQueue.lever = s.lever ∧ s.checkQueue.number = s.number ∧
    s.checkQueue.emitter = s.emitter ∧ s.checkQueue.hook = s.hook ∧ s.checkQueue.rating = s.rating ∧
    s.checkQueue.records = s.records ∧ s.checkQueue.tamper = s.tamper ∧ s.checkQueue.alarms = s.alarms ∧
    s.checkQueue.mailbox = s.mailbox ∧ s.checkQueue.pending = s.pending := by
  simp only [State.checkQueue]
  (repeat' split) <;> simp

@[simp] theorem State.noticeNewKind_frame (s : State) :
    s.noticeNewKind.now = s.now ∧ s.noticeNewKind.mem = s.mem ∧ s.noticeNewKind.pins = s.pins ∧
    s.noticeNewKind.power = s.power ∧ s.noticeNewKind.clock = s.clock ∧ s.noticeNewKind.setup = s.setup ∧
    s.noticeNewKind.coin = s.coin ∧ s.noticeNewKind.lever = s.lever ∧ s.noticeNewKind.number = s.number ∧
    s.noticeNewKind.emitter = s.emitter ∧ s.noticeNewKind.hook = s.hook ∧
    s.noticeNewKind.rating = s.rating ∧ s.noticeNewKind.records = s.records ∧
    s.noticeNewKind.tamper = s.tamper ∧ s.noticeNewKind.alarms = s.alarms ∧
    s.noticeNewKind.mailbox = s.mailbox ∧ s.noticeNewKind.pending = s.pending := by
  simp only [State.noticeNewKind]
  (repeat' split) <;> simp

@[simp] theorem State.occurrence_frame (s : State) (k : AlarmKind) :
    (s.occurrence k).now = s.now ∧ (s.occurrence k).mem = s.mem ∧ (s.occurrence k).pins = s.pins ∧
    (s.occurrence k).power = s.power ∧ (s.occurrence k).clock = s.clock ∧ (s.occurrence k).setup = s.setup ∧
    (s.occurrence k).coin = s.coin ∧ (s.occurrence k).lever = s.lever ∧ (s.occurrence k).number = s.number ∧
    (s.occurrence k).emitter = s.emitter ∧ (s.occurrence k).hook = s.hook ∧
    (s.occurrence k).rating = s.rating ∧ (s.occurrence k).records = s.records ∧
    (s.occurrence k).tamper = s.tamper ∧ (s.occurrence k).mailbox = s.mailbox ∧
    (s.occurrence k).pending = s.pending := by
  simp only [State.occurrence]
  (repeat' split) <;> simp

@[simp] theorem State.endRun_frame (s : State) :
    s.endRun.now = s.now ∧ s.endRun.mem = s.mem ∧ s.endRun.pins = s.pins ∧ s.endRun.power = s.power ∧
    s.endRun.clock = s.clock ∧ s.endRun.setup = s.setup ∧ s.endRun.coin = s.coin ∧
    s.endRun.lever = s.lever ∧ s.endRun.number = s.number ∧ s.endRun.emitter = s.emitter ∧
    s.endRun.line = s.line ∧ s.endRun.hook = s.hook ∧ s.endRun.rating = s.rating ∧
    s.endRun.records = s.records ∧ s.endRun.tamper = s.tamper ∧ s.endRun.alarms = s.alarms ∧
    s.endRun.cash = s.cash ∧ s.endRun.path = s.path ∧ s.endRun.status = s.status ∧
    s.endRun.mailbox = s.mailbox ∧ s.endRun.pending = s.pending := by
  simp [State.endRun]

@[simp] theorem State.resumeRun_frame (s : State) :
    s.resumeRun.now = s.now ∧ s.resumeRun.mem = s.mem ∧ s.resumeRun.pins = s.pins ∧
    s.resumeRun.power = s.power ∧ s.resumeRun.clock = s.clock ∧ s.resumeRun.setup = s.setup ∧
    s.resumeRun.coin = s.coin ∧ s.resumeRun.lever = s.lever ∧ s.resumeRun.number = s.number ∧
    s.resumeRun.emitter = s.emitter ∧ s.resumeRun.hook = s.hook ∧ s.resumeRun.rating = s.rating ∧
    s.resumeRun.records = s.records ∧ s.resumeRun.tamper = s.tamper ∧ s.resumeRun.alarms = s.alarms ∧
    s.resumeRun.mailbox = s.mailbox ∧ s.resumeRun.pending = s.pending := by
  simp [State.resumeRun]

@[simp] theorem State.carryQueue_frame (s : State) :
    s.carryQueue.now = s.now ∧ s.carryQueue.mem = s.mem ∧ s.carryQueue.pins = s.pins ∧
    s.carryQueue.power = s.power ∧ s.carryQueue.clock = s.clock ∧ s.carryQueue.setup = s.setup ∧
    s.carryQueue.coin = s.coin ∧ s.carryQueue.lever = s.lever ∧ s.carryQueue.number = s.number ∧
    s.carryQueue.emitter = s.emitter ∧ s.carryQueue.line = s.line ∧ s.carryQueue.hook = s.hook ∧
    s.carryQueue.rating = s.rating ∧ s.carryQueue.records = s.records ∧ s.carryQueue.tamper = s.tamper ∧
    s.carryQueue.report = s.report ∧ s.carryQueue.status = s.status ∧ s.carryQueue.mailbox = s.mailbox ∧
    s.carryQueue.pending = s.pending := by
  simp only [State.carryQueue]
  (repeat' split) <;> simp

@[simp] theorem State.buildReport_frame (s : State) :
    s.buildReport.now = s.now ∧ s.buildReport.mem = s.mem ∧ s.buildReport.pins = s.pins ∧
    s.buildReport.power = s.power ∧ s.buildReport.clock = s.clock ∧ s.buildReport.setup = s.setup ∧
    s.buildReport.coin = s.coin ∧ s.buildReport.lever = s.lever ∧ s.buildReport.number = s.number ∧
    s.buildReport.emitter = s.emitter ∧ s.buildReport.line = s.line ∧ s.buildReport.hook = s.hook ∧
    s.buildReport.rating = s.rating ∧ s.buildReport.records = s.records ∧ s.buildReport.tamper = s.tamper ∧
    s.buildReport.status = s.status ∧ s.buildReport.mailbox = s.mailbox ∧ s.buildReport.pending = s.pending := by
  simp [State.buildReport]

@[simp] theorem State.failReporting_frame (s : State) :
    s.failReporting.now = s.now ∧ s.failReporting.mem = s.mem ∧ s.failReporting.pins = s.pins ∧
    s.failReporting.power = s.power ∧ s.failReporting.clock = s.clock ∧ s.failReporting.setup = s.setup ∧
    s.failReporting.coin = s.coin ∧ s.failReporting.lever = s.lever ∧ s.failReporting.number = s.number ∧
    s.failReporting.emitter = s.emitter ∧ s.failReporting.line = s.line ∧ s.failReporting.hook = s.hook ∧
    s.failReporting.rating = s.rating ∧ s.failReporting.records = s.records ∧
    s.failReporting.tamper = s.tamper ∧ s.failReporting.report = s.report ∧
    s.failReporting.status = s.status ∧ s.failReporting.mailbox = s.mailbox ∧
    s.failReporting.pending = s.pending := by
  simp only [State.failReporting]
  (repeat' split) <;> simp

@[simp] theorem State.clearAttempt_frame (s : State) :
    s.clearAttempt.now = s.now ∧ s.clearAttempt.mem = s.mem ∧ s.clearAttempt.pins = s.pins ∧
    s.clearAttempt.power = s.power ∧ s.clearAttempt.clock = s.clock ∧ s.clearAttempt.setup = s.setup ∧
    s.clearAttempt.coin = s.coin ∧ s.clearAttempt.lever = s.lever ∧ s.clearAttempt.number = s.number ∧
    s.clearAttempt.emitter = s.emitter ∧ s.clearAttempt.line = s.line ∧ s.clearAttempt.hook = s.hook ∧
    s.clearAttempt.rating = s.rating ∧ s.clearAttempt.records = s.records ∧
    s.clearAttempt.tamper = s.tamper ∧ s.clearAttempt.alarms = s.alarms ∧ s.clearAttempt.cash = s.cash ∧
    s.clearAttempt.path = s.path ∧ s.clearAttempt.mailbox = s.mailbox ∧ s.clearAttempt.pending = s.pending := by
  simp [State.clearAttempt]

@[simp] theorem State.failedAttempt_frame (s : State) :
    s.failedAttempt.now = s.now ∧ s.failedAttempt.mem = s.mem ∧ s.failedAttempt.pins = s.pins ∧
    s.failedAttempt.power = s.power ∧ s.failedAttempt.clock = s.clock ∧ s.failedAttempt.setup = s.setup ∧
    s.failedAttempt.coin = s.coin ∧ s.failedAttempt.lever = s.lever ∧ s.failedAttempt.number = s.number ∧
    s.failedAttempt.emitter = s.emitter ∧ s.failedAttempt.line = s.line ∧ s.failedAttempt.hook = s.hook ∧
    s.failedAttempt.rating = s.rating ∧ s.failedAttempt.records = s.records ∧
    s.failedAttempt.tamper = s.tamper ∧ s.failedAttempt.alarms = s.alarms ∧ s.failedAttempt.cash = s.cash ∧
    s.failedAttempt.status = s.status ∧ s.failedAttempt.mailbox = s.mailbox ∧
    s.failedAttempt.pending = s.pending := by
  simp [State.failedAttempt]

@[simp] theorem State.acknowledgedAttempt_frame (s : State) :
    s.acknowledgedAttempt.now = s.now ∧ s.acknowledgedAttempt.mem = s.mem ∧
    s.acknowledgedAttempt.pins = s.pins ∧ s.acknowledgedAttempt.power = s.power ∧
    s.acknowledgedAttempt.clock = s.clock ∧ s.acknowledgedAttempt.setup = s.setup ∧
    s.acknowledgedAttempt.coin = s.coin ∧ s.acknowledgedAttempt.lever = s.lever ∧
    s.acknowledgedAttempt.number = s.number ∧ s.acknowledgedAttempt.emitter = s.emitter ∧
    s.acknowledgedAttempt.line = s.line ∧ s.acknowledgedAttempt.hook = s.hook ∧
    s.acknowledgedAttempt.rating = s.rating ∧ s.acknowledgedAttempt.records = s.records ∧
    s.acknowledgedAttempt.tamper = s.tamper ∧ s.acknowledgedAttempt.alarms = s.alarms ∧
    s.acknowledgedAttempt.cash = s.cash ∧ s.acknowledgedAttempt.status = s.status ∧
    s.acknowledgedAttempt.mailbox = s.mailbox ∧ s.acknowledgedAttempt.pending = s.pending := by
  simp [State.acknowledgedAttempt]

@[simp] theorem State.attemptOutcome_frame (s : State)  (x0 : EndCause) :
    (s.attemptOutcome x0).now = s.now ∧ (s.attemptOutcome x0).mem = s.mem ∧
    (s.attemptOutcome x0).pins = s.pins ∧ (s.attemptOutcome x0).power = s.power ∧
    (s.attemptOutcome x0).clock = s.clock ∧ (s.attemptOutcome x0).setup = s.setup ∧
    (s.attemptOutcome x0).coin = s.coin ∧ (s.attemptOutcome x0).lever = s.lever ∧
    (s.attemptOutcome x0).number = s.number ∧ (s.attemptOutcome x0).emitter = s.emitter ∧
    (s.attemptOutcome x0).hook = s.hook ∧ (s.attemptOutcome x0).rating = s.rating ∧
    (s.attemptOutcome x0).records = s.records ∧ (s.attemptOutcome x0).tamper = s.tamper ∧
    (s.attemptOutcome x0).alarms = s.alarms ∧ (s.attemptOutcome x0).mailbox = s.mailbox ∧
    (s.attemptOutcome x0).pending = s.pending := by
  cases x0 <;> simp [State.attemptOutcome]

@[simp] theorem State.closeAttempt_frame (s : State) (outcome : EndCause) (seize : CalTime) :
    (s.closeAttempt outcome seize).now = s.now ∧ (s.closeAttempt outcome seize).mem = s.mem ∧
    (s.closeAttempt outcome seize).pins = s.pins ∧ (s.closeAttempt outcome seize).power = s.power ∧
    (s.closeAttempt outcome seize).clock = s.clock ∧ (s.closeAttempt outcome seize).setup = s.setup ∧
    (s.closeAttempt outcome seize).coin = s.coin ∧ (s.closeAttempt outcome seize).lever = s.lever ∧
    (s.closeAttempt outcome seize).number = s.number ∧ (s.closeAttempt outcome seize).emitter = s.emitter ∧
    (s.closeAttempt outcome seize).hook = s.hook ∧ (s.closeAttempt outcome seize).rating = s.rating ∧
    (s.closeAttempt outcome seize).tamper = s.tamper ∧ (s.closeAttempt outcome seize).mailbox = s.mailbox ∧
    (s.closeAttempt outcome seize).pending = s.pending := by
  simp only [State.closeAttempt]
  (repeat' split) <;> simp

@[simp] theorem State.endReport_frame (s : State) (outcome : EndCause) :
    (s.endReport outcome).now = s.now ∧ (s.endReport outcome).mem = s.mem ∧
    (s.endReport outcome).pins = s.pins ∧ (s.endReport outcome).power = s.power ∧
    (s.endReport outcome).clock = s.clock ∧ (s.endReport outcome).setup = s.setup ∧
    (s.endReport outcome).coin = s.coin ∧ (s.endReport outcome).lever = s.lever ∧
    (s.endReport outcome).number = s.number ∧ (s.endReport outcome).hook = s.hook ∧
    (s.endReport outcome).rating = s.rating ∧ (s.endReport outcome).tamper = s.tamper ∧
    (s.endReport outcome).mailbox = s.mailbox ∧ (s.endReport outcome).pending = s.pending := by
  simp [State.endReport]

end Sys2Proof.Machine
end

