-- ==== Sys2Proof/Laws/FramesCall.lean ====
section
/-! SUPPORT. Frames: the fields of `State` that an operation leaves as they were, one lemma for each operation
of the number, the emitter, the close of a call, the purse and the rating engine. -/

namespace Sys2Proof.Machine

@[simp] theorem State.setFifo_frame (s : State) (q : List Nat) :
    (s.setFifo q).now = s.now ∧ (s.setFifo q).mem = s.mem ∧ (s.setFifo q).pins = s.pins ∧
    (s.setFifo q).power = s.power ∧ (s.setFifo q).clock = s.clock ∧ (s.setFifo q).setup = s.setup ∧
    (s.setFifo q).coin = s.coin ∧ (s.setFifo q).lever = s.lever ∧ (s.setFifo q).emitter = s.emitter ∧
    (s.setFifo q).line = s.line ∧ (s.setFifo q).hook = s.hook ∧ (s.setFifo q).rating = s.rating ∧
    (s.setFifo q).records = s.records ∧ (s.setFifo q).tamper = s.tamper ∧ (s.setFifo q).alarms = s.alarms ∧
    (s.setFifo q).report = s.report ∧ (s.setFifo q).cash = s.cash ∧ (s.setFifo q).path = s.path ∧
    (s.setFifo q).mailbox = s.mailbox ∧ (s.setFifo q).pending = s.pending := by
  simp only [State.setFifo]
  (repeat' split) <;> simp

@[simp] theorem State.setNumberPhase_frame (s : State) (p : NumberPhase) :
    (s.setNumberPhase p).now = s.now ∧ (s.setNumberPhase p).mem = s.mem ∧
    (s.setNumberPhase p).pins = s.pins ∧ (s.setNumberPhase p).power = s.power ∧
    (s.setNumberPhase p).clock = s.clock ∧ (s.setNumberPhase p).setup = s.setup ∧
    (s.setNumberPhase p).coin = s.coin ∧ (s.setNumberPhase p).lever = s.lever ∧
    (s.setNumberPhase p).emitter = s.emitter ∧ (s.setNumberPhase p).line = s.line ∧
    (s.setNumberPhase p).hook = s.hook ∧ (s.setNumberPhase p).rating = s.rating ∧
    (s.setNumberPhase p).records = s.records ∧ (s.setNumberPhase p).tamper = s.tamper ∧
    (s.setNumberPhase p).alarms = s.alarms ∧ (s.setNumberPhase p).report = s.report ∧
    (s.setNumberPhase p).cash = s.cash ∧ (s.setNumberPhase p).path = s.path ∧
    (s.setNumberPhase p).mailbox = s.mailbox ∧ (s.setNumberPhase p).pending = s.pending := by
  simp only [State.setNumberPhase]
  (repeat' split) <;> simp

@[simp] theorem State.discardReads_frame (s : State) :
    s.discardReads.now = s.now ∧ s.discardReads.mem = s.mem ∧ s.discardReads.pins = s.pins ∧
    s.discardReads.power = s.power ∧ s.discardReads.clock = s.clock ∧ s.discardReads.setup = s.setup ∧
    s.discardReads.coin = s.coin ∧ s.discardReads.lever = s.lever ∧ s.discardReads.emitter = s.emitter ∧
    s.discardReads.line = s.line ∧ s.discardReads.hook = s.hook ∧ s.discardReads.records = s.records ∧
    s.discardReads.tamper = s.tamper ∧ s.discardReads.alarms = s.alarms ∧ s.discardReads.report = s.report ∧
    s.discardReads.cash = s.cash ∧ s.discardReads.path = s.path ∧ s.discardReads.status = s.status ∧
    s.discardReads.mailbox = s.mailbox ∧ s.discardReads.pending = s.pending := by
  simp [State.discardReads]

@[simp] theorem State.discardContext_frame (s : State) :
    s.discardContext.now = s.now ∧ s.discardContext.mem = s.mem ∧ s.discardContext.pins = s.pins ∧
    s.discardContext.power = s.power ∧ s.discardContext.clock = s.clock ∧ s.discardContext.setup = s.setup ∧
    s.discardContext.coin = s.coin ∧ s.discardContext.lever = s.lever ∧ s.discardContext.number = s.number ∧
    s.discardContext.emitter = s.emitter ∧ s.discardContext.line = s.line ∧ s.discardContext.hook = s.hook ∧
    s.discardContext.records = s.records ∧ s.discardContext.tamper = s.tamper ∧
    s.discardContext.alarms = s.alarms ∧ s.discardContext.report = s.report ∧
    s.discardContext.cash = s.cash ∧ s.discardContext.path = s.path ∧ s.discardContext.status = s.status ∧
    s.discardContext.mailbox = s.mailbox ∧ s.discardContext.pending = s.pending := by
  simp [State.discardContext]

@[simp] theorem State.stopNumberTimers_frame (s : State) :
    s.stopNumberTimers.now = s.now ∧ s.stopNumberTimers.mem = s.mem ∧ s.stopNumberTimers.pins = s.pins ∧
    s.stopNumberTimers.power = s.power ∧ s.stopNumberTimers.clock = s.clock ∧
    s.stopNumberTimers.setup = s.setup ∧ s.stopNumberTimers.coin = s.coin ∧
    s.stopNumberTimers.lever = s.lever ∧ s.stopNumberTimers.emitter = s.emitter ∧
    s.stopNumberTimers.line = s.line ∧ s.stopNumberTimers.hook = s.hook ∧
    s.stopNumberTimers.rating = s.rating ∧ s.stopNumberTimers.records = s.records ∧
    s.stopNumberTimers.tamper = s.tamper ∧ s.stopNumberTimers.alarms = s.alarms ∧
    s.stopNumberTimers.report = s.report ∧ s.stopNumberTimers.cash = s.cash ∧
    s.stopNumberTimers.path = s.path ∧ s.stopNumberTimers.status = s.status ∧
    s.stopNumberTimers.mailbox = s.mailbox ∧ s.stopNumberTimers.pending = s.pending := by
  simp [State.stopNumberTimers]

@[simp] theorem State.tallyRefusal_frame (s : State)  (x0 : RefusalCause) :
    (s.tallyRefusal x0).now = s.now ∧ (s.tallyRefusal x0).mem = s.mem ∧ (s.tallyRefusal x0).pins = s.pins ∧
    (s.tallyRefusal x0).power = s.power ∧ (s.tallyRefusal x0).clock = s.clock ∧
    (s.tallyRefusal x0).setup = s.setup ∧ (s.tallyRefusal x0).coin = s.coin ∧
    (s.tallyRefusal x0).lever = s.lever ∧ (s.tallyRefusal x0).number = s.number ∧
    (s.tallyRefusal x0).emitter = s.emitter ∧ (s.tallyRefusal x0).line = s.line ∧
    (s.tallyRefusal x0).hook = s.hook ∧ (s.tallyRefusal x0).rating = s.rating ∧
    (s.tallyRefusal x0).records = s.records ∧ (s.tallyRefusal x0).tamper = s.tamper ∧
    (s.tallyRefusal x0).alarms = s.alarms ∧ (s.tallyRefusal x0).report = s.report ∧
    (s.tallyRefusal x0).cash = s.cash ∧ (s.tallyRefusal x0).status = s.status ∧
    (s.tallyRefusal x0).mailbox = s.mailbox ∧ (s.tallyRefusal x0).pending = s.pending := by
  cases x0 <;> simp [State.tallyRefusal]

@[simp] theorem State.refuseNumber_frame (s : State) (cause : RefusalCause) :
    (s.refuseNumber cause).now = s.now ∧ (s.refuseNumber cause).mem = s.mem ∧
    (s.refuseNumber cause).pins = s.pins ∧ (s.refuseNumber cause).power = s.power ∧
    (s.refuseNumber cause).clock = s.clock ∧ (s.refuseNumber cause).setup = s.setup ∧
    (s.refuseNumber cause).coin = s.coin ∧ (s.refuseNumber cause).lever = s.lever ∧
    (s.refuseNumber cause).emitter = s.emitter ∧ (s.refuseNumber cause).hook = s.hook ∧
    (s.refuseNumber cause).records = s.records ∧ (s.refuseNumber cause).tamper = s.tamper ∧
    (s.refuseNumber cause).alarms = s.alarms ∧ (s.refuseNumber cause).report = s.report ∧
    (s.refuseNumber cause).cash = s.cash ∧ (s.refuseNumber cause).mailbox = s.mailbox ∧
    (s.refuseNumber cause).pending = s.pending := by
  simp [State.refuseNumber]

@[simp] theorem State.endNumber_frame (s : State) :
    s.endNumber.now = s.now ∧ s.endNumber.mem = s.mem ∧ s.endNumber.pins = s.pins ∧
    s.endNumber.power = s.power ∧ s.endNumber.clock = s.clock ∧ s.endNumber.setup = s.setup ∧
    s.endNumber.coin = s.coin ∧ s.endNumber.lever = s.lever ∧ s.endNumber.emitter = s.emitter ∧
    s.endNumber.hook = s.hook ∧ s.endNumber.records = s.records ∧ s.endNumber.tamper = s.tamper ∧
    s.endNumber.alarms = s.alarms ∧ s.endNumber.report = s.report ∧ s.endNumber.cash = s.cash ∧
    s.endNumber.path = s.path ∧ s.endNumber.mailbox = s.mailbox ∧ s.endNumber.pending = s.pending := by
  simp [State.endNumber]

@[simp] theorem State.preemptReport_frame (s : State) :
    s.preemptReport.now = s.now ∧ s.preemptReport.mem = s.mem ∧ s.preemptReport.pins = s.pins ∧
    s.preemptReport.power = s.power ∧ s.preemptReport.clock = s.clock ∧ s.preemptReport.setup = s.setup ∧
    s.preemptReport.coin = s.coin ∧ s.preemptReport.lever = s.lever ∧ s.preemptReport.number = s.number ∧
    s.preemptReport.hook = s.hook ∧ s.preemptReport.rating = s.rating ∧ s.preemptReport.tamper = s.tamper ∧
    s.preemptReport.mailbox = s.mailbox ∧ s.preemptReport.pending = s.pending := by
  simp only [State.preemptReport]
  (repeat' split) <;> simp

@[simp] theorem State.placeCustomer_frame (s : State) (cls : RequestClass) :
    (s.placeCustomer cls).now = s.now ∧ (s.placeCustomer cls).mem = s.mem ∧
    (s.placeCustomer cls).pins = s.pins ∧ (s.placeCustomer cls).power = s.power ∧
    (s.placeCustomer cls).clock = s.clock ∧ (s.placeCustomer cls).setup = s.setup ∧
    (s.placeCustomer cls).coin = s.coin ∧ (s.placeCustomer cls).lever = s.lever ∧
    (s.placeCustomer cls).number = s.number ∧ (s.placeCustomer cls).hook = s.hook ∧
    (s.placeCustomer cls).rating = s.rating ∧ (s.placeCustomer cls).tamper = s.tamper ∧
    (s.placeCustomer cls).mailbox = s.mailbox ∧ (s.placeCustomer cls).pending = s.pending := by
  simp only [State.placeCustomer]
  (repeat' split) <;> simp

@[simp] theorem State.toWaitLine_frame (s : State) :
    s.toWaitLine.now = s.now ∧ s.toWaitLine.mem = s.mem ∧ s.toWaitLine.pins = s.pins ∧
    s.toWaitLine.power = s.power ∧ s.toWaitLine.clock = s.clock ∧ s.toWaitLine.setup = s.setup ∧
    s.toWaitLine.coin = s.coin ∧ s.toWaitLine.lever = s.lever ∧ s.toWaitLine.hook = s.hook ∧
    s.toWaitLine.rating = s.rating ∧ s.toWaitLine.tamper = s.tamper ∧ s.toWaitLine.mailbox = s.mailbox ∧
    s.toWaitLine.pending = s.pending := by
  simp [State.toWaitLine]

@[simp] theorem State.toWaitDeposit_frame (s : State) :
    s.toWaitDeposit.now = s.now ∧ s.toWaitDeposit.mem = s.mem ∧ s.toWaitDeposit.pins = s.pins ∧
    s.toWaitDeposit.power = s.power ∧ s.toWaitDeposit.clock = s.clock ∧ s.toWaitDeposit.setup = s.setup ∧
    s.toWaitDeposit.coin = s.coin ∧ s.toWaitDeposit.lever = s.lever ∧ s.toWaitDeposit.emitter = s.emitter ∧
    s.toWaitDeposit.line = s.line ∧ s.toWaitDeposit.hook = s.hook ∧ s.toWaitDeposit.rating = s.rating ∧
    s.toWaitDeposit.records = s.records ∧ s.toWaitDeposit.tamper = s.tamper ∧
    s.toWaitDeposit.alarms = s.alarms ∧ s.toWaitDeposit.report = s.report ∧ s.toWaitDeposit.cash = s.cash ∧
    s.toWaitDeposit.path = s.path ∧ s.toWaitDeposit.mailbox = s.mailbox ∧
    s.toWaitDeposit.pending = s.pending := by
  simp [State.toWaitDeposit]

@[simp] theorem State.recheckDeposit_frame (s : State) :
    s.recheckDeposit.now = s.now ∧ s.recheckDeposit.mem = s.mem ∧ s.recheckDeposit.pins = s.pins ∧
    s.recheckDeposit.power = s.power ∧ s.recheckDeposit.clock = s.clock ∧ s.recheckDeposit.setup = s.setup ∧
    s.recheckDeposit.coin = s.coin ∧ s.recheckDeposit.lever = s.lever ∧ s.recheckDeposit.hook = s.hook ∧
    s.recheckDeposit.rating = s.rating ∧ s.recheckDeposit.tamper = s.tamper ∧
    s.recheckDeposit.mailbox = s.mailbox ∧ s.recheckDeposit.pending = s.pending := by
  simp only [State.recheckDeposit]
  (repeat' split) <;> simp

@[simp] theorem State.serviceLost_frame (s : State) :
    s.serviceLost.now = s.now ∧ s.serviceLost.mem = s.mem ∧ s.serviceLost.pins = s.pins ∧
    s.serviceLost.power = s.power ∧ s.serviceLost.clock = s.clock ∧ s.serviceLost.setup = s.setup ∧
    s.serviceLost.coin = s.coin ∧ s.serviceLost.lever = s.lever ∧ s.serviceLost.emitter = s.emitter ∧
    s.serviceLost.hook = s.hook ∧ s.serviceLost.records = s.records ∧ s.serviceLost.tamper = s.tamper ∧
    s.serviceLost.alarms = s.alarms ∧ s.serviceLost.report = s.report ∧ s.serviceLost.cash = s.cash ∧
    s.serviceLost.mailbox = s.mailbox ∧ s.serviceLost.pending = s.pending := by
  simp only [State.serviceLost]
  (repeat' split) <;> simp

@[simp] theorem State.creditChanged_frame (s : State) :
    s.creditChanged.now = s.now ∧ s.creditChanged.mem = s.mem ∧ s.creditChanged.pins = s.pins ∧
    s.creditChanged.power = s.power ∧ s.creditChanged.clock = s.clock ∧ s.creditChanged.setup = s.setup ∧
    s.creditChanged.coin = s.coin ∧ s.creditChanged.lever = s.lever ∧ s.creditChanged.hook = s.hook ∧
    s.creditChanged.rating = s.rating ∧ s.creditChanged.tamper = s.tamper ∧
    s.creditChanged.mailbox = s.mailbox ∧ s.creditChanged.pending = s.pending := by
  simp [State.creditChanged]

@[simp] theorem State.addReason_frame (s : State) (r : ServiceReason) :
    (s.addReason r).now = s.now ∧ (s.addReason r).mem = s.mem ∧ (s.addReason r).pins = s.pins ∧
    (s.addReason r).power = s.power ∧ (s.addReason r).clock = s.clock ∧ (s.addReason r).setup = s.setup ∧
    (s.addReason r).lever = s.lever ∧ (s.addReason r).emitter = s.emitter ∧ (s.addReason r).hook = s.hook ∧
    (s.addReason r).records = s.records ∧ (s.addReason r).tamper = s.tamper ∧
    (s.addReason r).alarms = s.alarms ∧ (s.addReason r).report = s.report ∧ (s.addReason r).cash = s.cash ∧
    (s.addReason r).mailbox = s.mailbox ∧ (s.addReason r).pending = s.pending := by
  simp only [State.addReason]
  (repeat' split) <;> simp

@[simp] theorem State.removeReason_frame (s : State) (r : ServiceReason) :
    (s.removeReason r).now = s.now ∧ (s.removeReason r).mem = s.mem ∧ (s.removeReason r).pins = s.pins ∧
    (s.removeReason r).power = s.power ∧ (s.removeReason r).clock = s.clock ∧
    (s.removeReason r).setup = s.setup ∧ (s.removeReason r).lever = s.lever ∧
    (s.removeReason r).number = s.number ∧ (s.removeReason r).emitter = s.emitter ∧
    (s.removeReason r).line = s.line ∧ (s.removeReason r).hook = s.hook ∧
    (s.removeReason r).rating = s.rating ∧ (s.removeReason r).records = s.records ∧
    (s.removeReason r).tamper = s.tamper ∧ (s.removeReason r).alarms = s.alarms ∧
    (s.removeReason r).report = s.report ∧ (s.removeReason r).cash = s.cash ∧
    (s.removeReason r).path = s.path ∧ (s.removeReason r).mailbox = s.mailbox ∧
    (s.removeReason r).pending = s.pending := by
  simp only [State.removeReason]
  (repeat' split) <;> simp

@[simp] theorem State.takeSymbol_frame (s : State) :
    s.takeSymbol.now = s.now ∧ s.takeSymbol.mem = s.mem ∧ s.takeSymbol.pins = s.pins ∧
    s.takeSymbol.power = s.power ∧ s.takeSymbol.clock = s.clock ∧ s.takeSymbol.setup = s.setup ∧
    s.takeSymbol.coin = s.coin ∧ s.takeSymbol.lever = s.lever ∧ s.takeSymbol.emitter = s.emitter ∧
    s.takeSymbol.line = s.line ∧ s.takeSymbol.hook = s.hook ∧ s.takeSymbol.rating = s.rating ∧
    s.takeSymbol.records = s.records ∧ s.takeSymbol.tamper = s.tamper ∧ s.takeSymbol.alarms = s.alarms ∧
    s.takeSymbol.report = s.report ∧ s.takeSymbol.cash = s.cash ∧ s.takeSymbol.status = s.status ∧
    s.takeSymbol.mailbox = s.mailbox ∧ s.takeSymbol.pending = s.pending := by
  simp only [State.takeSymbol]
  (repeat' split) <;> simp

@[simp] theorem State.dropUntaken_frame (s : State) :
    s.dropUntaken.now = s.now ∧ s.dropUntaken.mem = s.mem ∧ s.dropUntaken.pins = s.pins ∧
    s.dropUntaken.power = s.power ∧ s.dropUntaken.clock = s.clock ∧ s.dropUntaken.setup = s.setup ∧
    s.dropUntaken.coin = s.coin ∧ s.dropUntaken.lever = s.lever ∧ s.dropUntaken.emitter = s.emitter ∧
    s.dropUntaken.line = s.line ∧ s.dropUntaken.hook = s.hook ∧ s.dropUntaken.rating = s.rating ∧
    s.dropUntaken.records = s.records ∧ s.dropUntaken.tamper = s.tamper ∧ s.dropUntaken.alarms = s.alarms ∧
    s.dropUntaken.report = s.report ∧ s.dropUntaken.cash = s.cash ∧ s.dropUntaken.path = s.path ∧
    s.dropUntaken.mailbox = s.mailbox ∧ s.dropUntaken.pending = s.pending := by
  simp only [State.dropUntaken]
  (repeat' split) <;> simp

@[simp] theorem State.completeNumber_frame (s : State) :
    s.completeNumber.now = s.now ∧ s.completeNumber.mem = s.mem ∧ s.completeNumber.pins = s.pins ∧
    s.completeNumber.power = s.power ∧ s.completeNumber.clock = s.clock ∧ s.completeNumber.setup = s.setup ∧
    s.completeNumber.coin = s.coin ∧ s.completeNumber.lever = s.lever ∧
    s.completeNumber.emitter = s.emitter ∧ s.completeNumber.line = s.line ∧ s.completeNumber.hook = s.hook ∧
    s.completeNumber.records = s.records ∧ s.completeNumber.tamper = s.tamper ∧
    s.completeNumber.alarms = s.alarms ∧ s.completeNumber.report = s.report ∧
    s.completeNumber.cash = s.cash ∧ s.completeNumber.mailbox = s.mailbox ∧
    s.completeNumber.pending = s.pending := by
  simp [State.completeNumber]

@[simp] theorem State.decideExpiry_frame (s : State) :
    s.decideExpiry.now = s.now ∧ s.decideExpiry.mem = s.mem ∧ s.decideExpiry.pins = s.pins ∧
    s.decideExpiry.power = s.power ∧ s.decideExpiry.clock = s.clock ∧ s.decideExpiry.setup = s.setup ∧
    s.decideExpiry.coin = s.coin ∧ s.decideExpiry.lever = s.lever ∧ s.decideExpiry.emitter = s.emitter ∧
    s.decideExpiry.hook = s.hook ∧ s.decideExpiry.records = s.records ∧ s.decideExpiry.tamper = s.tamper ∧
    s.decideExpiry.alarms = s.alarms ∧ s.decideExpiry.report = s.report ∧ s.decideExpiry.cash = s.cash ∧
    s.decideExpiry.mailbox = s.mailbox ∧ s.decideExpiry.pending = s.pending := by
  simp only [State.decideExpiry]
  (repeat' split) <;> simp

@[simp] theorem State.judgeMatch_frame (s : State) :
    s.judgeMatch.now = s.now ∧ s.judgeMatch.mem = s.mem ∧ s.judgeMatch.pins = s.pins ∧
    s.judgeMatch.power = s.power ∧ s.judgeMatch.clock = s.clock ∧ s.judgeMatch.setup = s.setup ∧
    s.judgeMatch.coin = s.coin ∧ s.judgeMatch.lever = s.lever ∧ s.judgeMatch.emitter = s.emitter ∧
    s.judgeMatch.hook = s.hook ∧ s.judgeMatch.records = s.records ∧ s.judgeMatch.tamper = s.tamper ∧
    s.judgeMatch.alarms = s.alarms ∧ s.judgeMatch.report = s.report ∧ s.judgeMatch.cash = s.cash ∧
    s.judgeMatch.mailbox = s.mailbox ∧ s.judgeMatch.pending = s.pending := by
  simp only [State.judgeMatch]
  (repeat' split) <;> simp

@[simp] theorem State.prefixMatchDone_frame (s : State) (digits : List Nat) (ws : List Word) (discarded : Bool) :
    (s.prefixMatchDone digits ws discarded).now = s.now ∧
    (s.prefixMatchDone digits ws discarded).mem = s.mem ∧
    (s.prefixMatchDone digits ws discarded).pins = s.pins ∧
    (s.prefixMatchDone digits ws discarded).power = s.power ∧
    (s.prefixMatchDone digits ws discarded).clock = s.clock ∧
    (s.prefixMatchDone digits ws discarded).setup = s.setup ∧
    (s.prefixMatchDone digits ws discarded).coin = s.coin ∧
    (s.prefixMatchDone digits ws discarded).lever = s.lever ∧
    (s.prefixMatchDone digits ws discarded).emitter = s.emitter ∧
    (s.prefixMatchDone digits ws discarded).hook = s.hook ∧
    (s.prefixMatchDone digits ws discarded).records = s.records ∧
    (s.prefixMatchDone digits ws discarded).tamper = s.tamper ∧
    (s.prefixMatchDone digits ws discarded).alarms = s.alarms ∧
    (s.prefixMatchDone digits ws discarded).report = s.report ∧
    (s.prefixMatchDone digits ws discarded).cash = s.cash ∧
    (s.prefixMatchDone digits ws discarded).mailbox = s.mailbox ∧
    (s.prefixMatchDone digits ws discarded).pending = s.pending := by
  simp only [State.prefixMatchDone]
  (repeat' split) <;> simp

@[simp] theorem State.interDigitExpired_frame (s : State) :
    s.interDigitExpired.now = s.now ∧ s.interDigitExpired.mem = s.mem ∧ s.interDigitExpired.pins = s.pins ∧
    s.interDigitExpired.power = s.power ∧ s.interDigitExpired.clock = s.clock ∧
    s.interDigitExpired.setup = s.setup ∧ s.interDigitExpired.coin = s.coin ∧
    s.interDigitExpired.lever = s.lever ∧ s.interDigitExpired.emitter = s.emitter ∧
    s.interDigitExpired.hook = s.hook ∧ s.interDigitExpired.records = s.records ∧
    s.interDigitExpired.tamper = s.tamper ∧ s.interDigitExpired.alarms = s.alarms ∧
    s.interDigitExpired.report = s.report ∧ s.interDigitExpired.cash = s.cash ∧
    s.interDigitExpired.mailbox = s.mailbox ∧ s.interDigitExpired.pending = s.pending := by
  simp only [State.interDigitExpired]
  (repeat' split) <;> simp

@[simp] theorem State.appendSymbol_frame (s : State) (code : Nat) :
    (s.appendSymbol code).now = s.now ∧ (s.appendSymbol code).mem = s.mem ∧
    (s.appendSymbol code).pins = s.pins ∧ (s.appendSymbol code).power = s.power ∧
    (s.appendSymbol code).clock = s.clock ∧ (s.appendSymbol code).setup = s.setup ∧
    (s.appendSymbol code).coin = s.coin ∧ (s.appendSymbol code).lever = s.lever ∧
    (s.appendSymbol code).emitter = s.emitter ∧ (s.appendSymbol code).line = s.line ∧
    (s.appendSymbol code).hook = s.hook ∧ (s.appendSymbol code).rating = s.rating ∧
    (s.appendSymbol code).records = s.records ∧ (s.appendSymbol code).tamper = s.tamper ∧
    (s.appendSymbol code).alarms = s.alarms ∧ (s.appendSymbol code).report = s.report ∧
    (s.appendSymbol code).cash = s.cash ∧ (s.appendSymbol code).path = s.path ∧
    (s.appendSymbol code).mailbox = s.mailbox ∧ (s.appendSymbol code).pending = s.pending := by
  simp [State.appendSymbol]

@[simp] theorem State.startInterDigit_frame (s : State) :
    s.startInterDigit.now = s.now ∧ s.startInterDigit.mem = s.mem ∧ s.startInterDigit.pins = s.pins ∧
    s.startInterDigit.power = s.power ∧ s.startInterDigit.clock = s.clock ∧
    s.startInterDigit.setup = s.setup ∧ s.startInterDigit.coin = s.coin ∧
    s.startInterDigit.lever = s.lever ∧ s.startInterDigit.emitter = s.emitter ∧
    s.startInterDigit.line = s.line ∧ s.startInterDigit.hook = s.hook ∧
    s.startInterDigit.rating = s.rating ∧ s.startInterDigit.records = s.records ∧
    s.startInterDigit.tamper = s.tamper ∧ s.startInterDigit.alarms = s.alarms ∧
    s.startInterDigit.report = s.report ∧ s.startInterDigit.cash = s.cash ∧
    s.startInterDigit.path = s.path ∧ s.startInterDigit.status = s.status ∧
    s.startInterDigit.mailbox = s.mailbox ∧ s.startInterDigit.pending = s.pending := by
  simp [State.startInterDigit]

@[simp] theorem State.startNumber_frame (s : State) (code : Nat) :
    (s.startNumber code).now = s.now ∧ (s.startNumber code).mem = s.mem ∧
    (s.startNumber code).pins = s.pins ∧ (s.startNumber code).power = s.power ∧
    (s.startNumber code).clock = s.clock ∧ (s.startNumber code).setup = s.setup ∧
    (s.startNumber code).coin = s.coin ∧ (s.startNumber code).lever = s.lever ∧
    (s.startNumber code).emitter = s.emitter ∧ (s.startNumber code).line = s.line ∧
    (s.startNumber code).hook = s.hook ∧ (s.startNumber code).rating = s.rating ∧
    (s.startNumber code).records = s.records ∧ (s.startNumber code).tamper = s.tamper ∧
    (s.startNumber code).alarms = s.alarms ∧ (s.startNumber code).report = s.report ∧
    (s.startNumber code).cash = s.cash ∧ (s.startNumber code).mailbox = s.mailbox ∧
    (s.startNumber code).pending = s.pending := by
  simp [State.startNumber]

@[simp] theorem State.postSymbol_frame (s : State) (code : Nat) :
    (s.postSymbol code).now = s.now ∧ (s.postSymbol code).mem = s.mem ∧ (s.postSymbol code).pins = s.pins ∧
    (s.postSymbol code).power = s.power ∧ (s.postSymbol code).clock = s.clock ∧
    (s.postSymbol code).setup = s.setup ∧ (s.postSymbol code).coin = s.coin ∧
    (s.postSymbol code).lever = s.lever ∧ (s.postSymbol code).emitter = s.emitter ∧
    (s.postSymbol code).line = s.line ∧ (s.postSymbol code).hook = s.hook ∧
    (s.postSymbol code).rating = s.rating ∧ (s.postSymbol code).records = s.records ∧
    (s.postSymbol code).tamper = s.tamper ∧ (s.postSymbol code).alarms = s.alarms ∧
    (s.postSymbol code).report = s.report ∧ (s.postSymbol code).cash = s.cash ∧
    (s.postSymbol code).mailbox = s.mailbox ∧ (s.postSymbol code).pending = s.pending := by
  simp only [State.postSymbol]
  (repeat' split) <;> simp

@[simp] theorem State.storeKind_frame (s : State) (k : ZoneKind) :
    (s.storeKind k).now = s.now ∧ (s.storeKind k).mem = s.mem ∧ (s.storeKind k).pins = s.pins ∧
    (s.storeKind k).power = s.power ∧ (s.storeKind k).clock = s.clock ∧ (s.storeKind k).setup = s.setup ∧
    (s.storeKind k).coin = s.coin ∧ (s.storeKind k).lever = s.lever ∧ (s.storeKind k).emitter = s.emitter ∧
    (s.storeKind k).line = s.line ∧ (s.storeKind k).hook = s.hook ∧ (s.storeKind k).records = s.records ∧
    (s.storeKind k).tamper = s.tamper ∧ (s.storeKind k).alarms = s.alarms ∧
    (s.storeKind k).report = s.report ∧ (s.storeKind k).cash = s.cash ∧ (s.storeKind k).path = s.path ∧
    (s.storeKind k).status = s.status ∧ (s.storeKind k).mailbox = s.mailbox ∧
    (s.storeKind k).pending = s.pending := by
  simp [State.storeKind]

@[simp] theorem State.beginSnapshot_frame (s : State) (entry : List Word) :
    (s.beginSnapshot entry).now = s.now ∧ (s.beginSnapshot entry).mem = s.mem ∧
    (s.beginSnapshot entry).pins = s.pins ∧ (s.beginSnapshot entry).power = s.power ∧
    (s.beginSnapshot entry).clock = s.clock ∧ (s.beginSnapshot entry).setup = s.setup ∧
    (s.beginSnapshot entry).coin = s.coin ∧ (s.beginSnapshot entry).lever = s.lever ∧
    (s.beginSnapshot entry).number = s.number ∧ (s.beginSnapshot entry).emitter = s.emitter ∧
    (s.beginSnapshot entry).line = s.line ∧ (s.beginSnapshot entry).hook = s.hook ∧
    (s.beginSnapshot entry).records = s.records ∧ (s.beginSnapshot entry).tamper = s.tamper ∧
    (s.beginSnapshot entry).alarms = s.alarms ∧ (s.beginSnapshot entry).report = s.report ∧
    (s.beginSnapshot entry).cash = s.cash ∧ (s.beginSnapshot entry).status = s.status ∧
    (s.beginSnapshot entry).mailbox = s.mailbox ∧ (s.beginSnapshot entry).pending = s.pending := by
  simp [State.beginSnapshot]

@[simp] theorem State.checkPaidEntry_frame (s : State) (entry : List Word) :
    (s.checkPaidEntry entry).now = s.now ∧ (s.checkPaidEntry entry).mem = s.mem ∧
    (s.checkPaidEntry entry).pins = s.pins ∧ (s.checkPaidEntry entry).power = s.power ∧
    (s.checkPaidEntry entry).clock = s.clock ∧ (s.checkPaidEntry entry).setup = s.setup ∧
    (s.checkPaidEntry entry).coin = s.coin ∧ (s.checkPaidEntry entry).lever = s.lever ∧
    (s.checkPaidEntry entry).emitter = s.emitter ∧ (s.checkPaidEntry entry).hook = s.hook ∧
    (s.checkPaidEntry entry).records = s.records ∧ (s.checkPaidEntry entry).tamper = s.tamper ∧
    (s.checkPaidEntry entry).alarms = s.alarms ∧ (s.checkPaidEntry entry).report = s.report ∧
    (s.checkPaidEntry entry).cash = s.cash ∧ (s.checkPaidEntry entry).mailbox = s.mailbox ∧
    (s.checkPaidEntry entry).pending = s.pending := by
  simp only [State.checkPaidEntry]
  (repeat' split) <;> simp

@[simp] theorem State.checkEntry_frame (s : State) (entry : List Word) :
    (s.checkEntry entry).now = s.now ∧ (s.checkEntry entry).mem = s.mem ∧
    (s.checkEntry entry).pins = s.pins ∧ (s.checkEntry entry).power = s.power ∧
    (s.checkEntry entry).clock = s.clock ∧ (s.checkEntry entry).setup = s.setup ∧
    (s.checkEntry entry).coin = s.coin ∧ (s.checkEntry entry).lever = s.lever ∧
    (s.checkEntry entry).hook = s.hook ∧ (s.checkEntry entry).tamper = s.tamper ∧
    (s.checkEntry entry).mailbox = s.mailbox ∧ (s.checkEntry entry).pending = s.pending := by
  simp only [State.checkEntry]
  (repeat' split) <;> simp

@[simp] theorem State.zoneEntryDone_frame (s : State) (entry : List Word) (discarded : Bool) :
    (s.zoneEntryDone entry discarded).now = s.now ∧ (s.zoneEntryDone entry discarded).mem = s.mem ∧
    (s.zoneEntryDone entry discarded).pins = s.pins ∧ (s.zoneEntryDone entry discarded).power = s.power ∧
    (s.zoneEntryDone entry discarded).clock = s.clock ∧ (s.zoneEntryDone entry discarded).setup = s.setup ∧
    (s.zoneEntryDone entry discarded).coin = s.coin ∧ (s.zoneEntryDone entry discarded).lever = s.lever ∧
    (s.zoneEntryDone entry discarded).hook = s.hook ∧ (s.zoneEntryDone entry discarded).tamper = s.tamper ∧
    (s.zoneEntryDone entry discarded).mailbox = s.mailbox ∧
    (s.zoneEntryDone entry discarded).pending = s.pending := by
  simp only [State.zoneEntryDone]
  (repeat' split) <;> simp

@[simp] theorem State.checkDeposit_frame (s : State) (d : Nat) :
    (s.checkDeposit d).now = s.now ∧ (s.checkDeposit d).mem = s.mem ∧ (s.checkDeposit d).pins = s.pins ∧
    (s.checkDeposit d).power = s.power ∧ (s.checkDeposit d).clock = s.clock ∧
    (s.checkDeposit d).setup = s.setup ∧ (s.checkDeposit d).coin = s.coin ∧
    (s.checkDeposit d).lever = s.lever ∧ (s.checkDeposit d).hook = s.hook ∧
    (s.checkDeposit d).tamper = s.tamper ∧ (s.checkDeposit d).mailbox = s.mailbox ∧
    (s.checkDeposit d).pending = s.pending := by
  simp only [State.checkDeposit]
  (repeat' split) <;> simp

@[simp] theorem State.storeSnapshot_frame (s : State) (snap : Snapshot) (flags : RatingFlags) :
    (s.storeSnapshot snap flags).now = s.now ∧ (s.storeSnapshot snap flags).mem = s.mem ∧
    (s.storeSnapshot snap flags).pins = s.pins ∧ (s.storeSnapshot snap flags).power = s.power ∧
    (s.storeSnapshot snap flags).clock = s.clock ∧ (s.storeSnapshot snap flags).setup = s.setup ∧
    (s.storeSnapshot snap flags).coin = s.coin ∧ (s.storeSnapshot snap flags).lever = s.lever ∧
    (s.storeSnapshot snap flags).number = s.number ∧ (s.storeSnapshot snap flags).emitter = s.emitter ∧
    (s.storeSnapshot snap flags).line = s.line ∧ (s.storeSnapshot snap flags).hook = s.hook ∧
    (s.storeSnapshot snap flags).records = s.records ∧ (s.storeSnapshot snap flags).tamper = s.tamper ∧
    (s.storeSnapshot snap flags).alarms = s.alarms ∧ (s.storeSnapshot snap flags).report = s.report ∧
    (s.storeSnapshot snap flags).cash = s.cash ∧ (s.storeSnapshot snap flags).path = s.path ∧
    (s.storeSnapshot snap flags).status = s.status ∧ (s.storeSnapshot snap flags).mailbox = s.mailbox ∧
    (s.storeSnapshot snap flags).pending = s.pending := by
  simp [State.storeSnapshot]

@[simp] theorem State.snapshotDone_frame (s : State) (entry words : List Word) (discarded : Bool) :
    (s.snapshotDone entry words discarded).now = s.now ∧
    (s.snapshotDone entry words discarded).mem = s.mem ∧
    (s.snapshotDone entry words discarded).pins = s.pins ∧
    (s.snapshotDone entry words discarded).power = s.power ∧
    (s.snapshotDone entry words discarded).clock = s.clock ∧
    (s.snapshotDone entry words discarded).setup = s.setup ∧
    (s.snapshotDone entry words discarded).coin = s.coin ∧
    (s.snapshotDone entry words discarded).lever = s.lever ∧
    (s.snapshotDone entry words discarded).hook = s.hook ∧
    (s.snapshotDone entry words discarded).tamper = s.tamper ∧
    (s.snapshotDone entry words discarded).mailbox = s.mailbox ∧
    (s.snapshotDone entry words discarded).pending = s.pending := by
  simp only [State.snapshotDone]
  (repeat' split) <;> simp

@[simp] theorem State.beginItem_frame (s : State) (item : EmitterItem) (ms : Nat) :
    (s.beginItem item ms).now = s.now ∧ (s.beginItem item ms).mem = s.mem ∧
    (s.beginItem item ms).pins = s.pins ∧ (s.beginItem item ms).power = s.power ∧
    (s.beginItem item ms).clock = s.clock ∧ (s.beginItem item ms).setup = s.setup ∧
    (s.beginItem item ms).coin = s.coin ∧ (s.beginItem item ms).lever = s.lever ∧
    (s.beginItem item ms).number = s.number ∧ (s.beginItem item ms).line = s.line ∧
    (s.beginItem item ms).hook = s.hook ∧ (s.beginItem item ms).rating = s.rating ∧
    (s.beginItem item ms).records = s.records ∧ (s.beginItem item ms).tamper = s.tamper ∧
    (s.beginItem item ms).alarms = s.alarms ∧ (s.beginItem item ms).report = s.report ∧
    (s.beginItem item ms).cash = s.cash ∧ (s.beginItem item ms).path = s.path ∧
    (s.beginItem item ms).status = s.status ∧ (s.beginItem item ms).mailbox = s.mailbox ∧
    (s.beginItem item ms).pending = s.pending := by
  simp [State.beginItem]

@[simp] theorem State.beginTone_frame (s : State) (code : Nat) (use : ItemUse) :
    (s.beginTone code use).now = s.now ∧ (s.beginTone code use).mem = s.mem ∧
    (s.beginTone code use).pins = s.pins ∧ (s.beginTone code use).power = s.power ∧
    (s.beginTone code use).clock = s.clock ∧ (s.beginTone code use).setup = s.setup ∧
    (s.beginTone code use).coin = s.coin ∧ (s.beginTone code use).lever = s.lever ∧
    (s.beginTone code use).number = s.number ∧ (s.beginTone code use).line = s.line ∧
    (s.beginTone code use).hook = s.hook ∧ (s.beginTone code use).rating = s.rating ∧
    (s.beginTone code use).records = s.records ∧ (s.beginTone code use).tamper = s.tamper ∧
    (s.beginTone code use).alarms = s.alarms ∧ (s.beginTone code use).report = s.report ∧
    (s.beginTone code use).cash = s.cash ∧ (s.beginTone code use).path = s.path ∧
    (s.beginTone code use).status = s.status ∧ (s.beginTone code use).mailbox = s.mailbox ∧
    (s.beginTone code use).pending = s.pending := by
  simp [State.beginTone]

@[simp] theorem State.beginDigit_frame (s : State) (code : Nat) (use : ItemUse) :
    (s.beginDigit code use).now = s.now ∧ (s.beginDigit code use).mem = s.mem ∧
    (s.beginDigit code use).pins = s.pins ∧ (s.beginDigit code use).power = s.power ∧
    (s.beginDigit code use).clock = s.clock ∧ (s.beginDigit code use).setup = s.setup ∧
    (s.beginDigit code use).coin = s.coin ∧ (s.beginDigit code use).lever = s.lever ∧
    (s.beginDigit code use).number = s.number ∧ (s.beginDigit code use).line = s.line ∧
    (s.beginDigit code use).hook = s.hook ∧ (s.beginDigit code use).rating = s.rating ∧
    (s.beginDigit code use).records = s.records ∧ (s.beginDigit code use).tamper = s.tamper ∧
    (s.beginDigit code use).alarms = s.alarms ∧ (s.beginDigit code use).report = s.report ∧
    (s.beginDigit code use).cash = s.cash ∧ (s.beginDigit code use).path = s.path ∧
    (s.beginDigit code use).status = s.status ∧ (s.beginDigit code use).mailbox = s.mailbox ∧
    (s.beginDigit code use).pending = s.pending := by
  simp only [State.beginDigit]
  (repeat' split) <;> simp

@[simp] theorem State.beginPip_frame (s : State) :
    s.beginPip.now = s.now ∧ s.beginPip.mem = s.mem ∧ s.beginPip.pins = s.pins ∧
    s.beginPip.power = s.power ∧ s.beginPip.clock = s.clock ∧ s.beginPip.setup = s.setup ∧
    s.beginPip.coin = s.coin ∧ s.beginPip.lever = s.lever ∧ s.beginPip.number = s.number ∧
    s.beginPip.line = s.line ∧ s.beginPip.hook = s.hook ∧ s.beginPip.rating = s.rating ∧
    s.beginPip.records = s.records ∧ s.beginPip.tamper = s.tamper ∧ s.beginPip.alarms = s.alarms ∧
    s.beginPip.report = s.report ∧ s.beginPip.cash = s.cash ∧ s.beginPip.path = s.path ∧
    s.beginPip.status = s.status ∧ s.beginPip.mailbox = s.mailbox ∧ s.beginPip.pending = s.pending := by
  simp [State.beginPip]

@[simp] theorem State.shiftFifo_frame (s : State) :
    s.shiftFifo.now = s.now ∧ s.shiftFifo.mem = s.mem ∧ s.shiftFifo.pins = s.pins ∧
    s.shiftFifo.power = s.power ∧ s.shiftFifo.clock = s.clock ∧ s.shiftFifo.setup = s.setup ∧
    s.shiftFifo.coin = s.coin ∧ s.shiftFifo.lever = s.lever ∧ s.shiftFifo.emitter = s.emitter ∧
    s.shiftFifo.line = s.line ∧ s.shiftFifo.hook = s.hook ∧ s.shiftFifo.rating = s.rating ∧
    s.shiftFifo.records = s.records ∧ s.shiftFifo.tamper = s.tamper ∧ s.shiftFifo.alarms = s.alarms ∧
    s.shiftFifo.report = s.report ∧ s.shiftFifo.cash = s.cash ∧ s.shiftFifo.path = s.path ∧
    s.shiftFifo.mailbox = s.mailbox ∧ s.shiftFifo.pending = s.pending := by
  simp [State.shiftFifo]

@[simp] theorem State.nextCustomerItem_frame (s : State) :
    s.nextCustomerItem.now = s.now ∧ s.nextCustomerItem.mem = s.mem ∧ s.nextCustomerItem.pins = s.pins ∧
    s.nextCustomerItem.power = s.power ∧ s.nextCustomerItem.clock = s.clock ∧
    s.nextCustomerItem.setup = s.setup ∧ s.nextCustomerItem.coin = s.coin ∧
    s.nextCustomerItem.lever = s.lever ∧ s.nextCustomerItem.line = s.line ∧
    s.nextCustomerItem.hook = s.hook ∧ s.nextCustomerItem.rating = s.rating ∧
    s.nextCustomerItem.records = s.records ∧ s.nextCustomerItem.tamper = s.tamper ∧
    s.nextCustomerItem.alarms = s.alarms ∧ s.nextCustomerItem.report = s.report ∧
    s.nextCustomerItem.cash = s.cash ∧ s.nextCustomerItem.path = s.path ∧
    s.nextCustomerItem.mailbox = s.mailbox ∧ s.nextCustomerItem.pending = s.pending := by
  simp only [State.nextCustomerItem]
  (repeat' split) <;> simp

@[simp] theorem State.nextReportItem_frame (s : State) :
    s.nextReportItem.now = s.now ∧ s.nextReportItem.mem = s.mem ∧ s.nextReportItem.pins = s.pins ∧
    s.nextReportItem.power = s.power ∧ s.nextReportItem.clock = s.clock ∧ s.nextReportItem.setup = s.setup ∧
    s.nextReportItem.coin = s.coin ∧ s.nextReportItem.lever = s.lever ∧ s.nextReportItem.number = s.number ∧
    s.nextReportItem.line = s.line ∧ s.nextReportItem.hook = s.hook ∧ s.nextReportItem.rating = s.rating ∧
    s.nextReportItem.records = s.records ∧ s.nextReportItem.tamper = s.tamper ∧
    s.nextReportItem.alarms = s.alarms ∧ s.nextReportItem.cash = s.cash ∧ s.nextReportItem.path = s.path ∧
    s.nextReportItem.status = s.status ∧ s.nextReportItem.mailbox = s.mailbox ∧
    s.nextReportItem.pending = s.pending := by
  simp only [State.nextReportItem]
  (repeat' split) <;> simp

@[simp] theorem State.emitNext_frame (s : State) :
    s.emitNext.now = s.now ∧ s.emitNext.mem = s.mem ∧ s.emitNext.pins = s.pins ∧
    s.emitNext.power = s.power ∧ s.emitNext.clock = s.clock ∧ s.emitNext.setup = s.setup ∧
    s.emitNext.coin = s.coin ∧ s.emitNext.lever = s.lever ∧ s.emitNext.line = s.line ∧
    s.emitNext.hook = s.hook ∧ s.emitNext.rating = s.rating ∧ s.emitNext.records = s.records ∧
    s.emitNext.tamper = s.tamper ∧ s.emitNext.alarms = s.alarms ∧ s.emitNext.cash = s.cash ∧
    s.emitNext.path = s.path ∧ s.emitNext.mailbox = s.mailbox ∧ s.emitNext.pending = s.pending := by
  simp only [State.emitNext]
  (repeat' split) <;> simp

@[simp] theorem State.clearItem_frame (s : State) :
    s.clearItem.now = s.now ∧ s.clearItem.mem = s.mem ∧ s.clearItem.pins = s.pins ∧
    s.clearItem.power = s.power ∧ s.clearItem.clock = s.clock ∧ s.clearItem.setup = s.setup ∧
    s.clearItem.coin = s.coin ∧ s.clearItem.lever = s.lever ∧ s.clearItem.number = s.number ∧
    s.clearItem.line = s.line ∧ s.clearItem.hook = s.hook ∧ s.clearItem.rating = s.rating ∧
    s.clearItem.records = s.records ∧ s.clearItem.tamper = s.tamper ∧ s.clearItem.alarms = s.alarms ∧
    s.clearItem.report = s.report ∧ s.clearItem.cash = s.cash ∧ s.clearItem.path = s.path ∧
    s.clearItem.status = s.status ∧ s.clearItem.mailbox = s.mailbox ∧ s.clearItem.pending = s.pending := by
  simp [State.clearItem]

@[simp] theorem State.pipFallsDue_frame (s : State) (moment : Nat) :
    (s.pipFallsDue moment).now = s.now ∧ (s.pipFallsDue moment).mem = s.mem ∧
    (s.pipFallsDue moment).pins = s.pins ∧ (s.pipFallsDue moment).power = s.power ∧
    (s.pipFallsDue moment).clock = s.clock ∧ (s.pipFallsDue moment).setup = s.setup ∧
    (s.pipFallsDue moment).coin = s.coin ∧ (s.pipFallsDue moment).lever = s.lever ∧
    (s.pipFallsDue moment).line = s.line ∧ (s.pipFallsDue moment).hook = s.hook ∧
    (s.pipFallsDue moment).rating = s.rating ∧ (s.pipFallsDue moment).records = s.records ∧
    (s.pipFallsDue moment).tamper = s.tamper ∧ (s.pipFallsDue moment).alarms = s.alarms ∧
    (s.pipFallsDue moment).cash = s.cash ∧ (s.pipFallsDue moment).path = s.path ∧
    (s.pipFallsDue moment).mailbox = s.mailbox ∧ (s.pipFallsDue moment).pending = s.pending := by
  simp [State.pipFallsDue]

@[simp] theorem State.endPips_frame (s : State) :
    s.endPips.now = s.now ∧ s.endPips.mem = s.mem ∧ s.endPips.pins = s.pins ∧ s.endPips.power = s.power ∧
    s.endPips.clock = s.clock ∧ s.endPips.setup = s.setup ∧ s.endPips.coin = s.coin ∧
    s.endPips.lever = s.lever ∧ s.endPips.number = s.number ∧ s.endPips.line = s.line ∧
    s.endPips.hook = s.hook ∧ s.endPips.rating = s.rating ∧ s.endPips.records = s.records ∧
    s.endPips.tamper = s.tamper ∧ s.endPips.alarms = s.alarms ∧ s.endPips.report = s.report ∧
    s.endPips.cash = s.cash ∧ s.endPips.path = s.path ∧ s.endPips.status = s.status ∧
    s.endPips.mailbox = s.mailbox ∧ s.endPips.pending = s.pending := by
  simp [State.endPips]

@[simp] theorem State.trapCheck_frame (s : State) (flags : RatingFlags) :
    (s.trapCheck flags).now = s.now ∧ (s.trapCheck flags).mem = s.mem ∧ (s.trapCheck flags).pins = s.pins ∧
    (s.trapCheck flags).power = s.power ∧ (s.trapCheck flags).clock = s.clock ∧
    (s.trapCheck flags).setup = s.setup ∧ (s.trapCheck flags).coin = s.coin ∧
    (s.trapCheck flags).lever = s.lever ∧ (s.trapCheck flags).number = s.number ∧
    (s.trapCheck flags).emitter = s.emitter ∧ (s.trapCheck flags).hook = s.hook ∧
    (s.trapCheck flags).rating = s.rating ∧ (s.trapCheck flags).records = s.records ∧
    (s.trapCheck flags).tamper = s.tamper ∧ (s.trapCheck flags).mailbox = s.mailbox ∧
    (s.trapCheck flags).pending = s.pending := by
  simp only [State.trapCheck]
  (repeat' split) <;> simp

@[simp] theorem State.clearMirror_frame (s : State) :
    s.clearMirror.now = s.now ∧ s.clearMirror.mem = s.mem ∧ s.clearMirror.pins = s.pins ∧
    s.clearMirror.power = s.power ∧ s.clearMirror.clock = s.clock ∧ s.clearMirror.setup = s.setup ∧
    s.clearMirror.coin = s.coin ∧ s.clearMirror.lever = s.lever ∧ s.clearMirror.number = s.number ∧
    s.clearMirror.emitter = s.emitter ∧ s.clearMirror.line = s.line ∧ s.clearMirror.hook = s.hook ∧
    s.clearMirror.rating = s.rating ∧ s.clearMirror.records = s.records ∧ s.clearMirror.tamper = s.tamper ∧
    s.clearMirror.alarms = s.alarms ∧ s.clearMirror.report = s.report ∧ s.clearMirror.status = s.status ∧
    s.clearMirror.mailbox = s.mailbox ∧ s.clearMirror.pending = s.pending := by
  simp only [State.clearMirror]
  (repeat' split) <;> simp

@[simp] theorem State.numberAfterCall_frame (s : State)  (x0 : EndCause) :
    (s.numberAfterCall x0).now = s.now ∧ (s.numberAfterCall x0).mem = s.mem ∧
    (s.numberAfterCall x0).pins = s.pins ∧ (s.numberAfterCall x0).power = s.power ∧
    (s.numberAfterCall x0).clock = s.clock ∧ (s.numberAfterCall x0).setup = s.setup ∧
    (s.numberAfterCall x0).coin = s.coin ∧ (s.numberAfterCall x0).lever = s.lever ∧
    (s.numberAfterCall x0).emitter = s.emitter ∧ (s.numberAfterCall x0).hook = s.hook ∧
    (s.numberAfterCall x0).records = s.records ∧ (s.numberAfterCall x0).tamper = s.tamper ∧
    (s.numberAfterCall x0).alarms = s.alarms ∧ (s.numberAfterCall x0).report = s.report ∧
    (s.numberAfterCall x0).cash = s.cash ∧ (s.numberAfterCall x0).mailbox = s.mailbox ∧
    (s.numberAfterCall x0).pending = s.pending := by
  cases x0 <;> simp [State.numberAfterCall]

@[simp] theorem State.endCall_frame (s : State) (cause : EndCause) :
    (s.endCall cause).now = s.now ∧ (s.endCall cause).mem = s.mem ∧ (s.endCall cause).pins = s.pins ∧
    (s.endCall cause).power = s.power ∧ (s.endCall cause).clock = s.clock ∧
    (s.endCall cause).setup = s.setup ∧ (s.endCall cause).coin = s.coin ∧
    (s.endCall cause).lever = s.lever ∧ (s.endCall cause).hook = s.hook ∧
    (s.endCall cause).tamper = s.tamper ∧ (s.endCall cause).mailbox = s.mailbox ∧
    (s.endCall cause).pending = s.pending := by
  simp [State.endCall]

@[simp] theorem State.endCustomerCall_frame (s : State) (cause : EndCause) :
    (s.endCustomerCall cause).now = s.now ∧ (s.endCustomerCall cause).mem = s.mem ∧
    (s.endCustomerCall cause).pins = s.pins ∧ (s.endCustomerCall cause).power = s.power ∧
    (s.endCustomerCall cause).clock = s.clock ∧ (s.endCustomerCall cause).setup = s.setup ∧
    (s.endCustomerCall cause).coin = s.coin ∧ (s.endCustomerCall cause).lever = s.lever ∧
    (s.endCustomerCall cause).hook = s.hook ∧ (s.endCustomerCall cause).tamper = s.tamper ∧
    (s.endCustomerCall cause).mailbox = s.mailbox ∧ (s.endCustomerCall cause).pending = s.pending := by
  simp only [State.endCustomerCall]
  (repeat' split) <;> simp

@[simp] theorem State.startOp_frame (s : State) (op : EscrowOp) (drive : Actuator) :
    (s.startOp op drive).now = s.now ∧ (s.startOp op drive).mem = s.mem ∧
    (s.startOp op drive).pins = s.pins ∧ (s.startOp op drive).power = s.power ∧
    (s.startOp op drive).clock = s.clock ∧ (s.startOp op drive).setup = s.setup ∧
    (s.startOp op drive).lever = s.lever ∧ (s.startOp op drive).number = s.number ∧
    (s.startOp op drive).emitter = s.emitter ∧ (s.startOp op drive).line = s.line ∧
    (s.startOp op drive).hook = s.hook ∧ (s.startOp op drive).rating = s.rating ∧
    (s.startOp op drive).records = s.records ∧ (s.startOp op drive).tamper = s.tamper ∧
    (s.startOp op drive).alarms = s.alarms ∧ (s.startOp op drive).report = s.report ∧
    (s.startOp op drive).cash = s.cash ∧ (s.startOp op drive).path = s.path ∧
    (s.startOp op drive).status = s.status ∧ (s.startOp op drive).mailbox = s.mailbox ∧
    (s.startOp op drive).pending = s.pending := by
  simp [State.startOp]

@[simp] theorem State.startCollect_frame (s : State) :
    s.startCollect.now = s.now ∧ s.startCollect.mem = s.mem ∧ s.startCollect.pins = s.pins ∧
    s.startCollect.power = s.power ∧ s.startCollect.clock = s.clock ∧ s.startCollect.setup = s.setup ∧
    s.startCollect.lever = s.lever ∧ s.startCollect.number = s.number ∧ s.startCollect.emitter = s.emitter ∧
    s.startCollect.line = s.line ∧ s.startCollect.hook = s.hook ∧ s.startCollect.rating = s.rating ∧
    s.startCollect.records = s.records ∧ s.startCollect.tamper = s.tamper ∧
    s.startCollect.alarms = s.alarms ∧ s.startCollect.report = s.report ∧ s.startCollect.cash = s.cash ∧
    s.startCollect.path = s.path ∧ s.startCollect.status = s.status ∧ s.startCollect.mailbox = s.mailbox ∧
    s.startCollect.pending = s.pending := by
  simp [State.startCollect]

@[simp] theorem State.startRefund_frame (s : State) :
    s.startRefund.now = s.now ∧ s.startRefund.mem = s.mem ∧ s.startRefund.pins = s.pins ∧
    s.startRefund.power = s.power ∧ s.startRefund.clock = s.clock ∧ s.startRefund.setup = s.setup ∧
    s.startRefund.lever = s.lever ∧ s.startRefund.number = s.number ∧ s.startRefund.emitter = s.emitter ∧
    s.startRefund.line = s.line ∧ s.startRefund.hook = s.hook ∧ s.startRefund.rating = s.rating ∧
    s.startRefund.records = s.records ∧ s.startRefund.tamper = s.tamper ∧ s.startRefund.alarms = s.alarms ∧
    s.startRefund.report = s.report ∧ s.startRefund.cash = s.cash ∧ s.startRefund.path = s.path ∧
    s.startRefund.status = s.status ∧ s.startRefund.mailbox = s.mailbox ∧ s.startRefund.pending = s.pending := by
  simp [State.startRefund]

@[simp] theorem State.requestCollect_frame (s : State) :
    s.requestCollect.now = s.now ∧ s.requestCollect.mem = s.mem ∧ s.requestCollect.pins = s.pins ∧
    s.requestCollect.power = s.power ∧ s.requestCollect.clock = s.clock ∧ s.requestCollect.setup = s.setup ∧
    s.requestCollect.lever = s.lever ∧ s.requestCollect.number = s.number ∧
    s.requestCollect.emitter = s.emitter ∧ s.requestCollect.line = s.line ∧ s.requestCollect.hook = s.hook ∧
    s.requestCollect.rating = s.rating ∧ s.requestCollect.records = s.records ∧
    s.requestCollect.tamper = s.tamper ∧ s.requestCollect.alarms = s.alarms ∧
    s.requestCollect.report = s.report ∧ s.requestCollect.cash = s.cash ∧ s.requestCollect.path = s.path ∧
    s.requestCollect.status = s.status ∧ s.requestCollect.mailbox = s.mailbox ∧
    s.requestCollect.pending = s.pending := by
  simp only [State.requestCollect]
  (repeat' split) <;> simp

@[simp] theorem State.requestRefund_frame (s : State) :
    s.requestRefund.now = s.now ∧ s.requestRefund.mem = s.mem ∧ s.requestRefund.pins = s.pins ∧
    s.requestRefund.power = s.power ∧ s.requestRefund.clock = s.clock ∧ s.requestRefund.setup = s.setup ∧
    s.requestRefund.lever = s.lever ∧ s.requestRefund.number = s.number ∧
    s.requestRefund.emitter = s.emitter ∧ s.requestRefund.line = s.line ∧ s.requestRefund.hook = s.hook ∧
    s.requestRefund.rating = s.rating ∧ s.requestRefund.records = s.records ∧
    s.requestRefund.tamper = s.tamper ∧ s.requestRefund.alarms = s.alarms ∧
    s.requestRefund.report = s.report ∧ s.requestRefund.cash = s.cash ∧ s.requestRefund.path = s.path ∧
    s.requestRefund.status = s.status ∧ s.requestRefund.mailbox = s.mailbox ∧
    s.requestRefund.pending = s.pending := by
  simp only [State.requestRefund]
  (repeat' split) <;> simp

@[simp] theorem State.forfeit_frame (s : State) :
    s.forfeit.now = s.now ∧ s.forfeit.mem = s.mem ∧ s.forfeit.pins = s.pins ∧ s.forfeit.power = s.power ∧
    s.forfeit.clock = s.clock ∧ s.forfeit.setup = s.setup ∧ s.forfeit.lever = s.lever ∧
    s.forfeit.hook = s.hook ∧ s.forfeit.rating = s.rating ∧ s.forfeit.tamper = s.tamper ∧
    s.forfeit.mailbox = s.mailbox ∧ s.forfeit.pending = s.pending := by
  simp only [State.forfeit]
  (repeat' split) <;> simp

@[simp] theorem State.slugAttack_frame (s : State) :
    s.slugAttack.now = s.now ∧ s.slugAttack.mem = s.mem ∧ s.slugAttack.pins = s.pins ∧
    s.slugAttack.power = s.power ∧ s.slugAttack.clock = s.clock ∧ s.slugAttack.setup = s.setup ∧
    s.slugAttack.lever = s.lever ∧ s.slugAttack.number = s.number ∧ s.slugAttack.emitter = s.emitter ∧
    s.slugAttack.hook = s.hook ∧ s.slugAttack.rating = s.rating ∧ s.slugAttack.records = s.records ∧
    s.slugAttack.tamper = s.tamper ∧ s.slugAttack.mailbox = s.mailbox ∧ s.slugAttack.pending = s.pending := by
  simp [State.slugAttack]

@[simp] theorem State.rejectCoin_frame (s : State) :
    s.rejectCoin.now = s.now ∧ s.rejectCoin.mem = s.mem ∧ s.rejectCoin.pins = s.pins ∧
    s.rejectCoin.power = s.power ∧ s.rejectCoin.clock = s.clock ∧ s.rejectCoin.setup = s.setup ∧
    s.rejectCoin.lever = s.lever ∧ s.rejectCoin.number = s.number ∧ s.rejectCoin.emitter = s.emitter ∧
    s.rejectCoin.hook = s.hook ∧ s.rejectCoin.rating = s.rating ∧ s.rejectCoin.records = s.records ∧
    s.rejectCoin.tamper = s.tamper ∧ s.rejectCoin.mailbox = s.mailbox ∧ s.rejectCoin.pending = s.pending := by
  simp only [State.rejectCoin]
  (repeat' split) <;> simp

@[simp] theorem State.warnFill_frame (s : State) :
    s.warnFill.now = s.now ∧ s.warnFill.mem = s.mem ∧ s.warnFill.pins = s.pins ∧
    s.warnFill.power = s.power ∧ s.warnFill.clock = s.clock ∧ s.warnFill.setup = s.setup ∧
    s.warnFill.lever = s.lever ∧ s.warnFill.number = s.number ∧ s.warnFill.emitter = s.emitter ∧
    s.warnFill.hook = s.hook ∧ s.warnFill.rating = s.rating ∧ s.warnFill.records = s.records ∧
    s.warnFill.tamper = s.tamper ∧ s.warnFill.mailbox = s.mailbox ∧ s.warnFill.pending = s.pending := by
  simp [State.warnFill]

@[simp] theorem State.checkFill_frame (s : State) (old : Nat) :
    (s.checkFill old).now = s.now ∧ (s.checkFill old).mem = s.mem ∧ (s.checkFill old).pins = s.pins ∧
    (s.checkFill old).power = s.power ∧ (s.checkFill old).clock = s.clock ∧
    (s.checkFill old).setup = s.setup ∧ (s.checkFill old).lever = s.lever ∧
    (s.checkFill old).emitter = s.emitter ∧ (s.checkFill old).hook = s.hook ∧
    (s.checkFill old).records = s.records ∧ (s.checkFill old).tamper = s.tamper ∧
    (s.checkFill old).mailbox = s.mailbox ∧ (s.checkFill old).pending = s.pending := by
  simp only [State.checkFill]
  (repeat' split) <;> simp

@[simp] theorem State.collectionClose_frame (s : State) :
    s.collectionClose.now = s.now ∧ s.collectionClose.mem = s.mem ∧ s.collectionClose.pins = s.pins ∧
    s.collectionClose.power = s.power ∧ s.collectionClose.clock = s.clock ∧
    s.collectionClose.setup = s.setup ∧ s.collectionClose.lever = s.lever ∧
    s.collectionClose.number = s.number ∧ s.collectionClose.emitter = s.emitter ∧
    s.collectionClose.line = s.line ∧ s.collectionClose.hook = s.hook ∧
    s.collectionClose.rating = s.rating ∧ s.collectionClose.records = s.records ∧
    s.collectionClose.tamper = s.tamper ∧ s.collectionClose.alarms = s.alarms ∧
    s.collectionClose.report = s.report ∧ s.collectionClose.mailbox = s.mailbox ∧
    s.collectionClose.pending = s.pending := by
  simp [State.collectionClose]

@[simp] theorem State.closeTest_frame (s : State) :
    s.closeTest.now = s.now ∧ s.closeTest.mem = s.mem ∧ s.closeTest.pins = s.pins ∧
    s.closeTest.power = s.power ∧ s.closeTest.clock = s.clock ∧ s.closeTest.setup = s.setup ∧
    s.closeTest.lever = s.lever ∧ s.closeTest.number = s.number ∧ s.closeTest.emitter = s.emitter ∧
    s.closeTest.line = s.line ∧ s.closeTest.hook = s.hook ∧ s.closeTest.rating = s.rating ∧
    s.closeTest.records = s.records ∧ s.closeTest.tamper = s.tamper ∧ s.closeTest.alarms = s.alarms ∧
    s.closeTest.report = s.report ∧ s.closeTest.mailbox = s.mailbox ∧ s.closeTest.pending = s.pending := by
  simp only [State.closeTest]
  (repeat' split) <;> simp

/-- The test of an owed close after an event changes no more than the test does (R142). -/
@[simp] theorem State.thenTest_frame (s : State) (event : State → State) :
    (s.thenTest event).now = (event s).now ∧ (s.thenTest event).mem = (event s).mem ∧
    (s.thenTest event).pins = (event s).pins ∧ (s.thenTest event).power = (event s).power ∧
    (s.thenTest event).clock = (event s).clock ∧ (s.thenTest event).setup = (event s).setup ∧
    (s.thenTest event).lever = (event s).lever ∧ (s.thenTest event).number = (event s).number ∧
    (s.thenTest event).emitter = (event s).emitter ∧ (s.thenTest event).line = (event s).line ∧
    (s.thenTest event).hook = (event s).hook ∧ (s.thenTest event).rating = (event s).rating ∧
    (s.thenTest event).records = (event s).records ∧ (s.thenTest event).tamper = (event s).tamper ∧
    (s.thenTest event).alarms = (event s).alarms ∧ (s.thenTest event).report = (event s).report ∧
    (s.thenTest event).mailbox = (event s).mailbox ∧ (s.thenTest event).pending = (event s).pending := by
  simp only [State.thenTest]
  split <;> simp

@[simp] theorem State.updContext_frame (s : State) (f : RatingContext → RatingContext) :
    (s.updContext f).now = s.now ∧ (s.updContext f).mem = s.mem ∧ (s.updContext f).pins = s.pins ∧
    (s.updContext f).power = s.power ∧ (s.updContext f).clock = s.clock ∧ (s.updContext f).setup = s.setup ∧
    (s.updContext f).coin = s.coin ∧ (s.updContext f).lever = s.lever ∧ (s.updContext f).number = s.number ∧
    (s.updContext f).emitter = s.emitter ∧ (s.updContext f).line = s.line ∧ (s.updContext f).hook = s.hook ∧
    (s.updContext f).records = s.records ∧ (s.updContext f).tamper = s.tamper ∧
    (s.updContext f).alarms = s.alarms ∧ (s.updContext f).report = s.report ∧
    (s.updContext f).cash = s.cash ∧ (s.updContext f).path = s.path ∧ (s.updContext f).status = s.status ∧
    (s.updContext f).mailbox = s.mailbox ∧ (s.updContext f).pending = s.pending := by
  simp [State.updContext]

@[simp] theorem State.mirrorCall_frame (s : State) (c : RatingContext) :
    (s.mirrorCall c).now = s.now ∧ (s.mirrorCall c).mem = s.mem ∧ (s.mirrorCall c).pins = s.pins ∧
    (s.mirrorCall c).power = s.power ∧ (s.mirrorCall c).clock = s.clock ∧ (s.mirrorCall c).setup = s.setup ∧
    (s.mirrorCall c).coin = s.coin ∧ (s.mirrorCall c).lever = s.lever ∧ (s.mirrorCall c).number = s.number ∧
    (s.mirrorCall c).emitter = s.emitter ∧ (s.mirrorCall c).line = s.line ∧ (s.mirrorCall c).hook = s.hook ∧
    (s.mirrorCall c).rating = s.rating ∧ (s.mirrorCall c).records = s.records ∧
    (s.mirrorCall c).tamper = s.tamper ∧ (s.mirrorCall c).alarms = s.alarms ∧
    (s.mirrorCall c).report = s.report ∧ (s.mirrorCall c).status = s.status ∧
    (s.mirrorCall c).mailbox = s.mailbox ∧ (s.mirrorCall c).pending = s.pending := by
  simp only [State.mirrorCall]
  (repeat' split) <;> simp

@[simp] theorem State.addStatus_frame (s : State) (f : RatingFlags) :
    (s.addStatus f).now = s.now ∧ (s.addStatus f).mem = s.mem ∧ (s.addStatus f).pins = s.pins ∧
    (s.addStatus f).power = s.power ∧ (s.addStatus f).clock = s.clock ∧ (s.addStatus f).setup = s.setup ∧
    (s.addStatus f).coin = s.coin ∧ (s.addStatus f).lever = s.lever ∧ (s.addStatus f).number = s.number ∧
    (s.addStatus f).emitter = s.emitter ∧ (s.addStatus f).line = s.line ∧ (s.addStatus f).hook = s.hook ∧
    (s.addStatus f).records = s.records ∧ (s.addStatus f).tamper = s.tamper ∧
    (s.addStatus f).alarms = s.alarms ∧ (s.addStatus f).report = s.report ∧
    (s.addStatus f).status = s.status ∧ (s.addStatus f).mailbox = s.mailbox ∧
    (s.addStatus f).pending = s.pending := by
  simp only [State.addStatus]
  (repeat' split) <;> simp

@[simp] theorem State.collectAtAnswer_frame (s : State) :
    s.collectAtAnswer.now = s.now ∧ s.collectAtAnswer.mem = s.mem ∧ s.collectAtAnswer.pins = s.pins ∧
    s.collectAtAnswer.power = s.power ∧ s.collectAtAnswer.clock = s.clock ∧
    s.collectAtAnswer.setup = s.setup ∧ s.collectAtAnswer.lever = s.lever ∧
    s.collectAtAnswer.number = s.number ∧ s.collectAtAnswer.emitter = s.emitter ∧
    s.collectAtAnswer.line = s.line ∧ s.collectAtAnswer.hook = s.hook ∧
    s.collectAtAnswer.rating = s.rating ∧ s.collectAtAnswer.records = s.records ∧
    s.collectAtAnswer.tamper = s.tamper ∧ s.collectAtAnswer.alarms = s.alarms ∧
    s.collectAtAnswer.report = s.report ∧ s.collectAtAnswer.cash = s.cash ∧
    s.collectAtAnswer.path = s.path ∧ s.collectAtAnswer.status = s.status ∧
    s.collectAtAnswer.mailbox = s.mailbox ∧ s.collectAtAnswer.pending = s.pending := by
  simp only [State.collectAtAnswer]
  (repeat' split) <;> simp

@[simp] theorem State.enterGrace_frame (s : State) :
    s.enterGrace.now = s.now ∧ s.enterGrace.mem = s.mem ∧ s.enterGrace.pins = s.pins ∧
    s.enterGrace.power = s.power ∧ s.enterGrace.clock = s.clock ∧ s.enterGrace.setup = s.setup ∧
    s.enterGrace.coin = s.coin ∧ s.enterGrace.lever = s.lever ∧ s.enterGrace.line = s.line ∧
    s.enterGrace.hook = s.hook ∧ s.enterGrace.records = s.records ∧ s.enterGrace.tamper = s.tamper ∧
    s.enterGrace.alarms = s.alarms ∧ s.enterGrace.cash = s.cash ∧ s.enterGrace.mailbox = s.mailbox ∧
    s.enterGrace.pending = s.pending := by
  simp [State.enterGrace]

@[simp] theorem State.drawBanked_frame (s : State) (amount : Nat) :
    (s.drawBanked amount).now = s.now ∧ (s.drawBanked amount).mem = s.mem ∧
    (s.drawBanked amount).pins = s.pins ∧ (s.drawBanked amount).power = s.power ∧
    (s.drawBanked amount).clock = s.clock ∧ (s.drawBanked amount).setup = s.setup ∧
    (s.drawBanked amount).lever = s.lever ∧ (s.drawBanked amount).hook = s.hook ∧
    (s.drawBanked amount).rating = s.rating ∧ (s.drawBanked amount).tamper = s.tamper ∧
    (s.drawBanked amount).mailbox = s.mailbox ∧ (s.drawBanked amount).pending = s.pending := by
  simp [State.drawBanked]

@[simp] theorem State.payCharge_frame (s : State) (c : RatingContext) (charge : Charge) :
    (s.payCharge c charge).now = s.now ∧ (s.payCharge c charge).mem = s.mem ∧
    (s.payCharge c charge).pins = s.pins ∧ (s.payCharge c charge).power = s.power ∧
    (s.payCharge c charge).clock = s.clock ∧ (s.payCharge c charge).setup = s.setup ∧
    (s.payCharge c charge).lever = s.lever ∧ (s.payCharge c charge).hook = s.hook ∧
    (s.payCharge c charge).tamper = s.tamper ∧ (s.payCharge c charge).mailbox = s.mailbox ∧
    (s.payCharge c charge).pending = s.pending := by
  simp [State.payCharge]

@[simp] theorem State.awaitCredit_frame (s : State) :
    s.awaitCredit.now = s.now ∧ s.awaitCredit.mem = s.mem ∧ s.awaitCredit.pins = s.pins ∧
    s.awaitCredit.power = s.power ∧ s.awaitCredit.clock = s.clock ∧ s.awaitCredit.setup = s.setup ∧
    s.awaitCredit.lever = s.lever ∧ s.awaitCredit.line = s.line ∧ s.awaitCredit.hook = s.hook ∧
    s.awaitCredit.records = s.records ∧ s.awaitCredit.tamper = s.tamper ∧ s.awaitCredit.alarms = s.alarms ∧
    s.awaitCredit.cash = s.cash ∧ s.awaitCredit.mailbox = s.mailbox ∧ s.awaitCredit.pending = s.pending := by
  simp only [State.awaitCredit]
  (repeat' split) <;> simp

@[simp] theorem State.checkCharge_frame (s : State) :
    s.checkCharge.now = s.now ∧ s.checkCharge.mem = s.mem ∧ s.checkCharge.pins = s.pins ∧
    s.checkCharge.power = s.power ∧ s.checkCharge.clock = s.clock ∧ s.checkCharge.setup = s.setup ∧
    s.checkCharge.lever = s.lever ∧ s.checkCharge.hook = s.hook ∧ s.checkCharge.tamper = s.tamper ∧
    s.checkCharge.mailbox = s.mailbox ∧ s.checkCharge.pending = s.pending := by
  simp only [State.checkCharge]
  (repeat' split) <;> simp

@[simp] theorem State.raiseCharge_frame (s : State) (amount units : Nat) (origin : ChargeOrigin) :
    (s.raiseCharge amount units origin).now = s.now ∧ (s.raiseCharge amount units origin).mem = s.mem ∧
    (s.raiseCharge amount units origin).pins = s.pins ∧
    (s.raiseCharge amount units origin).power = s.power ∧
    (s.raiseCharge amount units origin).clock = s.clock ∧
    (s.raiseCharge amount units origin).setup = s.setup ∧
    (s.raiseCharge amount units origin).coin = s.coin ∧
    (s.raiseCharge amount units origin).lever = s.lever ∧
    (s.raiseCharge amount units origin).number = s.number ∧
    (s.raiseCharge amount units origin).emitter = s.emitter ∧
    (s.raiseCharge amount units origin).line = s.line ∧ (s.raiseCharge amount units origin).hook = s.hook ∧
    (s.raiseCharge amount units origin).records = s.records ∧
    (s.raiseCharge amount units origin).tamper = s.tamper ∧
    (s.raiseCharge amount units origin).alarms = s.alarms ∧
    (s.raiseCharge amount units origin).report = s.report ∧
    (s.raiseCharge amount units origin).cash = s.cash ∧ (s.raiseCharge amount units origin).path = s.path ∧
    (s.raiseCharge amount units origin).status = s.status ∧
    (s.raiseCharge amount units origin).mailbox = s.mailbox ∧
    (s.raiseCharge amount units origin).pending = s.pending := by
  simp [State.raiseCharge]

@[simp] theorem State.unitEnds_frame (s : State) :
    s.unitEnds.now = s.now ∧ s.unitEnds.mem = s.mem ∧ s.unitEnds.pins = s.pins ∧
    s.unitEnds.power = s.power ∧ s.unitEnds.clock = s.clock ∧ s.unitEnds.setup = s.setup ∧
    s.unitEnds.lever = s.lever ∧ s.unitEnds.hook = s.hook ∧ s.unitEnds.tamper = s.tamper ∧
    s.unitEnds.mailbox = s.mailbox ∧ s.unitEnds.pending = s.pending := by
  simp only [State.unitEnds]
  (repeat' split) <;> simp

@[simp] theorem State.payAndGoOn_frame (s : State) (c : RatingContext) (charge : Charge) :
    (s.payAndGoOn c charge).now = s.now ∧ (s.payAndGoOn c charge).mem = s.mem ∧
    (s.payAndGoOn c charge).pins = s.pins ∧ (s.payAndGoOn c charge).power = s.power ∧
    (s.payAndGoOn c charge).clock = s.clock ∧ (s.payAndGoOn c charge).setup = s.setup ∧
    (s.payAndGoOn c charge).lever = s.lever ∧ (s.payAndGoOn c charge).hook = s.hook ∧
    (s.payAndGoOn c charge).tamper = s.tamper ∧ (s.payAndGoOn c charge).mailbox = s.mailbox ∧
    (s.payAndGoOn c charge).pending = s.pending := by
  simp only [State.payAndGoOn]
  (repeat' split) <;> simp

@[simp] theorem State.paymentCheck_frame (s : State) :
    s.paymentCheck.now = s.now ∧ s.paymentCheck.mem = s.mem ∧ s.paymentCheck.pins = s.pins ∧
    s.paymentCheck.power = s.power ∧ s.paymentCheck.clock = s.clock ∧ s.paymentCheck.setup = s.setup ∧
    s.paymentCheck.lever = s.lever ∧ s.paymentCheck.hook = s.hook ∧ s.paymentCheck.tamper = s.tamper ∧
    s.paymentCheck.mailbox = s.mailbox ∧ s.paymentCheck.pending = s.pending := by
  simp only [State.paymentCheck]
  (repeat' split) <;> simp

@[simp] theorem State.cutCall_frame (s : State) :
    s.cutCall.now = s.now ∧ s.cutCall.mem = s.mem ∧ s.cutCall.pins = s.pins ∧ s.cutCall.power = s.power ∧
    s.cutCall.clock = s.clock ∧ s.cutCall.setup = s.setup ∧ s.cutCall.coin = s.coin ∧
    s.cutCall.lever = s.lever ∧ s.cutCall.hook = s.hook ∧ s.cutCall.tamper = s.tamper ∧
    s.cutCall.mailbox = s.mailbox ∧ s.cutCall.pending = s.pending := by
  simp [State.cutCall]

@[simp] theorem State.answerInternal_frame (s : State) (snap : Snapshot) :
    (s.answerInternal snap).now = s.now ∧ (s.answerInternal snap).mem = s.mem ∧
    (s.answerInternal snap).pins = s.pins ∧ (s.answerInternal snap).power = s.power ∧
    (s.answerInternal snap).clock = s.clock ∧ (s.answerInternal snap).setup = s.setup ∧
    (s.answerInternal snap).lever = s.lever ∧ (s.answerInternal snap).hook = s.hook ∧
    (s.answerInternal snap).tamper = s.tamper ∧ (s.answerInternal snap).mailbox = s.mailbox ∧
    (s.answerInternal snap).pending = s.pending := by
  simp [State.answerInternal]

@[simp] theorem State.answerMetering_frame (s : State) (snap : Snapshot) :
    (s.answerMetering snap).now = s.now ∧ (s.answerMetering snap).mem = s.mem ∧
    (s.answerMetering snap).pins = s.pins ∧ (s.answerMetering snap).power = s.power ∧
    (s.answerMetering snap).clock = s.clock ∧ (s.answerMetering snap).setup = s.setup ∧
    (s.answerMetering snap).lever = s.lever ∧ (s.answerMetering snap).hook = s.hook ∧
    (s.answerMetering snap).tamper = s.tamper ∧ (s.answerMetering snap).mailbox = s.mailbox ∧
    (s.answerMetering snap).pending = s.pending := by
  simp only [State.answerMetering]
  (repeat' split) <;> simp

@[simp] theorem State.rateAnswer_frame (s : State) :
    s.rateAnswer.now = s.now ∧ s.rateAnswer.mem = s.mem ∧ s.rateAnswer.pins = s.pins ∧
    s.rateAnswer.power = s.power ∧ s.rateAnswer.clock = s.clock ∧ s.rateAnswer.setup = s.setup ∧
    s.rateAnswer.lever = s.lever ∧ s.rateAnswer.hook = s.hook ∧ s.rateAnswer.tamper = s.tamper ∧
    s.rateAnswer.mailbox = s.mailbox ∧ s.rateAnswer.pending = s.pending := by
  simp only [State.rateAnswer]
  (repeat' split) <;> simp

@[simp] theorem State.chargePulse_frame (s : State) (rated : RatedUnit × RatingFlags) :
    (s.chargePulse rated).now = s.now ∧ (s.chargePulse rated).mem = s.mem ∧
    (s.chargePulse rated).pins = s.pins ∧ (s.chargePulse rated).power = s.power ∧
    (s.chargePulse rated).clock = s.clock ∧ (s.chargePulse rated).setup = s.setup ∧
    (s.chargePulse rated).coin = s.coin ∧ (s.chargePulse rated).lever = s.lever ∧
    (s.chargePulse rated).number = s.number ∧ (s.chargePulse rated).emitter = s.emitter ∧
    (s.chargePulse rated).line = s.line ∧ (s.chargePulse rated).hook = s.hook ∧
    (s.chargePulse rated).records = s.records ∧ (s.chargePulse rated).tamper = s.tamper ∧
    (s.chargePulse rated).alarms = s.alarms ∧ (s.chargePulse rated).report = s.report ∧
    (s.chargePulse rated).status = s.status ∧ (s.chargePulse rated).mailbox = s.mailbox ∧
    (s.chargePulse rated).pending = s.pending := by
  simp [State.chargePulse]

@[simp] theorem State.ratePulse_frame (s : State) (c : RatingContext) (snap : Snapshot) :
    (s.ratePulse c snap).now = s.now ∧ (s.ratePulse c snap).mem = s.mem ∧
    (s.ratePulse c snap).pins = s.pins ∧ (s.ratePulse c snap).power = s.power ∧
    (s.ratePulse c snap).clock = s.clock ∧ (s.ratePulse c snap).setup = s.setup ∧
    (s.ratePulse c snap).lever = s.lever ∧ (s.ratePulse c snap).hook = s.hook ∧
    (s.ratePulse c snap).tamper = s.tamper ∧ (s.ratePulse c snap).mailbox = s.mailbox ∧
    (s.ratePulse c snap).pending = s.pending := by
  simp only [State.ratePulse]
  (repeat' split) <;> simp

@[simp] theorem State.meterConnected_frame (s : State) :
    s.meterConnected.now = s.now ∧ s.meterConnected.mem = s.mem ∧ s.meterConnected.pins = s.pins ∧
    s.meterConnected.power = s.power ∧ s.meterConnected.clock = s.clock ∧ s.meterConnected.setup = s.setup ∧
    s.meterConnected.lever = s.lever ∧ s.meterConnected.hook = s.hook ∧ s.meterConnected.tamper = s.tamper ∧
    s.meterConnected.mailbox = s.mailbox ∧ s.meterConnected.pending = s.pending := by
  simp only [State.meterConnected]
  (repeat' split) <;> simp

@[simp] theorem State.countCoins_frame (s : State) (v : Nat) :
    (s.countCoins v).now = s.now ∧ (s.countCoins v).mem = s.mem ∧ (s.countCoins v).pins = s.pins ∧
    (s.countCoins v).power = s.power ∧ (s.countCoins v).clock = s.clock ∧ (s.countCoins v).setup = s.setup ∧
    (s.countCoins v).coin = s.coin ∧ (s.countCoins v).lever = s.lever ∧ (s.countCoins v).number = s.number ∧
    (s.countCoins v).emitter = s.emitter ∧ (s.countCoins v).line = s.line ∧ (s.countCoins v).hook = s.hook ∧
    (s.countCoins v).records = s.records ∧ (s.countCoins v).tamper = s.tamper ∧
    (s.countCoins v).alarms = s.alarms ∧ (s.countCoins v).report = s.report ∧
    (s.countCoins v).cash = s.cash ∧ (s.countCoins v).path = s.path ∧ (s.countCoins v).status = s.status ∧
    (s.countCoins v).mailbox = s.mailbox ∧ (s.countCoins v).pending = s.pending := by
  simp [State.countCoins]

@[simp] theorem State.graceRecheck_frame (s : State) (c : RatingContext) :
    (s.graceRecheck c).now = s.now ∧ (s.graceRecheck c).mem = s.mem ∧ (s.graceRecheck c).pins = s.pins ∧
    (s.graceRecheck c).power = s.power ∧ (s.graceRecheck c).clock = s.clock ∧
    (s.graceRecheck c).setup = s.setup ∧ (s.graceRecheck c).lever = s.lever ∧
    (s.graceRecheck c).hook = s.hook ∧ (s.graceRecheck c).tamper = s.tamper ∧
    (s.graceRecheck c).mailbox = s.mailbox ∧ (s.graceRecheck c).pending = s.pending := by
  simp only [State.graceRecheck]
  (repeat' split) <;> simp

@[simp] theorem State.recheckPayment_frame (s : State) :
    s.recheckPayment.now = s.now ∧ s.recheckPayment.mem = s.mem ∧ s.recheckPayment.pins = s.pins ∧
    s.recheckPayment.power = s.power ∧ s.recheckPayment.clock = s.clock ∧ s.recheckPayment.setup = s.setup ∧
    s.recheckPayment.lever = s.lever ∧ s.recheckPayment.hook = s.hook ∧ s.recheckPayment.tamper = s.tamper ∧
    s.recheckPayment.mailbox = s.mailbox ∧ s.recheckPayment.pending = s.pending := by
  simp only [State.recheckPayment]
  (repeat' split) <;> simp

@[simp] theorem State.collectCompletion_frame (s : State) (v : Nat) :
    (s.collectCompletion v).now = s.now ∧ (s.collectCompletion v).mem = s.mem ∧
    (s.collectCompletion v).pins = s.pins ∧ (s.collectCompletion v).power = s.power ∧
    (s.collectCompletion v).clock = s.clock ∧ (s.collectCompletion v).setup = s.setup ∧
    (s.collectCompletion v).lever = s.lever ∧ (s.collectCompletion v).hook = s.hook ∧
    (s.collectCompletion v).tamper = s.tamper ∧ (s.collectCompletion v).mailbox = s.mailbox ∧
    (s.collectCompletion v).pending = s.pending := by
  simp only [State.collectCompletion]
  (repeat' split) <;> simp

@[simp] theorem State.graceArrival_frame (s : State) :
    s.graceArrival.now = s.now ∧ s.graceArrival.mem = s.mem ∧ s.graceArrival.pins = s.pins ∧
    s.graceArrival.power = s.power ∧ s.graceArrival.clock = s.clock ∧ s.graceArrival.setup = s.setup ∧
    s.graceArrival.lever = s.lever ∧ s.graceArrival.number = s.number ∧ s.graceArrival.emitter = s.emitter ∧
    s.graceArrival.line = s.line ∧ s.graceArrival.hook = s.hook ∧ s.graceArrival.rating = s.rating ∧
    s.graceArrival.records = s.records ∧ s.graceArrival.tamper = s.tamper ∧
    s.graceArrival.alarms = s.alarms ∧ s.graceArrival.report = s.report ∧ s.graceArrival.cash = s.cash ∧
    s.graceArrival.path = s.path ∧ s.graceArrival.status = s.status ∧ s.graceArrival.mailbox = s.mailbox ∧
    s.graceArrival.pending = s.pending := by
  simp only [State.graceArrival]
  (repeat' split) <;> simp

@[simp] theorem State.graceExpired_frame (s : State) :
    s.graceExpired.now = s.now ∧ s.graceExpired.mem = s.mem ∧ s.graceExpired.pins = s.pins ∧
    s.graceExpired.power = s.power ∧ s.graceExpired.clock = s.clock ∧ s.graceExpired.setup = s.setup ∧
    s.graceExpired.coin = s.coin ∧ s.graceExpired.lever = s.lever ∧ s.graceExpired.hook = s.hook ∧
    s.graceExpired.tamper = s.tamper ∧ s.graceExpired.mailbox = s.mailbox ∧
    s.graceExpired.pending = s.pending := by
  simp only [State.graceExpired]
  (repeat' split) <;> simp

@[simp] theorem State.unitExpired_frame (s : State) :
    s.unitExpired.now = s.now ∧ s.unitExpired.mem = s.mem ∧ s.unitExpired.pins = s.pins ∧
    s.unitExpired.power = s.power ∧ s.unitExpired.clock = s.clock ∧ s.unitExpired.setup = s.setup ∧
    s.unitExpired.lever = s.lever ∧ s.unitExpired.hook = s.hook ∧ s.unitExpired.tamper = s.tamper ∧
    s.unitExpired.mailbox = s.mailbox ∧ s.unitExpired.pending = s.pending := by
  simp only [State.unitExpired]
  (repeat' split) <;> simp

end Sys2Proof.Machine
end

