-- ==== Sys2Proof/Laws/FramesLine.lean ====
section
/-! SUPPORT. Frames: the fields of `State` that an operation leaves as they were, one lemma for each operation
of escrow operations, calls on the line, the tamper monitor and the starts. -/

namespace Sys2Proof.Machine

@[simp] theorem State.arrivalConditions_frame (s : State) :
    s.arrivalConditions.now = s.now ∧ s.arrivalConditions.mem = s.mem ∧ s.arrivalConditions.pins = s.pins ∧
    s.arrivalConditions.power = s.power ∧ s.arrivalConditions.clock = s.clock ∧
    s.arrivalConditions.setup = s.setup ∧ s.arrivalConditions.lever = s.lever ∧
    s.arrivalConditions.number = s.number ∧ s.arrivalConditions.emitter = s.emitter ∧
    s.arrivalConditions.line = s.line ∧ s.arrivalConditions.hook = s.hook ∧
    s.arrivalConditions.rating = s.rating ∧ s.arrivalConditions.records = s.records ∧
    s.arrivalConditions.tamper = s.tamper ∧ s.arrivalConditions.alarms = s.alarms ∧
    s.arrivalConditions.report = s.report ∧ s.arrivalConditions.cash = s.cash ∧
    s.arrivalConditions.path = s.path ∧ s.arrivalConditions.status = s.status ∧
    s.arrivalConditions.mailbox = s.mailbox ∧ s.arrivalConditions.pending = s.pending := by
  simp only [State.arrivalConditions]
  (repeat' split) <;> simp

@[simp] theorem State.countCoin_frame (s : State) (coin : Coin) :
    (s.countCoin coin).now = s.now ∧ (s.countCoin coin).mem = s.mem ∧ (s.countCoin coin).pins = s.pins ∧
    (s.countCoin coin).power = s.power ∧ (s.countCoin coin).clock = s.clock ∧
    (s.countCoin coin).setup = s.setup ∧ (s.countCoin coin).coin = s.coin ∧
    (s.countCoin coin).lever = s.lever ∧ (s.countCoin coin).number = s.number ∧
    (s.countCoin coin).emitter = s.emitter ∧ (s.countCoin coin).line = s.line ∧
    (s.countCoin coin).hook = s.hook ∧ (s.countCoin coin).rating = s.rating ∧
    (s.countCoin coin).records = s.records ∧ (s.countCoin coin).tamper = s.tamper ∧
    (s.countCoin coin).alarms = s.alarms ∧ (s.countCoin coin).report = s.report ∧
    (s.countCoin coin).cash = s.cash ∧ (s.countCoin coin).mailbox = s.mailbox ∧
    (s.countCoin coin).pending = s.pending := by
  simp only [State.countCoin]
  (repeat' split) <;> simp

@[simp] theorem State.takeCoin_frame (s : State) (coin : Coin) :
    (s.takeCoin coin).now = s.now ∧ (s.takeCoin coin).mem = s.mem ∧ (s.takeCoin coin).pins = s.pins ∧
    (s.takeCoin coin).power = s.power ∧ (s.takeCoin coin).clock = s.clock ∧
    (s.takeCoin coin).setup = s.setup ∧ (s.takeCoin coin).lever = s.lever ∧
    (s.takeCoin coin).hook = s.hook ∧ (s.takeCoin coin).rating = s.rating ∧
    (s.takeCoin coin).tamper = s.tamper ∧ (s.takeCoin coin).mailbox = s.mailbox ∧
    (s.takeCoin coin).pending = s.pending := by
  simp only [State.takeCoin]
  (repeat' split) <;> simp

@[simp] theorem State.collectResult_frame (s : State) (op : EscrowOp) (k : Nat) :
    (s.collectResult op k).now = s.now ∧ (s.collectResult op k).mem = s.mem ∧
    (s.collectResult op k).pins = s.pins ∧ (s.collectResult op k).power = s.power ∧
    (s.collectResult op k).clock = s.clock ∧ (s.collectResult op k).setup = s.setup ∧
    (s.collectResult op k).lever = s.lever ∧ (s.collectResult op k).hook = s.hook ∧
    (s.collectResult op k).tamper = s.tamper ∧ (s.collectResult op k).mailbox = s.mailbox ∧
    (s.collectResult op k).pending = s.pending := by
  simp [State.collectResult]

@[simp] theorem State.refundResult_frame (s : State) (op : EscrowOp) (k : Nat) :
    (s.refundResult op k).now = s.now ∧ (s.refundResult op k).mem = s.mem ∧
    (s.refundResult op k).pins = s.pins ∧ (s.refundResult op k).power = s.power ∧
    (s.refundResult op k).clock = s.clock ∧ (s.refundResult op k).setup = s.setup ∧
    (s.refundResult op k).lever = s.lever ∧ (s.refundResult op k).hook = s.hook ∧
    (s.refundResult op k).rating = s.rating ∧ (s.refundResult op k).tamper = s.tamper ∧
    (s.refundResult op k).mailbox = s.mailbox ∧ (s.refundResult op k).pending = s.pending := by
  simp [State.refundResult]

@[simp] theorem State.moveGate_frame (s : State) :
    s.moveGate.now = s.now ∧ s.moveGate.mem = s.mem ∧ s.moveGate.pins = s.pins ∧
    s.moveGate.power = s.power ∧ s.moveGate.clock = s.clock ∧ s.moveGate.setup = s.setup ∧
    s.moveGate.lever = s.lever ∧ s.moveGate.number = s.number ∧ s.moveGate.emitter = s.emitter ∧
    s.moveGate.line = s.line ∧ s.moveGate.hook = s.hook ∧ s.moveGate.rating = s.rating ∧
    s.moveGate.records = s.records ∧ s.moveGate.tamper = s.tamper ∧ s.moveGate.alarms = s.alarms ∧
    s.moveGate.report = s.report ∧ s.moveGate.status = s.status ∧ s.moveGate.mailbox = s.mailbox ∧
    s.moveGate.pending = s.pending := by
  simp only [State.moveGate]
  (repeat' split) <;> simp

@[simp] theorem State.nextOperation_frame (s : State) :
    s.nextOperation.now = s.now ∧ s.nextOperation.mem = s.mem ∧ s.nextOperation.pins = s.pins ∧
    s.nextOperation.power = s.power ∧ s.nextOperation.clock = s.clock ∧ s.nextOperation.setup = s.setup ∧
    s.nextOperation.lever = s.lever ∧ s.nextOperation.number = s.number ∧
    s.nextOperation.emitter = s.emitter ∧ s.nextOperation.line = s.line ∧ s.nextOperation.hook = s.hook ∧
    s.nextOperation.rating = s.rating ∧ s.nextOperation.records = s.records ∧
    s.nextOperation.tamper = s.tamper ∧ s.nextOperation.alarms = s.alarms ∧
    s.nextOperation.report = s.report ∧ s.nextOperation.cash = s.cash ∧ s.nextOperation.path = s.path ∧
    s.nextOperation.status = s.status ∧ s.nextOperation.mailbox = s.mailbox ∧
    s.nextOperation.pending = s.pending := by
  simp only [State.nextOperation]
  (repeat' split) <;> simp

@[simp] theorem State.collectEnd_frame (s : State) (v : Nat) :
    (s.collectEnd v).now = s.now ∧ (s.collectEnd v).mem = s.mem ∧ (s.collectEnd v).pins = s.pins ∧
    (s.collectEnd v).power = s.power ∧ (s.collectEnd v).clock = s.clock ∧ (s.collectEnd v).setup = s.setup ∧
    (s.collectEnd v).lever = s.lever ∧ (s.collectEnd v).hook = s.hook ∧ (s.collectEnd v).tamper = s.tamper ∧
    (s.collectEnd v).mailbox = s.mailbox ∧ (s.collectEnd v).pending = s.pending := by
  simp only [State.collectEnd]
  (repeat' split) <;> simp

@[simp] theorem State.refundEnd_frame (s : State) :
    s.refundEnd.now = s.now ∧ s.refundEnd.mem = s.mem ∧ s.refundEnd.pins = s.pins ∧
    s.refundEnd.power = s.power ∧ s.refundEnd.clock = s.clock ∧ s.refundEnd.setup = s.setup ∧
    s.refundEnd.lever = s.lever ∧ s.refundEnd.number = s.number ∧ s.refundEnd.emitter = s.emitter ∧
    s.refundEnd.line = s.line ∧ s.refundEnd.hook = s.hook ∧ s.refundEnd.rating = s.rating ∧
    s.refundEnd.records = s.records ∧ s.refundEnd.tamper = s.tamper ∧ s.refundEnd.alarms = s.alarms ∧
    s.refundEnd.report = s.report ∧ s.refundEnd.mailbox = s.mailbox ∧ s.refundEnd.pending = s.pending := by
  simp only [State.refundEnd]
  (repeat' split) <;> simp

@[simp] theorem State.settleCollect_frame (s : State) :
    s.settleCollect.now = s.now ∧ s.settleCollect.mem = s.mem ∧ s.settleCollect.pins = s.pins ∧
    s.settleCollect.power = s.power ∧ s.settleCollect.clock = s.clock ∧ s.settleCollect.setup = s.setup ∧
    s.settleCollect.lever = s.lever ∧ s.settleCollect.hook = s.hook ∧ s.settleCollect.tamper = s.tamper ∧
    s.settleCollect.mailbox = s.mailbox ∧ s.settleCollect.pending = s.pending := by
  simp only [State.settleCollect]
  (repeat' split) <;> simp

@[simp] theorem State.settleRefund_frame (s : State) :
    s.settleRefund.now = s.now ∧ s.settleRefund.mem = s.mem ∧ s.settleRefund.pins = s.pins ∧
    s.settleRefund.power = s.power ∧ s.settleRefund.clock = s.clock ∧ s.settleRefund.setup = s.setup ∧
    s.settleRefund.lever = s.lever ∧ s.settleRefund.hook = s.hook ∧ s.settleRefund.rating = s.rating ∧
    s.settleRefund.tamper = s.tamper ∧ s.settleRefund.mailbox = s.mailbox ∧
    s.settleRefund.pending = s.pending := by
  simp only [State.settleRefund]
  (repeat' split) <;> simp

@[simp] theorem State.jam_frame (s : State) :
    s.jam.now = s.now ∧ s.jam.mem = s.mem ∧ s.jam.pins = s.pins ∧ s.jam.power = s.power ∧
    s.jam.clock = s.clock ∧ s.jam.setup = s.setup ∧ s.jam.lever = s.lever ∧ s.jam.emitter = s.emitter ∧
    s.jam.hook = s.hook ∧ s.jam.records = s.records ∧ s.jam.tamper = s.tamper ∧ s.jam.mailbox = s.mailbox ∧
    s.jam.pending = s.pending := by
  simp [State.jam]

@[simp] theorem State.jamCollect_frame (s : State) :
    s.jamCollect.now = s.now ∧ s.jamCollect.mem = s.mem ∧ s.jamCollect.pins = s.pins ∧
    s.jamCollect.power = s.power ∧ s.jamCollect.clock = s.clock ∧ s.jamCollect.setup = s.setup ∧
    s.jamCollect.lever = s.lever ∧ s.jamCollect.hook = s.hook ∧ s.jamCollect.tamper = s.tamper ∧
    s.jamCollect.mailbox = s.mailbox ∧ s.jamCollect.pending = s.pending := by
  simp [State.jamCollect]

@[simp] theorem State.jamRefund_frame (s : State) :
    s.jamRefund.now = s.now ∧ s.jamRefund.mem = s.mem ∧ s.jamRefund.pins = s.pins ∧
    s.jamRefund.power = s.power ∧ s.jamRefund.clock = s.clock ∧ s.jamRefund.setup = s.setup ∧
    s.jamRefund.lever = s.lever ∧ s.jamRefund.hook = s.hook ∧ s.jamRefund.tamper = s.tamper ∧
    s.jamRefund.mailbox = s.mailbox ∧ s.jamRefund.pending = s.pending := by
  simp [State.jamRefund]

@[simp] theorem State.connectCall_frame (s : State) :
    s.connectCall.now = s.now ∧ s.connectCall.mem = s.mem ∧ s.connectCall.pins = s.pins ∧
    s.connectCall.power = s.power ∧ s.connectCall.clock = s.clock ∧ s.connectCall.setup = s.setup ∧
    s.connectCall.coin = s.coin ∧ s.connectCall.lever = s.lever ∧ s.connectCall.number = s.number ∧
    s.connectCall.emitter = s.emitter ∧ s.connectCall.hook = s.hook ∧ s.connectCall.rating = s.rating ∧
    s.connectCall.records = s.records ∧ s.connectCall.tamper = s.tamper ∧ s.connectCall.alarms = s.alarms ∧
    s.connectCall.report = s.report ∧ s.connectCall.cash = s.cash ∧ s.connectCall.path = s.path ∧
    s.connectCall.status = s.status ∧ s.connectCall.mailbox = s.mailbox ∧ s.connectCall.pending = s.pending := by
  simp only [State.connectCall]
  (repeat' split) <;> simp

@[simp] theorem State.answerCall_frame (s : State) (assumed : Bool) :
    (s.answerCall assumed).now = s.now ∧ (s.answerCall assumed).mem = s.mem ∧
    (s.answerCall assumed).pins = s.pins ∧ (s.answerCall assumed).power = s.power ∧
    (s.answerCall assumed).clock = s.clock ∧ (s.answerCall assumed).setup = s.setup ∧
    (s.answerCall assumed).lever = s.lever ∧ (s.answerCall assumed).hook = s.hook ∧
    (s.answerCall assumed).tamper = s.tamper ∧ (s.answerCall assumed).mailbox = s.mailbox ∧
    (s.answerCall assumed).pending = s.pending := by
  simp only [State.answerCall]
  (repeat' split) <;> simp

@[simp] theorem State.awaitCustomerAnswer_frame (s : State) :
    s.awaitCustomerAnswer.now = s.now ∧ s.awaitCustomerAnswer.mem = s.mem ∧
    s.awaitCustomerAnswer.pins = s.pins ∧ s.awaitCustomerAnswer.power = s.power ∧
    s.awaitCustomerAnswer.clock = s.clock ∧ s.awaitCustomerAnswer.setup = s.setup ∧
    s.awaitCustomerAnswer.lever = s.lever ∧ s.awaitCustomerAnswer.hook = s.hook ∧
    s.awaitCustomerAnswer.tamper = s.tamper ∧ s.awaitCustomerAnswer.mailbox = s.mailbox ∧
    s.awaitCustomerAnswer.pending = s.pending := by
  simp only [State.awaitCustomerAnswer]
  (repeat' split) <;> simp

@[simp] theorem State.restartToneCount_frame (s : State) :
    s.restartToneCount.now = s.now ∧ s.restartToneCount.mem = s.mem ∧ s.restartToneCount.pins = s.pins ∧
    s.restartToneCount.power = s.power ∧ s.restartToneCount.clock = s.clock ∧
    s.restartToneCount.setup = s.setup ∧ s.restartToneCount.coin = s.coin ∧
    s.restartToneCount.lever = s.lever ∧ s.restartToneCount.number = s.number ∧
    s.restartToneCount.emitter = s.emitter ∧ s.restartToneCount.hook = s.hook ∧
    s.restartToneCount.rating = s.rating ∧ s.restartToneCount.records = s.records ∧
    s.restartToneCount.tamper = s.tamper ∧ s.restartToneCount.alarms = s.alarms ∧
    s.restartToneCount.report = s.report ∧ s.restartToneCount.cash = s.cash ∧
    s.restartToneCount.path = s.path ∧ s.restartToneCount.status = s.status ∧
    s.restartToneCount.mailbox = s.mailbox ∧ s.restartToneCount.pending = s.pending := by
  simp only [State.restartToneCount]
  (repeat' split) <;> simp

@[simp] theorem State.awaitGo_frame (s : State) :
    s.awaitGo.now = s.now ∧ s.awaitGo.mem = s.mem ∧ s.awaitGo.pins = s.pins ∧ s.awaitGo.power = s.power ∧
    s.awaitGo.clock = s.clock ∧ s.awaitGo.setup = s.setup ∧ s.awaitGo.coin = s.coin ∧
    s.awaitGo.lever = s.lever ∧ s.awaitGo.number = s.number ∧ s.awaitGo.emitter = s.emitter ∧
    s.awaitGo.hook = s.hook ∧ s.awaitGo.rating = s.rating ∧ s.awaitGo.records = s.records ∧
    s.awaitGo.tamper = s.tamper ∧ s.awaitGo.alarms = s.alarms ∧ s.awaitGo.cash = s.cash ∧
    s.awaitGo.path = s.path ∧ s.awaitGo.status = s.status ∧ s.awaitGo.mailbox = s.mailbox ∧
    s.awaitGo.pending = s.pending := by
  simp [State.awaitGo]

@[simp] theorem State.awaitAck_frame (s : State) :
    s.awaitAck.now = s.now ∧ s.awaitAck.mem = s.mem ∧ s.awaitAck.pins = s.pins ∧
    s.awaitAck.power = s.power ∧ s.awaitAck.clock = s.clock ∧ s.awaitAck.setup = s.setup ∧
    s.awaitAck.coin = s.coin ∧ s.awaitAck.lever = s.lever ∧ s.awaitAck.number = s.number ∧
    s.awaitAck.emitter = s.emitter ∧ s.awaitAck.hook = s.hook ∧ s.awaitAck.rating = s.rating ∧
    s.awaitAck.records = s.records ∧ s.awaitAck.tamper = s.tamper ∧ s.awaitAck.alarms = s.alarms ∧
    s.awaitAck.cash = s.cash ∧ s.awaitAck.path = s.path ∧ s.awaitAck.status = s.status ∧
    s.awaitAck.mailbox = s.mailbox ∧ s.awaitAck.pending = s.pending := by
  simp [State.awaitAck]

@[simp] theorem State.numberSymbolEnds_frame (s : State) :
    s.numberSymbolEnds.now = s.now ∧ s.numberSymbolEnds.mem = s.mem ∧ s.numberSymbolEnds.pins = s.pins ∧
    s.numberSymbolEnds.power = s.power ∧ s.numberSymbolEnds.clock = s.clock ∧
    s.numberSymbolEnds.setup = s.setup ∧ s.numberSymbolEnds.lever = s.lever ∧
    s.numberSymbolEnds.hook = s.hook ∧ s.numberSymbolEnds.tamper = s.tamper ∧
    s.numberSymbolEnds.mailbox = s.mailbox ∧ s.numberSymbolEnds.pending = s.pending := by
  simp only [State.numberSymbolEnds]
  (repeat' split) <;> simp

@[simp] theorem State.reportDigitEnds_frame (s : State) :
    s.reportDigitEnds.now = s.now ∧ s.reportDigitEnds.mem = s.mem ∧ s.reportDigitEnds.pins = s.pins ∧
    s.reportDigitEnds.power = s.power ∧ s.reportDigitEnds.clock = s.clock ∧
    s.reportDigitEnds.setup = s.setup ∧ s.reportDigitEnds.coin = s.coin ∧
    s.reportDigitEnds.lever = s.lever ∧ s.reportDigitEnds.number = s.number ∧
    s.reportDigitEnds.emitter = s.emitter ∧ s.reportDigitEnds.hook = s.hook ∧
    s.reportDigitEnds.rating = s.rating ∧ s.reportDigitEnds.records = s.records ∧
    s.reportDigitEnds.tamper = s.tamper ∧ s.reportDigitEnds.alarms = s.alarms ∧
    s.reportDigitEnds.cash = s.cash ∧ s.reportDigitEnds.path = s.path ∧
    s.reportDigitEnds.status = s.status ∧ s.reportDigitEnds.mailbox = s.mailbox ∧
    s.reportDigitEnds.pending = s.pending := by
  simp only [State.reportDigitEnds]
  (repeat' split) <;> simp

@[simp] theorem State.messageSymbolEnds_frame (s : State) :
    s.messageSymbolEnds.now = s.now ∧ s.messageSymbolEnds.mem = s.mem ∧ s.messageSymbolEnds.pins = s.pins ∧
    s.messageSymbolEnds.power = s.power ∧ s.messageSymbolEnds.clock = s.clock ∧
    s.messageSymbolEnds.setup = s.setup ∧ s.messageSymbolEnds.coin = s.coin ∧
    s.messageSymbolEnds.lever = s.lever ∧ s.messageSymbolEnds.number = s.number ∧
    s.messageSymbolEnds.emitter = s.emitter ∧ s.messageSymbolEnds.hook = s.hook ∧
    s.messageSymbolEnds.rating = s.rating ∧ s.messageSymbolEnds.records = s.records ∧
    s.messageSymbolEnds.tamper = s.tamper ∧ s.messageSymbolEnds.alarms = s.alarms ∧
    s.messageSymbolEnds.cash = s.cash ∧ s.messageSymbolEnds.path = s.path ∧
    s.messageSymbolEnds.status = s.status ∧ s.messageSymbolEnds.mailbox = s.mailbox ∧
    s.messageSymbolEnds.pending = s.pending := by
  simp only [State.messageSymbolEnds]
  (repeat' split) <;> simp

@[simp] theorem State.reportEnd_frame (s : State)  (x0 : ItemUse) :
    (s.reportEnd x0).now = s.now ∧ (s.reportEnd x0).mem = s.mem ∧ (s.reportEnd x0).pins = s.pins ∧
    (s.reportEnd x0).power = s.power ∧ (s.reportEnd x0).clock = s.clock ∧ (s.reportEnd x0).setup = s.setup ∧
    (s.reportEnd x0).lever = s.lever ∧ (s.reportEnd x0).hook = s.hook ∧ (s.reportEnd x0).tamper = s.tamper ∧
    (s.reportEnd x0).mailbox = s.mailbox ∧ (s.reportEnd x0).pending = s.pending := by
  cases x0 <;> simp [State.reportEnd]

@[simp] theorem State.endItem_frame (s : State) (use : ItemUse) :
    (s.endItem use).now = s.now ∧ (s.endItem use).mem = s.mem ∧ (s.endItem use).pins = s.pins ∧
    (s.endItem use).power = s.power ∧ (s.endItem use).clock = s.clock ∧ (s.endItem use).setup = s.setup ∧
    (s.endItem use).lever = s.lever ∧ (s.endItem use).hook = s.hook ∧ (s.endItem use).tamper = s.tamper ∧
    (s.endItem use).mailbox = s.mailbox ∧ (s.endItem use).pending = s.pending := by
  simp [State.endItem]

@[simp] theorem State.dialToneReady_frame (s : State) :
    s.dialToneReady.now = s.now ∧ s.dialToneReady.mem = s.mem ∧ s.dialToneReady.pins = s.pins ∧
    s.dialToneReady.power = s.power ∧ s.dialToneReady.clock = s.clock ∧ s.dialToneReady.setup = s.setup ∧
    s.dialToneReady.coin = s.coin ∧ s.dialToneReady.lever = s.lever ∧ s.dialToneReady.hook = s.hook ∧
    s.dialToneReady.rating = s.rating ∧ s.dialToneReady.records = s.records ∧
    s.dialToneReady.tamper = s.tamper ∧ s.dialToneReady.alarms = s.alarms ∧ s.dialToneReady.cash = s.cash ∧
    s.dialToneReady.path = s.path ∧ s.dialToneReady.mailbox = s.mailbox ∧
    s.dialToneReady.pending = s.pending := by
  simp only [State.dialToneReady]
  (repeat' split) <;> simp

@[simp] theorem State.endOwner_frame (s : State) (cause : EndCause) :
    (s.endOwner cause).now = s.now ∧ (s.endOwner cause).mem = s.mem ∧ (s.endOwner cause).pins = s.pins ∧
    (s.endOwner cause).power = s.power ∧ (s.endOwner cause).clock = s.clock ∧
    (s.endOwner cause).setup = s.setup ∧ (s.endOwner cause).coin = s.coin ∧
    (s.endOwner cause).lever = s.lever ∧ (s.endOwner cause).hook = s.hook ∧
    (s.endOwner cause).tamper = s.tamper ∧ (s.endOwner cause).mailbox = s.mailbox ∧
    (s.endOwner cause).pending = s.pending := by
  simp only [State.endOwner]
  (repeat' split) <;> simp

@[simp] theorem State.tryFails_frame (s : State) :
    s.tryFails.now = s.now ∧ s.tryFails.mem = s.mem ∧ s.tryFails.pins = s.pins ∧
    s.tryFails.power = s.power ∧ s.tryFails.clock = s.clock ∧ s.tryFails.setup = s.setup ∧
    s.tryFails.coin = s.coin ∧ s.tryFails.lever = s.lever ∧ s.tryFails.hook = s.hook ∧
    s.tryFails.tamper = s.tamper ∧ s.tryFails.mailbox = s.mailbox ∧ s.tryFails.pending = s.pending := by
  simp only [State.tryFails]
  (repeat' split) <;> simp

@[simp] theorem State.guardEnds_frame (s : State) :
    s.guardEnds.now = s.now ∧ s.guardEnds.mem = s.mem ∧ s.guardEnds.pins = s.pins ∧
    s.guardEnds.power = s.power ∧ s.guardEnds.clock = s.clock ∧ s.guardEnds.setup = s.setup ∧
    s.guardEnds.coin = s.coin ∧ s.guardEnds.lever = s.lever ∧ s.guardEnds.number = s.number ∧
    s.guardEnds.emitter = s.emitter ∧ s.guardEnds.hook = s.hook ∧ s.guardEnds.rating = s.rating ∧
    s.guardEnds.records = s.records ∧ s.guardEnds.tamper = s.tamper ∧ s.guardEnds.alarms = s.alarms ∧
    s.guardEnds.report = s.report ∧ s.guardEnds.mailbox = s.mailbox ∧ s.guardEnds.pending = s.pending := by
  simp only [State.guardEnds]
  (repeat' split) <;> simp

@[simp] theorem State.flash_frame (s : State) :
    s.flash.now = s.now ∧ s.flash.mem = s.mem ∧ s.flash.pins = s.pins ∧ s.flash.power = s.power ∧
    s.flash.clock = s.clock ∧ s.flash.setup = s.setup ∧ s.flash.coin = s.coin ∧ s.flash.lever = s.lever ∧
    s.flash.number = s.number ∧ s.flash.emitter = s.emitter ∧ s.flash.line = s.line ∧
    s.flash.hook = s.hook ∧ s.flash.records = s.records ∧ s.flash.tamper = s.tamper ∧
    s.flash.alarms = s.alarms ∧ s.flash.report = s.report ∧ s.flash.mailbox = s.mailbox ∧
    s.flash.pending = s.pending := by
  simp only [State.flash]
  (repeat' split) <;> simp

@[simp] theorem State.hookOn_frame (s : State) :
    s.hookOn.now = s.now ∧ s.hookOn.mem = s.mem ∧ s.hookOn.pins = s.pins ∧ s.hookOn.power = s.power ∧
    s.hookOn.clock = s.clock ∧ s.hookOn.setup = s.setup ∧ s.hookOn.coin = s.coin ∧
    s.hookOn.lever = s.lever ∧ s.hookOn.number = s.number ∧ s.hookOn.emitter = s.emitter ∧
    s.hookOn.line = s.line ∧ s.hookOn.rating = s.rating ∧ s.hookOn.records = s.records ∧
    s.hookOn.tamper = s.tamper ∧ s.hookOn.alarms = s.alarms ∧ s.hookOn.report = s.report ∧
    s.hookOn.cash = s.cash ∧ s.hookOn.path = s.path ∧ s.hookOn.status = s.status ∧
    s.hookOn.mailbox = s.mailbox ∧ s.hookOn.pending = s.pending := by
  simp only [State.hookOn]
  (repeat' split) <;> simp

@[simp] theorem State.hookOff_frame (s : State) :
    s.hookOff.now = s.now ∧ s.hookOff.mem = s.mem ∧ s.hookOff.pins = s.pins ∧ s.hookOff.power = s.power ∧
    s.hookOff.clock = s.clock ∧ s.hookOff.setup = s.setup ∧ s.hookOff.coin = s.coin ∧
    s.hookOff.lever = s.lever ∧ s.hookOff.number = s.number ∧ s.hookOff.emitter = s.emitter ∧
    s.hookOff.line = s.line ∧ s.hookOff.records = s.records ∧ s.hookOff.tamper = s.tamper ∧
    s.hookOff.alarms = s.alarms ∧ s.hookOff.report = s.report ∧ s.hookOff.mailbox = s.mailbox ∧
    s.hookOff.pending = s.pending := by
  simp only [State.hookOff]
  (repeat' split) <;> simp

@[simp] theorem State.endAtClear_frame (s : State) :
    s.endAtClear.now = s.now ∧ s.endAtClear.mem = s.mem ∧ s.endAtClear.pins = s.pins ∧
    s.endAtClear.power = s.power ∧ s.endAtClear.clock = s.clock ∧ s.endAtClear.setup = s.setup ∧
    s.endAtClear.coin = s.coin ∧ s.endAtClear.lever = s.lever ∧ s.endAtClear.hook = s.hook ∧
    s.endAtClear.tamper = s.tamper ∧ s.endAtClear.mailbox = s.mailbox ∧ s.endAtClear.pending = s.pending := by
  simp only [State.endAtClear]
  (repeat' split) <;> simp

@[simp] theorem State.hookClear_frame (s : State) :
    s.hookClear.now = s.now ∧ s.hookClear.mem = s.mem ∧ s.hookClear.pins = s.pins ∧
    s.hookClear.power = s.power ∧ s.hookClear.clock = s.clock ∧ s.hookClear.setup = s.setup ∧
    s.hookClear.lever = s.lever ∧ s.hookClear.tamper = s.tamper ∧ s.hookClear.mailbox = s.mailbox ∧
    s.hookClear.pending = s.pending := by
  simp [State.hookClear]

@[simp] theorem State.lineLost_frame (s : State) :
    s.lineLost.now = s.now ∧ s.lineLost.mem = s.mem ∧ s.lineLost.pins = s.pins ∧
    s.lineLost.power = s.power ∧ s.lineLost.clock = s.clock ∧ s.lineLost.setup = s.setup ∧
    s.lineLost.lever = s.lever ∧ s.lineLost.hook = s.hook ∧ s.lineLost.tamper = s.tamper ∧
    s.lineLost.mailbox = s.mailbox ∧ s.lineLost.pending = s.pending := by
  simp [State.lineLost]

@[simp] theorem State.lineFound_frame (s : State) :
    s.lineFound.now = s.now ∧ s.lineFound.mem = s.mem ∧ s.lineFound.pins = s.pins ∧
    s.lineFound.power = s.power ∧ s.lineFound.clock = s.clock ∧ s.lineFound.setup = s.setup ∧
    s.lineFound.lever = s.lever ∧ s.lineFound.hook = s.hook ∧ s.lineFound.tamper = s.tamper ∧
    s.lineFound.mailbox = s.mailbox ∧ s.lineFound.pending = s.pending := by
  simp [State.lineFound]

@[simp] theorem State.updSwitch_frame (s : State) (i : TamperInput) (f : TamperSwitch → TamperSwitch) :
    (s.updSwitch i f).now = s.now ∧ (s.updSwitch i f).mem = s.mem ∧ (s.updSwitch i f).pins = s.pins ∧
    (s.updSwitch i f).power = s.power ∧ (s.updSwitch i f).clock = s.clock ∧
    (s.updSwitch i f).setup = s.setup ∧ (s.updSwitch i f).coin = s.coin ∧
    (s.updSwitch i f).lever = s.lever ∧ (s.updSwitch i f).number = s.number ∧
    (s.updSwitch i f).emitter = s.emitter ∧ (s.updSwitch i f).line = s.line ∧
    (s.updSwitch i f).hook = s.hook ∧ (s.updSwitch i f).rating = s.rating ∧
    (s.updSwitch i f).records = s.records ∧ (s.updSwitch i f).alarms = s.alarms ∧
    (s.updSwitch i f).report = s.report ∧ (s.updSwitch i f).cash = s.cash ∧
    (s.updSwitch i f).path = s.path ∧ (s.updSwitch i f).status = s.status ∧
    (s.updSwitch i f).mailbox = s.mailbox ∧ (s.updSwitch i f).pending = s.pending := by
  simp [State.updSwitch]

@[simp] theorem State.standingConditions_frame (s : State) :
    s.standingConditions.now = s.now ∧ s.standingConditions.mem = s.mem ∧
    s.standingConditions.pins = s.pins ∧ s.standingConditions.power = s.power ∧
    s.standingConditions.clock = s.clock ∧ s.standingConditions.setup = s.setup ∧
    s.standingConditions.coin = s.coin ∧ s.standingConditions.lever = s.lever ∧
    s.standingConditions.number = s.number ∧ s.standingConditions.emitter = s.emitter ∧
    s.standingConditions.hook = s.hook ∧ s.standingConditions.rating = s.rating ∧
    s.standingConditions.records = s.records ∧ s.standingConditions.tamper = s.tamper ∧
    s.standingConditions.mailbox = s.mailbox ∧ s.standingConditions.pending = s.pending := by
  simp only [State.standingConditions]
  (repeat' split) <;> simp

@[simp] theorem State.openSession_frame (s : State) :
    s.openSession.now = s.now ∧ s.openSession.mem = s.mem ∧ s.openSession.pins = s.pins ∧
    s.openSession.power = s.power ∧ s.openSession.clock = s.clock ∧ s.openSession.setup = s.setup ∧
    s.openSession.lever = s.lever ∧ s.openSession.hook = s.hook ∧ s.openSession.mailbox = s.mailbox ∧
    s.openSession.pending = s.pending := by
  simp [State.openSession]

@[simp] theorem State.clearSummary_frame (s : State) :
    s.clearSummary.now = s.now ∧ s.clearSummary.mem = s.mem ∧ s.clearSummary.pins = s.pins ∧
    s.clearSummary.power = s.power ∧ s.clearSummary.clock = s.clock ∧ s.clearSummary.setup = s.setup ∧
    s.clearSummary.coin = s.coin ∧ s.clearSummary.lever = s.lever ∧ s.clearSummary.number = s.number ∧
    s.clearSummary.emitter = s.emitter ∧ s.clearSummary.line = s.line ∧ s.clearSummary.hook = s.hook ∧
    s.clearSummary.rating = s.rating ∧ s.clearSummary.records = s.records ∧
    s.clearSummary.tamper = s.tamper ∧ s.clearSummary.alarms = s.alarms ∧ s.clearSummary.report = s.report ∧
    s.clearSummary.status = s.status ∧ s.clearSummary.mailbox = s.mailbox ∧
    s.clearSummary.pending = s.pending := by
  simp only [State.clearSummary]
  (repeat' split) <;> simp

@[simp] theorem State.clearAlarms_frame (s : State) :
    s.clearAlarms.now = s.now ∧ s.clearAlarms.mem = s.mem ∧ s.clearAlarms.pins = s.pins ∧
    s.clearAlarms.power = s.power ∧ s.clearAlarms.clock = s.clock ∧ s.clearAlarms.setup = s.setup ∧
    s.clearAlarms.coin = s.coin ∧ s.clearAlarms.lever = s.lever ∧ s.clearAlarms.number = s.number ∧
    s.clearAlarms.emitter = s.emitter ∧ s.clearAlarms.line = s.line ∧ s.clearAlarms.hook = s.hook ∧
    s.clearAlarms.rating = s.rating ∧ s.clearAlarms.records = s.records ∧ s.clearAlarms.tamper = s.tamper ∧
    s.clearAlarms.report = s.report ∧ s.clearAlarms.mailbox = s.mailbox ∧ s.clearAlarms.pending = s.pending := by
  simp only [State.clearAlarms]
  (repeat' split) <;> simp

@[simp] theorem State.closeSession_frame (s : State) :
    s.closeSession.now = s.now ∧ s.closeSession.mem = s.mem ∧ s.closeSession.pins = s.pins ∧
    s.closeSession.power = s.power ∧ s.closeSession.clock = s.clock ∧ s.closeSession.setup = s.setup ∧
    s.closeSession.lever = s.lever ∧ s.closeSession.number = s.number ∧ s.closeSession.emitter = s.emitter ∧
    s.closeSession.hook = s.hook ∧ s.closeSession.rating = s.rating ∧ s.closeSession.records = s.records ∧
    s.closeSession.mailbox = s.mailbox ∧ s.closeSession.pending = s.pending := by
  simp only [State.closeSession]
  (repeat' split) <;> simp

@[simp] theorem State.oweClose_frame (s : State) :
    s.oweClose.now = s.now ∧ s.oweClose.mem = s.mem ∧ s.oweClose.pins = s.pins ∧
    s.oweClose.power = s.power ∧ s.oweClose.clock = s.clock ∧ s.oweClose.setup = s.setup ∧
    s.oweClose.coin = s.coin ∧ s.oweClose.lever = s.lever ∧ s.oweClose.number = s.number ∧
    s.oweClose.emitter = s.emitter ∧ s.oweClose.line = s.line ∧ s.oweClose.hook = s.hook ∧
    s.oweClose.rating = s.rating ∧ s.oweClose.records = s.records ∧ s.oweClose.tamper = s.tamper ∧
    s.oweClose.alarms = s.alarms ∧ s.oweClose.report = s.report ∧ s.oweClose.status = s.status ∧
    s.oweClose.mailbox = s.mailbox ∧ s.oweClose.pending = s.pending := by
  simp only [State.oweClose]
  (repeat' split) <;> simp

@[simp] theorem State.vaultEdge_frame (s : State) (active : Bool) :
    (s.vaultEdge active).now = s.now ∧ (s.vaultEdge active).mem = s.mem ∧
    (s.vaultEdge active).pins = s.pins ∧ (s.vaultEdge active).power = s.power ∧
    (s.vaultEdge active).clock = s.clock ∧ (s.vaultEdge active).setup = s.setup ∧
    (s.vaultEdge active).lever = s.lever ∧ (s.vaultEdge active).number = s.number ∧
    (s.vaultEdge active).emitter = s.emitter ∧ (s.vaultEdge active).hook = s.hook ∧
    (s.vaultEdge active).rating = s.rating ∧ (s.vaultEdge active).records = s.records ∧
    (s.vaultEdge active).mailbox = s.mailbox ∧ (s.vaultEdge active).pending = s.pending := by
  simp only [State.vaultEdge]
  (repeat' split) <;> simp

@[simp] theorem State.cordEdge_frame (s : State) (active : Bool) :
    (s.cordEdge active).now = s.now ∧ (s.cordEdge active).mem = s.mem ∧ (s.cordEdge active).pins = s.pins ∧
    (s.cordEdge active).power = s.power ∧ (s.cordEdge active).clock = s.clock ∧
    (s.cordEdge active).setup = s.setup ∧ (s.cordEdge active).coin = s.coin ∧
    (s.cordEdge active).lever = s.lever ∧ (s.cordEdge active).number = s.number ∧
    (s.cordEdge active).emitter = s.emitter ∧ (s.cordEdge active).line = s.line ∧
    (s.cordEdge active).hook = s.hook ∧ (s.cordEdge active).rating = s.rating ∧
    (s.cordEdge active).records = s.records ∧ (s.cordEdge active).alarms = s.alarms ∧
    (s.cordEdge active).report = s.report ∧ (s.cordEdge active).cash = s.cash ∧
    (s.cordEdge active).path = s.path ∧ (s.cordEdge active).status = s.status ∧
    (s.cordEdge active).mailbox = s.mailbox ∧ (s.cordEdge active).pending = s.pending := by
  simp only [State.cordEdge]
  (repeat' split) <;> simp

@[simp] theorem State.shockEdge_frame (s : State) :
    s.shockEdge.now = s.now ∧ s.shockEdge.mem = s.mem ∧ s.shockEdge.pins = s.pins ∧
    s.shockEdge.power = s.power ∧ s.shockEdge.clock = s.clock ∧ s.shockEdge.setup = s.setup ∧
    s.shockEdge.coin = s.coin ∧ s.shockEdge.lever = s.lever ∧ s.shockEdge.number = s.number ∧
    s.shockEdge.emitter = s.emitter ∧ s.shockEdge.hook = s.hook ∧ s.shockEdge.rating = s.rating ∧
    s.shockEdge.records = s.records ∧ s.shockEdge.mailbox = s.mailbox ∧ s.shockEdge.pending = s.pending := by
  simp only [State.shockEdge]
  (repeat' split) <;> simp

@[simp] theorem State.actOnEdge_frame (s : State) (i : TamperInput) (active : Bool) :
    (s.actOnEdge i active).now = s.now ∧ (s.actOnEdge i active).mem = s.mem ∧
    (s.actOnEdge i active).pins = s.pins ∧ (s.actOnEdge i active).power = s.power ∧
    (s.actOnEdge i active).clock = s.clock ∧ (s.actOnEdge i active).setup = s.setup ∧
    (s.actOnEdge i active).lever = s.lever ∧ (s.actOnEdge i active).hook = s.hook ∧
    (s.actOnEdge i active).mailbox = s.mailbox ∧ (s.actOnEdge i active).pending = s.pending := by
  simp only [State.actOnEdge]
  (repeat' split) <;> simp

@[simp] theorem State.followLevel_frame (s : State) (i : TamperInput) :
    (s.followLevel i).now = s.now ∧ (s.followLevel i).mem = s.mem ∧ (s.followLevel i).pins = s.pins ∧
    (s.followLevel i).power = s.power ∧ (s.followLevel i).clock = s.clock ∧
    (s.followLevel i).setup = s.setup ∧ (s.followLevel i).lever = s.lever ∧
    (s.followLevel i).hook = s.hook ∧ (s.followLevel i).mailbox = s.mailbox ∧
    (s.followLevel i).pending = s.pending := by
  simp only [State.followLevel]
  (repeat' split) <;> simp

@[simp] theorem State.settleLevel_frame (s : State) (i : TamperInput) :
    (s.settleLevel i).now = s.now ∧ (s.settleLevel i).mem = s.mem ∧ (s.settleLevel i).pins = s.pins ∧
    (s.settleLevel i).power = s.power ∧ (s.settleLevel i).clock = s.clock ∧
    (s.settleLevel i).setup = s.setup ∧ (s.settleLevel i).lever = s.lever ∧
    (s.settleLevel i).hook = s.hook ∧ (s.settleLevel i).mailbox = s.mailbox ∧
    (s.settleLevel i).pending = s.pending := by
  simp [State.settleLevel]

@[simp] theorem State.firstLevel_frame (s : State) (i : TamperInput) :
    (s.firstLevel i).now = s.now ∧ (s.firstLevel i).mem = s.mem ∧ (s.firstLevel i).pins = s.pins ∧
    (s.firstLevel i).power = s.power ∧ (s.firstLevel i).clock = s.clock ∧ (s.firstLevel i).setup = s.setup ∧
    (s.firstLevel i).coin = s.coin ∧ (s.firstLevel i).lever = s.lever ∧ (s.firstLevel i).number = s.number ∧
    (s.firstLevel i).emitter = s.emitter ∧ (s.firstLevel i).line = s.line ∧ (s.firstLevel i).hook = s.hook ∧
    (s.firstLevel i).rating = s.rating ∧ (s.firstLevel i).records = s.records ∧
    (s.firstLevel i).alarms = s.alarms ∧ (s.firstLevel i).report = s.report ∧
    (s.firstLevel i).cash = s.cash ∧ (s.firstLevel i).path = s.path ∧ (s.firstLevel i).status = s.status ∧
    (s.firstLevel i).mailbox = s.mailbox ∧ (s.firstLevel i).pending = s.pending := by
  simp [State.firstLevel]

@[simp] theorem State.actOnFirst_frame (s : State) :
    s.actOnFirst.now = s.now ∧ s.actOnFirst.mem = s.mem ∧ s.actOnFirst.pins = s.pins ∧
    s.actOnFirst.power = s.power ∧ s.actOnFirst.clock = s.clock ∧ s.actOnFirst.setup = s.setup ∧
    s.actOnFirst.lever = s.lever ∧ s.actOnFirst.hook = s.hook ∧ s.actOnFirst.mailbox = s.mailbox ∧
    s.actOnFirst.pending = s.pending := by
  simp only [State.actOnFirst]
  (repeat' split) <;> simp

@[simp] theorem State.firstStatuses_frame (s : State) :
    s.firstStatuses.now = s.now ∧ s.firstStatuses.mem = s.mem ∧ s.firstStatuses.pins = s.pins ∧
    s.firstStatuses.clock = s.clock ∧ s.firstStatuses.setup = s.setup ∧ s.firstStatuses.lever = s.lever ∧
    s.firstStatuses.hook = s.hook ∧ s.firstStatuses.mailbox = s.mailbox ∧
    s.firstStatuses.pending = s.pending := by
  simp [State.firstStatuses, tamperInputs]

@[simp] theorem State.reloadFill_frame (s : State) :
    s.reloadFill.now = s.now ∧ s.reloadFill.mem = s.mem ∧ s.reloadFill.pins = s.pins ∧
    s.reloadFill.power = s.power ∧ s.reloadFill.clock = s.clock ∧ s.reloadFill.setup = s.setup ∧
    s.reloadFill.lever = s.lever ∧ s.reloadFill.emitter = s.emitter ∧ s.reloadFill.hook = s.hook ∧
    s.reloadFill.records = s.records ∧ s.reloadFill.tamper = s.tamper ∧ s.reloadFill.mailbox = s.mailbox ∧
    s.reloadFill.pending = s.pending := by
  simp only [State.reloadFill]
  (repeat' split) <;> simp

@[simp] theorem State.reloadAlarms_frame (s : State) :
    s.reloadAlarms.now = s.now ∧ s.reloadAlarms.mem = s.mem ∧ s.reloadAlarms.pins = s.pins ∧
    s.reloadAlarms.power = s.power ∧ s.reloadAlarms.clock = s.clock ∧ s.reloadAlarms.setup = s.setup ∧
    s.reloadAlarms.coin = s.coin ∧ s.reloadAlarms.lever = s.lever ∧ s.reloadAlarms.number = s.number ∧
    s.reloadAlarms.emitter = s.emitter ∧ s.reloadAlarms.hook = s.hook ∧ s.reloadAlarms.rating = s.rating ∧
    s.reloadAlarms.records = s.records ∧ s.reloadAlarms.tamper = s.tamper ∧
    s.reloadAlarms.mailbox = s.mailbox ∧ s.reloadAlarms.pending = s.pending := by
  simp only [State.reloadAlarms]
  (repeat' split) <;> simp

@[simp] theorem State.reloadThreshold_frame (s : State) :
    s.reloadThreshold.now = s.now ∧ s.reloadThreshold.mem = s.mem ∧ s.reloadThreshold.pins = s.pins ∧
    s.reloadThreshold.power = s.power ∧ s.reloadThreshold.clock = s.clock ∧
    s.reloadThreshold.setup = s.setup ∧ s.reloadThreshold.coin = s.coin ∧
    s.reloadThreshold.lever = s.lever ∧ s.reloadThreshold.emitter = s.emitter ∧
    s.reloadThreshold.line = s.line ∧ s.reloadThreshold.hook = s.hook ∧
    s.reloadThreshold.rating = s.rating ∧ s.reloadThreshold.records = s.records ∧
    s.reloadThreshold.tamper = s.tamper ∧ s.reloadThreshold.alarms = s.alarms ∧
    s.reloadThreshold.report = s.report ∧ s.reloadThreshold.cash = s.cash ∧
    s.reloadThreshold.path = s.path ∧ s.reloadThreshold.mailbox = s.mailbox ∧
    s.reloadThreshold.pending = s.pending := by
  simp only [State.reloadThreshold]
  (repeat' split) <;> simp

@[simp] theorem State.reloadCashBase_frame (s : State) (old : Nat) :
    (s.reloadCashBase old).now = s.now ∧ (s.reloadCashBase old).mem = s.mem ∧
    (s.reloadCashBase old).pins = s.pins ∧ (s.reloadCashBase old).power = s.power ∧
    (s.reloadCashBase old).clock = s.clock ∧ (s.reloadCashBase old).setup = s.setup ∧
    (s.reloadCashBase old).coin = s.coin ∧ (s.reloadCashBase old).lever = s.lever ∧
    (s.reloadCashBase old).number = s.number ∧ (s.reloadCashBase old).emitter = s.emitter ∧
    (s.reloadCashBase old).line = s.line ∧ (s.reloadCashBase old).hook = s.hook ∧
    (s.reloadCashBase old).rating = s.rating ∧ (s.reloadCashBase old).records = s.records ∧
    (s.reloadCashBase old).tamper = s.tamper ∧ (s.reloadCashBase old).alarms = s.alarms ∧
    (s.reloadCashBase old).report = s.report ∧ (s.reloadCashBase old).status = s.status ∧
    (s.reloadCashBase old).mailbox = s.mailbox ∧ (s.reloadCashBase old).pending = s.pending := by
  simp only [State.reloadCashBase]
  (repeat' split) <;> simp

@[simp] theorem State.reloadRecordsBase_frame (s : State) (old : Nat) :
    (s.reloadRecordsBase old).now = s.now ∧ (s.reloadRecordsBase old).mem = s.mem ∧
    (s.reloadRecordsBase old).pins = s.pins ∧ (s.reloadRecordsBase old).power = s.power ∧
    (s.reloadRecordsBase old).clock = s.clock ∧ (s.reloadRecordsBase old).setup = s.setup ∧
    (s.reloadRecordsBase old).coin = s.coin ∧ (s.reloadRecordsBase old).lever = s.lever ∧
    (s.reloadRecordsBase old).number = s.number ∧ (s.reloadRecordsBase old).emitter = s.emitter ∧
    (s.reloadRecordsBase old).line = s.line ∧ (s.reloadRecordsBase old).hook = s.hook ∧
    (s.reloadRecordsBase old).rating = s.rating ∧ (s.reloadRecordsBase old).tamper = s.tamper ∧
    (s.reloadRecordsBase old).alarms = s.alarms ∧ (s.reloadRecordsBase old).report = s.report ∧
    (s.reloadRecordsBase old).cash = s.cash ∧ (s.reloadRecordsBase old).status = s.status ∧
    (s.reloadRecordsBase old).mailbox = s.mailbox ∧ (s.reloadRecordsBase old).pending = s.pending := by
  simp only [State.reloadRecordsBase]
  (repeat' split) <;> simp

@[simp] theorem State.applySettings_frame (s : State) (new : Settings) :
    (s.applySettings new).now = s.now ∧ (s.applySettings new).mem = s.mem ∧
    (s.applySettings new).pins = s.pins ∧ (s.applySettings new).power = s.power ∧
    (s.applySettings new).clock = s.clock ∧ (s.applySettings new).lever = s.lever ∧
    (s.applySettings new).hook = s.hook ∧ (s.applySettings new).mailbox = s.mailbox ∧
    (s.applySettings new).pending = s.pending := by
  simp [State.applySettings, tamperInputs]

@[simp] theorem State.wiped_frame (s : State) :
    s.wiped.now = s.now ∧ s.wiped.mem = s.mem ∧ s.wiped.pins = s.pins ∧ s.wiped.clock = s.clock ∧
    s.wiped.pending = s.pending := by
  simp [State.wiped]

@[simp] theorem State.beginStart_frame (s : State) (cause : StartCause) :
    (s.beginStart cause).now = s.now ∧ (s.beginStart cause).mem = s.mem ∧
    (s.beginStart cause).pins = s.pins ∧ (s.beginStart cause).clock = s.clock ∧
    (s.beginStart cause).pending = s.pending := by
  simp [State.beginStart]

@[simp] theorem State.beginHeaderRead_frame (s : State) :
    s.beginHeaderRead.now = s.now ∧ s.beginHeaderRead.mem = s.mem ∧ s.beginHeaderRead.pins = s.pins ∧
    s.beginHeaderRead.clock = s.clock ∧ s.beginHeaderRead.setup = s.setup ∧
    s.beginHeaderRead.coin = s.coin ∧ s.beginHeaderRead.lever = s.lever ∧
    s.beginHeaderRead.number = s.number ∧ s.beginHeaderRead.emitter = s.emitter ∧
    s.beginHeaderRead.line = s.line ∧ s.beginHeaderRead.hook = s.hook ∧
    s.beginHeaderRead.rating = s.rating ∧ s.beginHeaderRead.tamper = s.tamper ∧
    s.beginHeaderRead.alarms = s.alarms ∧ s.beginHeaderRead.report = s.report ∧
    s.beginHeaderRead.cash = s.cash ∧ s.beginHeaderRead.status = s.status ∧
    s.beginHeaderRead.mailbox = s.mailbox ∧ s.beginHeaderRead.pending = s.pending := by
  simp [State.beginHeaderRead]

@[simp] theorem State.setupLoadDone_frame (s : State) (ws : List Word) :
    (s.setupLoadDone ws).now = s.now ∧ (s.setupLoadDone ws).mem = s.mem ∧
    (s.setupLoadDone ws).pins = s.pins ∧ (s.setupLoadDone ws).clock = s.clock ∧
    (s.setupLoadDone ws).lever = s.lever ∧ (s.setupLoadDone ws).emitter = s.emitter ∧
    (s.setupLoadDone ws).hook = s.hook ∧ (s.setupLoadDone ws).tamper = s.tamper ∧
    (s.setupLoadDone ws).alarms = s.alarms ∧ (s.setupLoadDone ws).report = s.report ∧
    (s.setupLoadDone ws).cash = s.cash ∧ (s.setupLoadDone ws).mailbox = s.mailbox ∧
    (s.setupLoadDone ws).pending = s.pending := by
  simp only [State.setupLoadDone]
  (repeat' split) <;> simp

@[simp] theorem State.headerReadDone_frame (s : State) (ws : List Word) :
    (s.headerReadDone ws).now = s.now ∧ (s.headerReadDone ws).mem = s.mem ∧
    (s.headerReadDone ws).pins = s.pins ∧ (s.headerReadDone ws).clock = s.clock ∧
    (s.headerReadDone ws).setup = s.setup ∧ (s.headerReadDone ws).coin = s.coin ∧
    (s.headerReadDone ws).lever = s.lever ∧ (s.headerReadDone ws).number = s.number ∧
    (s.headerReadDone ws).emitter = s.emitter ∧ (s.headerReadDone ws).line = s.line ∧
    (s.headerReadDone ws).hook = s.hook ∧ (s.headerReadDone ws).rating = s.rating ∧
    (s.headerReadDone ws).tamper = s.tamper ∧ (s.headerReadDone ws).alarms = s.alarms ∧
    (s.headerReadDone ws).report = s.report ∧ (s.headerReadDone ws).status = s.status ∧
    (s.headerReadDone ws).mailbox = s.mailbox ∧ (s.headerReadDone ws).pending = s.pending := by
  simp [State.headerReadDone]

@[simp] theorem State.restoreImage_frame (s : State) (ws : List Word) :
    (s.restoreImage ws).now = s.now ∧ (s.restoreImage ws).mem = s.mem ∧ (s.restoreImage ws).pins = s.pins ∧
    (s.restoreImage ws).clock = s.clock ∧ (s.restoreImage ws).setup = s.setup ∧
    (s.restoreImage ws).coin = s.coin ∧ (s.restoreImage ws).lever = s.lever ∧
    (s.restoreImage ws).number = s.number ∧ (s.restoreImage ws).emitter = s.emitter ∧
    (s.restoreImage ws).line = s.line ∧ (s.restoreImage ws).hook = s.hook ∧
    (s.restoreImage ws).rating = s.rating ∧ (s.restoreImage ws).records = s.records ∧
    (s.restoreImage ws).tamper = s.tamper ∧ (s.restoreImage ws).alarms = s.alarms ∧
    (s.restoreImage ws).report = s.report ∧ (s.restoreImage ws).path = s.path ∧
    (s.restoreImage ws).mailbox = s.mailbox ∧ (s.restoreImage ws).pending = s.pending := by
  simp only [State.restoreImage]
  (repeat' split) <;> simp

@[simp] theorem State.restorePurse_frame (s : State) (ws : List Word) :
    (s.restorePurse ws).now = s.now ∧ (s.restorePurse ws).mem = s.mem ∧ (s.restorePurse ws).pins = s.pins ∧
    (s.restorePurse ws).power = s.power ∧ (s.restorePurse ws).clock = s.clock ∧
    (s.restorePurse ws).setup = s.setup ∧ (s.restorePurse ws).lever = s.lever ∧
    (s.restorePurse ws).emitter = s.emitter ∧ (s.restorePurse ws).hook = s.hook ∧
    (s.restorePurse ws).records = s.records ∧ (s.restorePurse ws).tamper = s.tamper ∧
    (s.restorePurse ws).alarms = s.alarms ∧ (s.restorePurse ws).report = s.report ∧
    (s.restorePurse ws).cash = s.cash ∧ (s.restorePurse ws).mailbox = s.mailbox ∧
    (s.restorePurse ws).pending = s.pending := by
  simp only [State.restorePurse]
  (repeat' split) <;> simp

@[simp] theorem State.restoreAlarms_frame (s : State) (ws : List Word) :
    (s.restoreAlarms ws).now = s.now ∧ (s.restoreAlarms ws).mem = s.mem ∧
    (s.restoreAlarms ws).pins = s.pins ∧ (s.restoreAlarms ws).power = s.power ∧
    (s.restoreAlarms ws).clock = s.clock ∧ (s.restoreAlarms ws).setup = s.setup ∧
    (s.restoreAlarms ws).coin = s.coin ∧ (s.restoreAlarms ws).lever = s.lever ∧
    (s.restoreAlarms ws).number = s.number ∧ (s.restoreAlarms ws).emitter = s.emitter ∧
    (s.restoreAlarms ws).hook = s.hook ∧ (s.restoreAlarms ws).rating = s.rating ∧
    (s.restoreAlarms ws).records = s.records ∧ (s.restoreAlarms ws).tamper = s.tamper ∧
    (s.restoreAlarms ws).mailbox = s.mailbox ∧ (s.restoreAlarms ws).pending = s.pending := by
  simp only [State.restoreAlarms]
  (repeat' split) <;> simp

@[simp] theorem State.closePowerLost_frame (s : State) :
    s.closePowerLost.now = s.now ∧ s.closePowerLost.mem = s.mem ∧ s.closePowerLost.pins = s.pins ∧
    s.closePowerLost.power = s.power ∧ s.closePowerLost.clock = s.clock ∧ s.closePowerLost.setup = s.setup ∧
    s.closePowerLost.coin = s.coin ∧ s.closePowerLost.lever = s.lever ∧ s.closePowerLost.number = s.number ∧
    s.closePowerLost.emitter = s.emitter ∧ s.closePowerLost.hook = s.hook ∧
    s.closePowerLost.rating = s.rating ∧ s.closePowerLost.tamper = s.tamper ∧
    s.closePowerLost.mailbox = s.mailbox ∧ s.closePowerLost.pending = s.pending := by
  simp only [State.closePowerLost]
  (repeat' split) <;> simp

@[simp] theorem State.restoreRefund_frame (s : State) :
    s.restoreRefund.now = s.now ∧ s.restoreRefund.mem = s.mem ∧ s.restoreRefund.pins = s.pins ∧
    s.restoreRefund.power = s.power ∧ s.restoreRefund.clock = s.clock ∧ s.restoreRefund.setup = s.setup ∧
    s.restoreRefund.lever = s.lever ∧ s.restoreRefund.number = s.number ∧
    s.restoreRefund.emitter = s.emitter ∧ s.restoreRefund.line = s.line ∧ s.restoreRefund.hook = s.hook ∧
    s.restoreRefund.rating = s.rating ∧ s.restoreRefund.records = s.records ∧
    s.restoreRefund.tamper = s.tamper ∧ s.restoreRefund.alarms = s.alarms ∧
    s.restoreRefund.report = s.report ∧ s.restoreRefund.status = s.status ∧
    s.restoreRefund.mailbox = s.mailbox ∧ s.restoreRefund.pending = s.pending := by
  simp only [State.restoreRefund]
  (repeat' split) <;> simp

@[simp] theorem State.awaitLevels_frame (s : State) :
    s.awaitLevels.now = s.now ∧ s.awaitLevels.mem = s.mem ∧ s.awaitLevels.pins = s.pins ∧
    s.awaitLevels.power = s.power ∧ s.awaitLevels.clock = s.clock ∧ s.awaitLevels.setup = s.setup ∧
    s.awaitLevels.coin = s.coin ∧ s.awaitLevels.number = s.number ∧ s.awaitLevels.emitter = s.emitter ∧
    s.awaitLevels.line = s.line ∧ s.awaitLevels.rating = s.rating ∧ s.awaitLevels.records = s.records ∧
    s.awaitLevels.alarms = s.alarms ∧ s.awaitLevels.report = s.report ∧ s.awaitLevels.cash = s.cash ∧
    s.awaitLevels.path = s.path ∧ s.awaitLevels.status = s.status ∧ s.awaitLevels.mailbox = s.mailbox ∧
    s.awaitLevels.pending = s.pending := by
  simp [State.awaitLevels, tamperInputs]

@[simp] theorem State.restoreDone_frame (s : State) (ws : List Word) :
    (s.restoreDone ws).now = s.now ∧ (s.restoreDone ws).mem = s.mem ∧ (s.restoreDone ws).pins = s.pins ∧
    (s.restoreDone ws).clock = s.clock ∧ (s.restoreDone ws).setup = s.setup ∧
    (s.restoreDone ws).mailbox = s.mailbox ∧ (s.restoreDone ws).pending = s.pending := by
  simp [State.restoreDone]

@[simp] theorem State.restartLine_frame (s : State) :
    s.restartLine.now = s.now ∧ s.restartLine.mem = s.mem ∧ s.restartLine.pins = s.pins ∧
    s.restartLine.power = s.power ∧ s.restartLine.clock = s.clock ∧ s.restartLine.setup = s.setup ∧
    s.restartLine.coin = s.coin ∧ s.restartLine.lever = s.lever ∧ s.restartLine.hook = s.hook ∧
    s.restartLine.tamper = s.tamper ∧ s.restartLine.mailbox = s.mailbox ∧ s.restartLine.pending = s.pending := by
  simp only [State.restartLine]
  (repeat' split) <;> simp

@[simp] theorem State.restartNumber_frame (s : State) :
    s.restartNumber.now = s.now ∧ s.restartNumber.mem = s.mem ∧ s.restartNumber.pins = s.pins ∧
    s.restartNumber.power = s.power ∧ s.restartNumber.clock = s.clock ∧ s.restartNumber.setup = s.setup ∧
    s.restartNumber.coin = s.coin ∧ s.restartNumber.lever = s.lever ∧ s.restartNumber.emitter = s.emitter ∧
    s.restartNumber.hook = s.hook ∧ s.restartNumber.records = s.records ∧
    s.restartNumber.tamper = s.tamper ∧ s.restartNumber.alarms = s.alarms ∧
    s.restartNumber.report = s.report ∧ s.restartNumber.cash = s.cash ∧ s.restartNumber.path = s.path ∧
    s.restartNumber.mailbox = s.mailbox ∧ s.restartNumber.pending = s.pending := by
  simp only [State.restartNumber]
  (repeat' split) <;> simp

@[simp] theorem State.restartEmitter_frame (s : State) :
    s.restartEmitter.now = s.now ∧ s.restartEmitter.mem = s.mem ∧ s.restartEmitter.pins = s.pins ∧
    s.restartEmitter.power = s.power ∧ s.restartEmitter.clock = s.clock ∧ s.restartEmitter.setup = s.setup ∧
    s.restartEmitter.coin = s.coin ∧ s.restartEmitter.lever = s.lever ∧ s.restartEmitter.number = s.number ∧
    s.restartEmitter.line = s.line ∧ s.restartEmitter.hook = s.hook ∧ s.restartEmitter.rating = s.rating ∧
    s.restartEmitter.records = s.records ∧ s.restartEmitter.tamper = s.tamper ∧
    s.restartEmitter.alarms = s.alarms ∧ s.restartEmitter.report = s.report ∧
    s.restartEmitter.cash = s.cash ∧ s.restartEmitter.path = s.path ∧ s.restartEmitter.status = s.status ∧
    s.restartEmitter.mailbox = s.mailbox ∧ s.restartEmitter.pending = s.pending := by
  simp [State.restartEmitter]

@[simp] theorem State.serviceRestart_frame (s : State) :
    s.serviceRestart.now = s.now ∧ s.serviceRestart.mem = s.mem ∧ s.serviceRestart.pins = s.pins ∧
    s.serviceRestart.clock = s.clock ∧ s.serviceRestart.setup = s.setup ∧ s.serviceRestart.lever = s.lever ∧
    s.serviceRestart.hook = s.hook ∧ s.serviceRestart.tamper = s.tamper ∧
    s.serviceRestart.mailbox = s.mailbox ∧ s.serviceRestart.pending = s.pending := by
  simp [State.serviceRestart]

end Sys2Proof.Machine
end

