-- ==== Sys2Proof/Laws/FramesPath.lean ====
section
/-! SUPPORT. Frames: the fields of `State` that an operation leaves as they were, one lemma for each operation
of the mailbox, the memory port and the events of a block. -/

namespace Sys2Proof.Machine

@[simp] theorem State.updCommand_frame (s : State) (f : Command → Command) :
    (s.updCommand f).now = s.now ∧ (s.updCommand f).mem = s.mem ∧ (s.updCommand f).pins = s.pins ∧
    (s.updCommand f).power = s.power ∧ (s.updCommand f).clock = s.clock ∧ (s.updCommand f).setup = s.setup ∧
    (s.updCommand f).coin = s.coin ∧ (s.updCommand f).lever = s.lever ∧ (s.updCommand f).number = s.number ∧
    (s.updCommand f).emitter = s.emitter ∧ (s.updCommand f).line = s.line ∧ (s.updCommand f).hook = s.hook ∧
    (s.updCommand f).rating = s.rating ∧ (s.updCommand f).records = s.records ∧
    (s.updCommand f).tamper = s.tamper ∧ (s.updCommand f).alarms = s.alarms ∧
    (s.updCommand f).report = s.report ∧ (s.updCommand f).cash = s.cash ∧ (s.updCommand f).path = s.path ∧
    (s.updCommand f).status = s.status ∧ (s.updCommand f).pending = s.pending := by
  simp [State.updCommand]

@[simp] theorem State.answerCommand_frame (s : State) (result : Word) (data1 : Word) :
    (s.answerCommand result data1).now = s.now ∧ (s.answerCommand result data1).mem = s.mem ∧
    (s.answerCommand result data1).pins = s.pins ∧ (s.answerCommand result data1).power = s.power ∧
    (s.answerCommand result data1).clock = s.clock ∧ (s.answerCommand result data1).setup = s.setup ∧
    (s.answerCommand result data1).coin = s.coin ∧ (s.answerCommand result data1).lever = s.lever ∧
    (s.answerCommand result data1).number = s.number ∧ (s.answerCommand result data1).emitter = s.emitter ∧
    (s.answerCommand result data1).line = s.line ∧ (s.answerCommand result data1).hook = s.hook ∧
    (s.answerCommand result data1).rating = s.rating ∧ (s.answerCommand result data1).records = s.records ∧
    (s.answerCommand result data1).tamper = s.tamper ∧ (s.answerCommand result data1).alarms = s.alarms ∧
    (s.answerCommand result data1).report = s.report ∧ (s.answerCommand result data1).cash = s.cash ∧
    (s.answerCommand result data1).path = s.path ∧ (s.answerCommand result data1).status = s.status ∧
    (s.answerCommand result data1).pending = s.pending := by
  simp [State.answerCommand]

@[simp] theorem State.takeCommand_frame (s : State) (code : Word) :
    (s.takeCommand code).now = s.now ∧ (s.takeCommand code).mem = s.mem ∧
    (s.takeCommand code).pins = s.pins ∧ (s.takeCommand code).power = s.power ∧
    (s.takeCommand code).clock = s.clock ∧ (s.takeCommand code).setup = s.setup ∧
    (s.takeCommand code).coin = s.coin ∧ (s.takeCommand code).lever = s.lever ∧
    (s.takeCommand code).number = s.number ∧ (s.takeCommand code).emitter = s.emitter ∧
    (s.takeCommand code).line = s.line ∧ (s.takeCommand code).hook = s.hook ∧
    (s.takeCommand code).rating = s.rating ∧ (s.takeCommand code).records = s.records ∧
    (s.takeCommand code).tamper = s.tamper ∧ (s.takeCommand code).alarms = s.alarms ∧
    (s.takeCommand code).report = s.report ∧ (s.takeCommand code).cash = s.cash ∧
    (s.takeCommand code).pending = s.pending := by
  simp [State.takeCommand]

@[simp] theorem State.postCommand_frame (s : State) (code : Word) :
    (s.postCommand code).now = s.now ∧ (s.postCommand code).mem = s.mem ∧
    (s.postCommand code).pins = s.pins ∧ (s.postCommand code).power = s.power ∧
    (s.postCommand code).clock = s.clock ∧ (s.postCommand code).setup = s.setup ∧
    (s.postCommand code).coin = s.coin ∧ (s.postCommand code).lever = s.lever ∧
    (s.postCommand code).number = s.number ∧ (s.postCommand code).emitter = s.emitter ∧
    (s.postCommand code).line = s.line ∧ (s.postCommand code).hook = s.hook ∧
    (s.postCommand code).rating = s.rating ∧ (s.postCommand code).records = s.records ∧
    (s.postCommand code).tamper = s.tamper ∧ (s.postCommand code).alarms = s.alarms ∧
    (s.postCommand code).report = s.report ∧ (s.postCommand code).cash = s.cash ∧
    (s.postCommand code).pending = s.pending := by
  simp only [State.postCommand]
  (repeat' split) <;> simp

@[simp] theorem State.commandSetMask_frame (s : State) (mask : Word) :
    (s.commandSetMask mask).now = s.now ∧ (s.commandSetMask mask).mem = s.mem ∧
    (s.commandSetMask mask).pins = s.pins ∧ (s.commandSetMask mask).power = s.power ∧
    (s.commandSetMask mask).clock = s.clock ∧ (s.commandSetMask mask).setup = s.setup ∧
    (s.commandSetMask mask).coin = s.coin ∧ (s.commandSetMask mask).lever = s.lever ∧
    (s.commandSetMask mask).number = s.number ∧ (s.commandSetMask mask).emitter = s.emitter ∧
    (s.commandSetMask mask).line = s.line ∧ (s.commandSetMask mask).hook = s.hook ∧
    (s.commandSetMask mask).rating = s.rating ∧ (s.commandSetMask mask).records = s.records ∧
    (s.commandSetMask mask).tamper = s.tamper ∧ (s.commandSetMask mask).alarms = s.alarms ∧
    (s.commandSetMask mask).report = s.report ∧ (s.commandSetMask mask).cash = s.cash ∧
    (s.commandSetMask mask).path = s.path ∧ (s.commandSetMask mask).pending = s.pending := by
  simp [State.commandSetMask]

@[simp] theorem State.commandSetClock_frame (s : State) (date weekday hour minute second : Word) :
    (s.commandSetClock date weekday hour minute second).now = s.now ∧
    (s.commandSetClock date weekday hour minute second).mem = s.mem ∧
    (s.commandSetClock date weekday hour minute second).pins = s.pins ∧
    (s.commandSetClock date weekday hour minute second).power = s.power ∧
    (s.commandSetClock date weekday hour minute second).setup = s.setup ∧
    (s.commandSetClock date weekday hour minute second).coin = s.coin ∧
    (s.commandSetClock date weekday hour minute second).lever = s.lever ∧
    (s.commandSetClock date weekday hour minute second).number = s.number ∧
    (s.commandSetClock date weekday hour minute second).emitter = s.emitter ∧
    (s.commandSetClock date weekday hour minute second).line = s.line ∧
    (s.commandSetClock date weekday hour minute second).hook = s.hook ∧
    (s.commandSetClock date weekday hour minute second).rating = s.rating ∧
    (s.commandSetClock date weekday hour minute second).records = s.records ∧
    (s.commandSetClock date weekday hour minute second).tamper = s.tamper ∧
    (s.commandSetClock date weekday hour minute second).alarms = s.alarms ∧
    (s.commandSetClock date weekday hour minute second).report = s.report ∧
    (s.commandSetClock date weekday hour minute second).cash = s.cash ∧
    (s.commandSetClock date weekday hour minute second).path = s.path ∧
    (s.commandSetClock date weekday hour minute second).status = s.status ∧
    (s.commandSetClock date weekday hour minute second).pending = s.pending := by
  simp only [State.commandSetClock]
  (repeat' split) <;> simp

@[simp] theorem State.commandEndCall_frame (s : State) :
    s.commandEndCall.now = s.now ∧ s.commandEndCall.mem = s.mem ∧ s.commandEndCall.pins = s.pins ∧
    s.commandEndCall.power = s.power ∧ s.commandEndCall.clock = s.clock ∧ s.commandEndCall.setup = s.setup ∧
    s.commandEndCall.coin = s.coin ∧ s.commandEndCall.lever = s.lever ∧ s.commandEndCall.hook = s.hook ∧
    s.commandEndCall.tamper = s.tamper ∧ s.commandEndCall.pending = s.pending := by
  simp only [State.commandEndCall]
  (repeat' split) <;> simp

@[simp] theorem State.reportNow_frame (s : State) :
    s.reportNow.now = s.now ∧ s.reportNow.mem = s.mem ∧ s.reportNow.pins = s.pins ∧
    s.reportNow.power = s.power ∧ s.reportNow.clock = s.clock ∧ s.reportNow.setup = s.setup ∧
    s.reportNow.coin = s.coin ∧ s.reportNow.lever = s.lever ∧ s.reportNow.number = s.number ∧
    s.reportNow.emitter = s.emitter ∧ s.reportNow.hook = s.hook ∧ s.reportNow.rating = s.rating ∧
    s.reportNow.records = s.records ∧ s.reportNow.tamper = s.tamper ∧ s.reportNow.alarms = s.alarms ∧
    s.reportNow.mailbox = s.mailbox ∧ s.reportNow.pending = s.pending := by
  simp only [State.reportNow]
  (repeat' split) <;> simp

@[simp] theorem State.commandReportNow_frame (s : State) :
    s.commandReportNow.now = s.now ∧ s.commandReportNow.mem = s.mem ∧ s.commandReportNow.pins = s.pins ∧
    s.commandReportNow.power = s.power ∧ s.commandReportNow.clock = s.clock ∧
    s.commandReportNow.setup = s.setup ∧ s.commandReportNow.coin = s.coin ∧
    s.commandReportNow.lever = s.lever ∧ s.commandReportNow.number = s.number ∧
    s.commandReportNow.emitter = s.emitter ∧ s.commandReportNow.hook = s.hook ∧
    s.commandReportNow.rating = s.rating ∧ s.commandReportNow.records = s.records ∧
    s.commandReportNow.tamper = s.tamper ∧ s.commandReportNow.alarms = s.alarms ∧
    s.commandReportNow.pending = s.pending := by
  simp only [State.commandReportNow]
  (repeat' split) <;> simp

@[simp] theorem State.clearKind_frame (s : State) (k : AlarmKind) :
    (s.clearKind k).now = s.now ∧ (s.clearKind k).mem = s.mem ∧ (s.clearKind k).pins = s.pins ∧
    (s.clearKind k).power = s.power ∧ (s.clearKind k).clock = s.clock ∧ (s.clearKind k).setup = s.setup ∧
    (s.clearKind k).coin = s.coin ∧ (s.clearKind k).lever = s.lever ∧ (s.clearKind k).number = s.number ∧
    (s.clearKind k).emitter = s.emitter ∧ (s.clearKind k).line = s.line ∧ (s.clearKind k).hook = s.hook ∧
    (s.clearKind k).rating = s.rating ∧ (s.clearKind k).records = s.records ∧
    (s.clearKind k).tamper = s.tamper ∧ (s.clearKind k).report = s.report ∧
    (s.clearKind k).pending = s.pending := by
  simp only [State.clearKind]
  (repeat' split) <;> simp

@[simp] theorem State.commandClearAlarm_frame (s : State) (kind : Word) :
    (s.commandClearAlarm kind).now = s.now ∧ (s.commandClearAlarm kind).mem = s.mem ∧
    (s.commandClearAlarm kind).pins = s.pins ∧ (s.commandClearAlarm kind).power = s.power ∧
    (s.commandClearAlarm kind).clock = s.clock ∧ (s.commandClearAlarm kind).setup = s.setup ∧
    (s.commandClearAlarm kind).coin = s.coin ∧ (s.commandClearAlarm kind).lever = s.lever ∧
    (s.commandClearAlarm kind).number = s.number ∧ (s.commandClearAlarm kind).emitter = s.emitter ∧
    (s.commandClearAlarm kind).line = s.line ∧ (s.commandClearAlarm kind).hook = s.hook ∧
    (s.commandClearAlarm kind).rating = s.rating ∧ (s.commandClearAlarm kind).records = s.records ∧
    (s.commandClearAlarm kind).tamper = s.tamper ∧ (s.commandClearAlarm kind).report = s.report ∧
    (s.commandClearAlarm kind).pending = s.pending := by
  simp only [State.commandClearAlarm]
  (repeat' split) <;> simp

@[simp] theorem State.commandReload_frame (s : State) :
    s.commandReload.now = s.now ∧ s.commandReload.mem = s.mem ∧ s.commandReload.pins = s.pins ∧
    s.commandReload.power = s.power ∧ s.commandReload.clock = s.clock ∧ s.commandReload.coin = s.coin ∧
    s.commandReload.lever = s.lever ∧ s.commandReload.number = s.number ∧
    s.commandReload.emitter = s.emitter ∧ s.commandReload.line = s.line ∧ s.commandReload.hook = s.hook ∧
    s.commandReload.rating = s.rating ∧ s.commandReload.records = s.records ∧
    s.commandReload.tamper = s.tamper ∧ s.commandReload.alarms = s.alarms ∧
    s.commandReload.report = s.report ∧ s.commandReload.cash = s.cash ∧ s.commandReload.status = s.status ∧
    s.commandReload.pending = s.pending := by
  simp only [State.commandReload]
  (repeat' split) <;> simp

@[simp] theorem State.commandRestart_frame (s : State) :
    s.commandRestart.now = s.now ∧ s.commandRestart.mem = s.mem ∧ s.commandRestart.pins = s.pins ∧
    s.commandRestart.clock = s.clock ∧ s.commandRestart.setup = s.setup ∧ s.commandRestart.lever = s.lever ∧
    s.commandRestart.hook = s.hook ∧ s.commandRestart.tamper = s.tamper ∧
    s.commandRestart.pending = s.pending := by
  simp [State.commandRestart]

@[simp] theorem State.commandUnknown_frame (s : State) :
    s.commandUnknown.now = s.now ∧ s.commandUnknown.mem = s.mem ∧ s.commandUnknown.pins = s.pins ∧
    s.commandUnknown.power = s.power ∧ s.commandUnknown.clock = s.clock ∧ s.commandUnknown.setup = s.setup ∧
    s.commandUnknown.coin = s.coin ∧ s.commandUnknown.lever = s.lever ∧ s.commandUnknown.number = s.number ∧
    s.commandUnknown.emitter = s.emitter ∧ s.commandUnknown.line = s.line ∧ s.commandUnknown.hook = s.hook ∧
    s.commandUnknown.rating = s.rating ∧ s.commandUnknown.records = s.records ∧
    s.commandUnknown.tamper = s.tamper ∧ s.commandUnknown.alarms = s.alarms ∧
    s.commandUnknown.report = s.report ∧ s.commandUnknown.cash = s.cash ∧ s.commandUnknown.path = s.path ∧
    s.commandUnknown.status = s.status ∧ s.commandUnknown.pending = s.pending := by
  simp [State.commandUnknown]

@[simp] theorem State.carryOut_frame (s : State) (c : Command) :
    (s.carryOut c).now = s.now ∧ (s.carryOut c).mem = s.mem ∧ (s.carryOut c).pins = s.pins ∧
    (s.carryOut c).lever = s.lever ∧ (s.carryOut c).hook = s.hook ∧ (s.carryOut c).tamper = s.tamper ∧
    (s.carryOut c).pending = s.pending := by
  simp only [State.carryOut]
  (repeat' split) <;> simp

@[simp] theorem State.reloadOutcome_frame (s : State) (ws : List Word) :
    (s.reloadOutcome ws).now = s.now ∧ (s.reloadOutcome ws).mem = s.mem ∧
    (s.reloadOutcome ws).pins = s.pins ∧ (s.reloadOutcome ws).power = s.power ∧
    (s.reloadOutcome ws).clock = s.clock ∧ (s.reloadOutcome ws).lever = s.lever ∧
    (s.reloadOutcome ws).hook = s.hook ∧ (s.reloadOutcome ws).pending = s.pending := by
  simp only [State.reloadOutcome]
  (repeat' split) <;> simp

@[simp] theorem State.reloadDone_frame (s : State) (ws : List Word) :
    (s.reloadDone ws).now = s.now ∧ (s.reloadDone ws).mem = s.mem ∧ (s.reloadDone ws).pins = s.pins ∧
    (s.reloadDone ws).power = s.power ∧ (s.reloadDone ws).clock = s.clock ∧
    (s.reloadDone ws).lever = s.lever ∧ (s.reloadDone ws).hook = s.hook ∧
    (s.reloadDone ws).pending = s.pending := by
  simp [State.reloadDone]

@[simp] theorem State.readArgument_frame (s : State) (c : Command) :
    (s.readArgument c).now = s.now ∧ (s.readArgument c).pins = s.pins ∧ (s.readArgument c).lever = s.lever ∧
    (s.readArgument c).hook = s.hook ∧ (s.readArgument c).tamper = s.tamper ∧
    (s.readArgument c).pending = s.pending := by
  simp only [State.readArgument]
  (repeat' split) <;> simp

@[simp] theorem State.clearSlot_frame (s : State) (c : Command) :
    (s.clearSlot c).now = s.now ∧ (s.clearSlot c).pins = s.pins ∧ (s.clearSlot c).lever = s.lever ∧
    (s.clearSlot c).hook = s.hook ∧ (s.clearSlot c).tamper = s.tamper ∧ (s.clearSlot c).pending = s.pending := by
  simp [State.clearSlot]

@[simp] theorem State.writeResponse_frame (s : State) (c : Command) (k : Nat) :
    (s.writeResponse c k).now = s.now ∧ (s.writeResponse c k).pins = s.pins ∧
    (s.writeResponse c k).power = s.power ∧ (s.writeResponse c k).clock = s.clock ∧
    (s.writeResponse c k).setup = s.setup ∧ (s.writeResponse c k).coin = s.coin ∧
    (s.writeResponse c k).lever = s.lever ∧ (s.writeResponse c k).number = s.number ∧
    (s.writeResponse c k).emitter = s.emitter ∧ (s.writeResponse c k).line = s.line ∧
    (s.writeResponse c k).hook = s.hook ∧ (s.writeResponse c k).rating = s.rating ∧
    (s.writeResponse c k).records = s.records ∧ (s.writeResponse c k).tamper = s.tamper ∧
    (s.writeResponse c k).alarms = s.alarms ∧ (s.writeResponse c k).report = s.report ∧
    (s.writeResponse c k).cash = s.cash ∧ (s.writeResponse c k).pending = s.pending := by
  simp only [State.writeResponse]
  (repeat' split) <;> simp

@[simp] theorem State.mailboxWord_frame (s : State) :
    s.mailboxWord.now = s.now ∧ s.mailboxWord.pins = s.pins ∧ s.mailboxWord.lever = s.lever ∧
    s.mailboxWord.hook = s.hook ∧ s.mailboxWord.tamper = s.tamper ∧ s.mailboxWord.pending = s.pending := by
  simp only [State.mailboxWord]
  (repeat' split) <;> simp

@[simp] theorem State.loaderWord_frame (s : State) :
    s.loaderWord.now = s.now ∧ s.loaderWord.mem = s.mem ∧ s.loaderWord.pins = s.pins ∧
    s.loaderWord.clock = s.clock ∧ s.loaderWord.lever = s.lever ∧ s.loaderWord.hook = s.hook ∧
    s.loaderWord.pending = s.pending := by
  simp only [State.loaderWord]
  (repeat' split) <;> simp

@[simp] theorem State.restoreWord_frame (s : State) (got : List Word) :
    (s.restoreWord got).now = s.now ∧ (s.restoreWord got).mem = s.mem ∧ (s.restoreWord got).pins = s.pins ∧
    (s.restoreWord got).clock = s.clock ∧ (s.restoreWord got).setup = s.setup ∧
    (s.restoreWord got).mailbox = s.mailbox ∧ (s.restoreWord got).pending = s.pending := by
  simp only [State.restoreWord]
  (repeat' split) <;> simp

@[simp] theorem State.beginWriteBack_frame (s : State) :
    s.beginWriteBack.now = s.now ∧ s.beginWriteBack.pins = s.pins ∧ s.beginWriteBack.power = s.power ∧
    s.beginWriteBack.clock = s.clock ∧ s.beginWriteBack.setup = s.setup ∧ s.beginWriteBack.coin = s.coin ∧
    s.beginWriteBack.lever = s.lever ∧ s.beginWriteBack.number = s.number ∧
    s.beginWriteBack.emitter = s.emitter ∧ s.beginWriteBack.line = s.line ∧ s.beginWriteBack.hook = s.hook ∧
    s.beginWriteBack.rating = s.rating ∧ s.beginWriteBack.records = s.records ∧
    s.beginWriteBack.tamper = s.tamper ∧ s.beginWriteBack.alarms = s.alarms ∧
    s.beginWriteBack.report = s.report ∧ s.beginWriteBack.status = s.status ∧
    s.beginWriteBack.mailbox = s.mailbox ∧ s.beginWriteBack.pending = s.pending := by
  simp [State.beginWriteBack]

@[simp] theorem State.endWriteBack_frame (s : State) :
    s.endWriteBack.now = s.now ∧ s.endWriteBack.pins = s.pins ∧ s.endWriteBack.power = s.power ∧
    s.endWriteBack.clock = s.clock ∧ s.endWriteBack.setup = s.setup ∧ s.endWriteBack.coin = s.coin ∧
    s.endWriteBack.lever = s.lever ∧ s.endWriteBack.number = s.number ∧ s.endWriteBack.emitter = s.emitter ∧
    s.endWriteBack.line = s.line ∧ s.endWriteBack.hook = s.hook ∧ s.endWriteBack.rating = s.rating ∧
    s.endWriteBack.records = s.records ∧ s.endWriteBack.tamper = s.tamper ∧
    s.endWriteBack.alarms = s.alarms ∧ s.endWriteBack.report = s.report ∧ s.endWriteBack.status = s.status ∧
    s.endWriteBack.mailbox = s.mailbox ∧ s.endWriteBack.pending = s.pending := by
  simp [State.endWriteBack]

@[simp] theorem State.writeBackWord_frame (s : State) :
    s.writeBackWord.now = s.now ∧ s.writeBackWord.pins = s.pins ∧ s.writeBackWord.power = s.power ∧
    s.writeBackWord.clock = s.clock ∧ s.writeBackWord.setup = s.setup ∧ s.writeBackWord.coin = s.coin ∧
    s.writeBackWord.lever = s.lever ∧ s.writeBackWord.number = s.number ∧
    s.writeBackWord.emitter = s.emitter ∧ s.writeBackWord.line = s.line ∧ s.writeBackWord.hook = s.hook ∧
    s.writeBackWord.rating = s.rating ∧ s.writeBackWord.records = s.records ∧
    s.writeBackWord.tamper = s.tamper ∧ s.writeBackWord.alarms = s.alarms ∧
    s.writeBackWord.report = s.report ∧ s.writeBackWord.status = s.status ∧
    s.writeBackWord.mailbox = s.mailbox ∧ s.writeBackWord.pending = s.pending := by
  simp only [State.writeBackWord]
  (repeat' split) <;> simp

@[simp] theorem State.cashWord_frame (s : State) :
    s.cashWord.now = s.now ∧ s.cashWord.pins = s.pins ∧ s.cashWord.clock = s.clock ∧
    s.cashWord.setup = s.setup ∧ s.cashWord.mailbox = s.mailbox ∧ s.cashWord.pending = s.pending := by
  simp only [State.cashWord]
  (repeat' split) <;> simp

@[simp] theorem State.recordWord_frame (s : State) :
    s.recordWord.now = s.now ∧ s.recordWord.pins = s.pins ∧ s.recordWord.clock = s.clock ∧
    s.recordWord.setup = s.setup ∧ s.recordWord.coin = s.coin ∧ s.recordWord.lever = s.lever ∧
    s.recordWord.number = s.number ∧ s.recordWord.emitter = s.emitter ∧ s.recordWord.line = s.line ∧
    s.recordWord.hook = s.hook ∧ s.recordWord.rating = s.rating ∧ s.recordWord.tamper = s.tamper ∧
    s.recordWord.alarms = s.alarms ∧ s.recordWord.report = s.report ∧ s.recordWord.mailbox = s.mailbox ∧
    s.recordWord.pending = s.pending := by
  simp only [State.recordWord]
  (repeat' split) <;> simp

@[simp] theorem State.analyserDone_frame (s : State) (r : AnalyserRead) (ws : List Word) :
    (s.analyserDone r ws).now = s.now ∧ (s.analyserDone r ws).mem = s.mem ∧
    (s.analyserDone r ws).pins = s.pins ∧ (s.analyserDone r ws).power = s.power ∧
    (s.analyserDone r ws).clock = s.clock ∧ (s.analyserDone r ws).setup = s.setup ∧
    (s.analyserDone r ws).coin = s.coin ∧ (s.analyserDone r ws).lever = s.lever ∧
    (s.analyserDone r ws).hook = s.hook ∧ (s.analyserDone r ws).tamper = s.tamper ∧
    (s.analyserDone r ws).mailbox = s.mailbox ∧ (s.analyserDone r ws).pending = s.pending := by
  simp only [State.analyserDone]
  (repeat' split) <;> simp

@[simp] theorem State.analyserWord_frame (s : State) :
    s.analyserWord.now = s.now ∧ s.analyserWord.mem = s.mem ∧ s.analyserWord.pins = s.pins ∧
    s.analyserWord.power = s.power ∧ s.analyserWord.clock = s.clock ∧ s.analyserWord.setup = s.setup ∧
    s.analyserWord.coin = s.coin ∧ s.analyserWord.lever = s.lever ∧ s.analyserWord.hook = s.hook ∧
    s.analyserWord.tamper = s.tamper ∧ s.analyserWord.mailbox = s.mailbox ∧
    s.analyserWord.pending = s.pending := by
  simp only [State.analyserWord]
  (repeat' split) <;> simp

@[simp] theorem State.ratingWord_frame (s : State) :
    s.ratingWord.now = s.now ∧ s.ratingWord.mem = s.mem ∧ s.ratingWord.pins = s.pins ∧
    s.ratingWord.power = s.power ∧ s.ratingWord.clock = s.clock ∧ s.ratingWord.setup = s.setup ∧
    s.ratingWord.coin = s.coin ∧ s.ratingWord.lever = s.lever ∧ s.ratingWord.hook = s.hook ∧
    s.ratingWord.tamper = s.tamper ∧ s.ratingWord.mailbox = s.mailbox ∧ s.ratingWord.pending = s.pending := by
  simp only [State.ratingWord]
  (repeat' split) <;> simp

@[simp] theorem State.tallyWord_frame (s : State) :
    s.tallyWord.now = s.now ∧ s.tallyWord.pins = s.pins ∧ s.tallyWord.power = s.power ∧
    s.tallyWord.clock = s.clock ∧ s.tallyWord.setup = s.setup ∧ s.tallyWord.coin = s.coin ∧
    s.tallyWord.lever = s.lever ∧ s.tallyWord.number = s.number ∧ s.tallyWord.emitter = s.emitter ∧
    s.tallyWord.line = s.line ∧ s.tallyWord.hook = s.hook ∧ s.tallyWord.rating = s.rating ∧
    s.tallyWord.records = s.records ∧ s.tallyWord.tamper = s.tamper ∧ s.tallyWord.alarms = s.alarms ∧
    s.tallyWord.report = s.report ∧ s.tallyWord.cash = s.cash ∧ s.tallyWord.status = s.status ∧
    s.tallyWord.mailbox = s.mailbox ∧ s.tallyWord.pending = s.pending := by
  simp only [State.tallyWord]
  (repeat' split) <;> simp

@[simp] theorem State.rejoin_frame (s : State) (r : Requester) :
    (s.rejoin r).now = s.now ∧ (s.rejoin r).mem = s.mem ∧ (s.rejoin r).pins = s.pins ∧
    (s.rejoin r).power = s.power ∧ (s.rejoin r).clock = s.clock ∧ (s.rejoin r).setup = s.setup ∧
    (s.rejoin r).coin = s.coin ∧ (s.rejoin r).lever = s.lever ∧ (s.rejoin r).number = s.number ∧
    (s.rejoin r).emitter = s.emitter ∧ (s.rejoin r).line = s.line ∧ (s.rejoin r).hook = s.hook ∧
    (s.rejoin r).rating = s.rating ∧ (s.rejoin r).records = s.records ∧ (s.rejoin r).tamper = s.tamper ∧
    (s.rejoin r).alarms = s.alarms ∧ (s.rejoin r).report = s.report ∧ (s.rejoin r).cash = s.cash ∧
    (s.rejoin r).status = s.status ∧ (s.rejoin r).mailbox = s.mailbox ∧ (s.rejoin r).pending = s.pending := by
  simp only [State.rejoin]
  (repeat' split) <;> simp

@[simp] theorem State.hostTurnEnds_frame (s : State) :
    s.hostTurnEnds.now = s.now ∧ s.hostTurnEnds.mem = s.mem ∧ s.hostTurnEnds.pins = s.pins ∧
    s.hostTurnEnds.power = s.power ∧ s.hostTurnEnds.clock = s.clock ∧ s.hostTurnEnds.setup = s.setup ∧
    s.hostTurnEnds.coin = s.coin ∧ s.hostTurnEnds.lever = s.lever ∧ s.hostTurnEnds.number = s.number ∧
    s.hostTurnEnds.emitter = s.emitter ∧ s.hostTurnEnds.line = s.line ∧ s.hostTurnEnds.hook = s.hook ∧
    s.hostTurnEnds.rating = s.rating ∧ s.hostTurnEnds.records = s.records ∧
    s.hostTurnEnds.tamper = s.tamper ∧ s.hostTurnEnds.alarms = s.alarms ∧ s.hostTurnEnds.report = s.report ∧
    s.hostTurnEnds.cash = s.cash ∧ s.hostTurnEnds.status = s.status ∧ s.hostTurnEnds.mailbox = s.mailbox ∧
    s.hostTurnEnds.pending = s.pending := by
  simp [State.hostTurnEnds]

@[simp] theorem State.specialAction_frame (s : State) (w : SpecialWord) (v : Word) :
    (s.specialAction w v).now = s.now ∧ (s.specialAction w v).mem = s.mem ∧
    (s.specialAction w v).pins = s.pins ∧ (s.specialAction w v).power = s.power ∧
    (s.specialAction w v).clock = s.clock ∧ (s.specialAction w v).setup = s.setup ∧
    (s.specialAction w v).coin = s.coin ∧ (s.specialAction w v).lever = s.lever ∧
    (s.specialAction w v).line = s.line ∧ (s.specialAction w v).hook = s.hook ∧
    (s.specialAction w v).rating = s.rating ∧ (s.specialAction w v).tamper = s.tamper ∧
    (s.specialAction w v).alarms = s.alarms ∧ (s.specialAction w v).cash = s.cash ∧
    (s.specialAction w v).pending = s.pending := by
  simp only [State.specialAction]
  (repeat' split) <;> simp

@[simp] theorem State.storeAccess_frame (s : State) (addr : Nat) (size : AccessSize) (value : Word) :
    (s.storeAccess addr size value).now = s.now ∧ (s.storeAccess addr size value).pins = s.pins ∧
    (s.storeAccess addr size value).power = s.power ∧ (s.storeAccess addr size value).clock = s.clock ∧
    (s.storeAccess addr size value).setup = s.setup ∧ (s.storeAccess addr size value).coin = s.coin ∧
    (s.storeAccess addr size value).lever = s.lever ∧ (s.storeAccess addr size value).number = s.number ∧
    (s.storeAccess addr size value).emitter = s.emitter ∧ (s.storeAccess addr size value).line = s.line ∧
    (s.storeAccess addr size value).hook = s.hook ∧ (s.storeAccess addr size value).rating = s.rating ∧
    (s.storeAccess addr size value).records = s.records ∧
    (s.storeAccess addr size value).tamper = s.tamper ∧ (s.storeAccess addr size value).alarms = s.alarms ∧
    (s.storeAccess addr size value).report = s.report ∧ (s.storeAccess addr size value).cash = s.cash ∧
    (s.storeAccess addr size value).status = s.status ∧
    (s.storeAccess addr size value).mailbox = s.mailbox ∧
    (s.storeAccess addr size value).pending = s.pending := by
  simp only [State.storeAccess]
  (repeat' split) <;> simp

@[simp] theorem State.protectedWrite_frame (s : State) :
    s.protectedWrite.now = s.now ∧ s.protectedWrite.mem = s.mem ∧ s.protectedWrite.pins = s.pins ∧
    s.protectedWrite.power = s.power ∧ s.protectedWrite.clock = s.clock ∧ s.protectedWrite.setup = s.setup ∧
    s.protectedWrite.coin = s.coin ∧ s.protectedWrite.lever = s.lever ∧ s.protectedWrite.number = s.number ∧
    s.protectedWrite.emitter = s.emitter ∧ s.protectedWrite.hook = s.hook ∧
    s.protectedWrite.rating = s.rating ∧ s.protectedWrite.records = s.records ∧
    s.protectedWrite.tamper = s.tamper ∧ s.protectedWrite.mailbox = s.mailbox ∧
    s.protectedWrite.pending = s.pending := by
  simp [State.protectedWrite]

@[simp] theorem State.returnWord_frame (s : State) (w : Word) :
    (s.returnWord w).now = s.now ∧ (s.returnWord w).mem = s.mem ∧ (s.returnWord w).pins = s.pins ∧
    (s.returnWord w).power = s.power ∧ (s.returnWord w).clock = s.clock ∧ (s.returnWord w).setup = s.setup ∧
    (s.returnWord w).coin = s.coin ∧ (s.returnWord w).lever = s.lever ∧ (s.returnWord w).number = s.number ∧
    (s.returnWord w).emitter = s.emitter ∧ (s.returnWord w).line = s.line ∧ (s.returnWord w).hook = s.hook ∧
    (s.returnWord w).rating = s.rating ∧ (s.returnWord w).records = s.records ∧
    (s.returnWord w).tamper = s.tamper ∧ (s.returnWord w).alarms = s.alarms ∧
    (s.returnWord w).report = s.report ∧ (s.returnWord w).cash = s.cash ∧
    (s.returnWord w).status = s.status ∧ (s.returnWord w).mailbox = s.mailbox ∧
    (s.returnWord w).pending = s.pending := by
  simp [State.returnWord]

@[simp] theorem State.readTurn_frame (s : State) (addr : Nat) (lanes : Lanes) :
    (s.readTurn addr lanes).now = s.now ∧ (s.readTurn addr lanes).mem = s.mem ∧
    (s.readTurn addr lanes).pins = s.pins ∧ (s.readTurn addr lanes).power = s.power ∧
    (s.readTurn addr lanes).clock = s.clock ∧ (s.readTurn addr lanes).setup = s.setup ∧
    (s.readTurn addr lanes).coin = s.coin ∧ (s.readTurn addr lanes).lever = s.lever ∧
    (s.readTurn addr lanes).number = s.number ∧ (s.readTurn addr lanes).emitter = s.emitter ∧
    (s.readTurn addr lanes).line = s.line ∧ (s.readTurn addr lanes).hook = s.hook ∧
    (s.readTurn addr lanes).rating = s.rating ∧ (s.readTurn addr lanes).records = s.records ∧
    (s.readTurn addr lanes).tamper = s.tamper ∧ (s.readTurn addr lanes).alarms = s.alarms ∧
    (s.readTurn addr lanes).report = s.report ∧ (s.readTurn addr lanes).cash = s.cash ∧
    (s.readTurn addr lanes).status = s.status ∧ (s.readTurn addr lanes).mailbox = s.mailbox ∧
    (s.readTurn addr lanes).pending = s.pending := by
  simp [State.readTurn]

@[simp] theorem State.slugLeaks_frame (s : State) :
    s.slugLeaks.now = s.now ∧ s.slugLeaks.mem = s.mem ∧ s.slugLeaks.pins = s.pins ∧
    s.slugLeaks.power = s.power ∧ s.slugLeaks.clock = s.clock ∧ s.slugLeaks.setup = s.setup ∧
    s.slugLeaks.lever = s.lever ∧ s.slugLeaks.number = s.number ∧ s.slugLeaks.emitter = s.emitter ∧
    s.slugLeaks.line = s.line ∧ s.slugLeaks.hook = s.hook ∧ s.slugLeaks.rating = s.rating ∧
    s.slugLeaks.records = s.records ∧ s.slugLeaks.tamper = s.tamper ∧ s.slugLeaks.alarms = s.alarms ∧
    s.slugLeaks.report = s.report ∧ s.slugLeaks.cash = s.cash ∧ s.slugLeaks.path = s.path ∧
    s.slugLeaks.status = s.status ∧ s.slugLeaks.mailbox = s.mailbox ∧ s.slugLeaks.pending = s.pending := by
  simp [State.slugLeaks]

@[simp] theorem State.flapReturns_frame (s : State) :
    s.flapReturns.now = s.now ∧ s.flapReturns.mem = s.mem ∧ s.flapReturns.pins = s.pins ∧
    s.flapReturns.power = s.power ∧ s.flapReturns.clock = s.clock ∧ s.flapReturns.setup = s.setup ∧
    s.flapReturns.lever = s.lever ∧ s.flapReturns.number = s.number ∧ s.flapReturns.emitter = s.emitter ∧
    s.flapReturns.line = s.line ∧ s.flapReturns.hook = s.hook ∧ s.flapReturns.rating = s.rating ∧
    s.flapReturns.records = s.records ∧ s.flapReturns.tamper = s.tamper ∧ s.flapReturns.alarms = s.alarms ∧
    s.flapReturns.report = s.report ∧ s.flapReturns.cash = s.cash ∧ s.flapReturns.path = s.path ∧
    s.flapReturns.status = s.status ∧ s.flapReturns.mailbox = s.mailbox ∧ s.flapReturns.pending = s.pending := by
  simp only [State.flapReturns]
  (repeat' split) <;> simp

@[simp] theorem State.settleLever_frame (s : State) :
    s.settleLever.now = s.now ∧ s.settleLever.mem = s.mem ∧ s.settleLever.pins = s.pins ∧
    s.settleLever.power = s.power ∧ s.settleLever.clock = s.clock ∧ s.settleLever.setup = s.setup ∧
    s.settleLever.number = s.number ∧ s.settleLever.emitter = s.emitter ∧ s.settleLever.line = s.line ∧
    s.settleLever.hook = s.hook ∧ s.settleLever.rating = s.rating ∧ s.settleLever.records = s.records ∧
    s.settleLever.tamper = s.tamper ∧ s.settleLever.alarms = s.alarms ∧ s.settleLever.report = s.report ∧
    s.settleLever.mailbox = s.mailbox ∧ s.settleLever.pending = s.pending := by
  simp [State.settleLever]

@[simp] theorem State.leverPressed_frame (s : State) :
    s.leverPressed.now = s.now ∧ s.leverPressed.mem = s.mem ∧ s.leverPressed.pins = s.pins ∧
    s.leverPressed.power = s.power ∧ s.leverPressed.clock = s.clock ∧ s.leverPressed.setup = s.setup ∧
    s.leverPressed.lever = s.lever ∧ s.leverPressed.number = s.number ∧ s.leverPressed.emitter = s.emitter ∧
    s.leverPressed.line = s.line ∧ s.leverPressed.hook = s.hook ∧ s.leverPressed.rating = s.rating ∧
    s.leverPressed.records = s.records ∧ s.leverPressed.tamper = s.tamper ∧
    s.leverPressed.alarms = s.alarms ∧ s.leverPressed.report = s.report ∧
    s.leverPressed.mailbox = s.mailbox ∧ s.leverPressed.pending = s.pending := by
  simp only [State.leverPressed]
  (repeat' split) <;> simp

@[simp] theorem State.afterMake_frame (s : State) (digit left : Nat) (use : ItemUse) :
    (s.afterMake digit left use).now = s.now ∧ (s.afterMake digit left use).mem = s.mem ∧
    (s.afterMake digit left use).pins = s.pins ∧ (s.afterMake digit left use).power = s.power ∧
    (s.afterMake digit left use).clock = s.clock ∧ (s.afterMake digit left use).setup = s.setup ∧
    (s.afterMake digit left use).coin = s.coin ∧ (s.afterMake digit left use).lever = s.lever ∧
    (s.afterMake digit left use).number = s.number ∧ (s.afterMake digit left use).line = s.line ∧
    (s.afterMake digit left use).hook = s.hook ∧ (s.afterMake digit left use).rating = s.rating ∧
    (s.afterMake digit left use).records = s.records ∧ (s.afterMake digit left use).tamper = s.tamper ∧
    (s.afterMake digit left use).alarms = s.alarms ∧ (s.afterMake digit left use).report = s.report ∧
    (s.afterMake digit left use).cash = s.cash ∧ (s.afterMake digit left use).path = s.path ∧
    (s.afterMake digit left use).status = s.status ∧ (s.afterMake digit left use).mailbox = s.mailbox ∧
    (s.afterMake digit left use).pending = s.pending := by
  simp only [State.afterMake]
  (repeat' split) <;> simp

@[simp] theorem State.meterAnswer_frame (s : State) :
    s.meterAnswer.now = s.now ∧ s.meterAnswer.mem = s.mem ∧ s.meterAnswer.pins = s.pins ∧
    s.meterAnswer.power = s.power ∧ s.meterAnswer.clock = s.clock ∧ s.meterAnswer.setup = s.setup ∧
    s.meterAnswer.lever = s.lever ∧ s.meterAnswer.hook = s.hook ∧ s.meterAnswer.tamper = s.tamper ∧
    s.meterAnswer.mailbox = s.mailbox ∧ s.meterAnswer.pending = s.pending := by
  simp [State.meterAnswer, State.answered]

@[simp] theorem State.settleHook_frame (s : State) :
    s.settleHook.now = s.now ∧ s.settleHook.mem = s.mem ∧ s.settleHook.pins = s.pins ∧
    s.settleHook.power = s.power ∧ s.settleHook.clock = s.clock ∧ s.settleHook.setup = s.setup ∧
    s.settleHook.coin = s.coin ∧ s.settleHook.lever = s.lever ∧ s.settleHook.number = s.number ∧
    s.settleHook.emitter = s.emitter ∧ s.settleHook.line = s.line ∧ s.settleHook.rating = s.rating ∧
    s.settleHook.records = s.records ∧ s.settleHook.tamper = s.tamper ∧ s.settleHook.alarms = s.alarms ∧
    s.settleHook.report = s.report ∧ s.settleHook.cash = s.cash ∧ s.settleHook.path = s.path ∧
    s.settleHook.status = s.status ∧ s.settleHook.mailbox = s.mailbox ∧ s.settleHook.pending = s.pending := by
  simp [State.settleHook]

@[simp] theorem State.firstHook_frame (s : State) :
    s.firstHook.now = s.now ∧ s.firstHook.mem = s.mem ∧ s.firstHook.pins = s.pins ∧
    s.firstHook.power = s.power ∧ s.firstHook.clock = s.clock ∧ s.firstHook.setup = s.setup ∧
    s.firstHook.coin = s.coin ∧ s.firstHook.lever = s.lever ∧ s.firstHook.number = s.number ∧
    s.firstHook.emitter = s.emitter ∧ s.firstHook.line = s.line ∧ s.firstHook.rating = s.rating ∧
    s.firstHook.records = s.records ∧ s.firstHook.tamper = s.tamper ∧ s.firstHook.alarms = s.alarms ∧
    s.firstHook.report = s.report ∧ s.firstHook.cash = s.cash ∧ s.firstHook.path = s.path ∧
    s.firstHook.status = s.status ∧ s.firstHook.mailbox = s.mailbox ∧ s.firstHook.pending = s.pending := by
  simp only [State.firstHook]
  (repeat' split) <;> simp

@[simp] theorem State.tickSecond_frame (s : State) :
    s.tickSecond.mem = s.mem ∧ s.tickSecond.pins = s.pins ∧ s.tickSecond.power = s.power ∧
    s.tickSecond.setup = s.setup ∧ s.tickSecond.coin = s.coin ∧ s.tickSecond.lever = s.lever ∧
    s.tickSecond.number = s.number ∧ s.tickSecond.emitter = s.emitter ∧ s.tickSecond.line = s.line ∧
    s.tickSecond.hook = s.hook ∧ s.tickSecond.rating = s.rating ∧ s.tickSecond.records = s.records ∧
    s.tickSecond.tamper = s.tamper ∧ s.tickSecond.alarms = s.alarms ∧ s.tickSecond.report = s.report ∧
    s.tickSecond.cash = s.cash ∧ s.tickSecond.path = s.path ∧ s.tickSecond.status = s.status ∧
    s.tickSecond.mailbox = s.mailbox ∧ s.tickSecond.pending = s.pending := by
  simp [State.tickSecond]

@[simp] theorem State.tamperChanges_frame (s : State) (i : TamperInput) (high : Bool) :
    (s.tamperChanges i high).now = s.now ∧ (s.tamperChanges i high).mem = s.mem ∧
    (s.tamperChanges i high).pins = s.pins ∧ (s.tamperChanges i high).power = s.power ∧
    (s.tamperChanges i high).clock = s.clock ∧ (s.tamperChanges i high).setup = s.setup ∧
    (s.tamperChanges i high).coin = s.coin ∧ (s.tamperChanges i high).lever = s.lever ∧
    (s.tamperChanges i high).number = s.number ∧ (s.tamperChanges i high).emitter = s.emitter ∧
    (s.tamperChanges i high).line = s.line ∧ (s.tamperChanges i high).hook = s.hook ∧
    (s.tamperChanges i high).rating = s.rating ∧ (s.tamperChanges i high).records = s.records ∧
    (s.tamperChanges i high).alarms = s.alarms ∧ (s.tamperChanges i high).report = s.report ∧
    (s.tamperChanges i high).cash = s.cash ∧ (s.tamperChanges i high).path = s.path ∧
    (s.tamperChanges i high).status = s.status ∧ (s.tamperChanges i high).mailbox = s.mailbox ∧
    (s.tamperChanges i high).pending = s.pending := by
  simp [State.tamperChanges]

@[simp] theorem State.settleAtOnce_frame (s : State) (i : TamperInput) :
    (s.settleAtOnce i).now = s.now ∧ (s.settleAtOnce i).mem = s.mem ∧ (s.settleAtOnce i).pins = s.pins ∧
    (s.settleAtOnce i).power = s.power ∧ (s.settleAtOnce i).clock = s.clock ∧
    (s.settleAtOnce i).setup = s.setup ∧ (s.settleAtOnce i).lever = s.lever ∧
    (s.settleAtOnce i).hook = s.hook ∧ (s.settleAtOnce i).mailbox = s.mailbox ∧
    (s.settleAtOnce i).pending = s.pending := by
  simp only [State.settleAtOnce]
  (repeat' split) <;> simp

@[simp] theorem State.cordCut_frame (s : State) :
    s.cordCut.now = s.now ∧ s.cordCut.mem = s.mem ∧ s.cordCut.pins = s.pins ∧ s.cordCut.power = s.power ∧
    s.cordCut.clock = s.clock ∧ s.cordCut.setup = s.setup ∧ s.cordCut.coin = s.coin ∧
    s.cordCut.lever = s.lever ∧ s.cordCut.number = s.number ∧ s.cordCut.emitter = s.emitter ∧
    s.cordCut.hook = s.hook ∧ s.cordCut.rating = s.rating ∧ s.cordCut.records = s.records ∧
    s.cordCut.mailbox = s.mailbox ∧ s.cordCut.pending = s.pending := by
  simp [State.cordCut]

@[simp] theorem State.retryExpired_frame (s : State) :
    s.retryExpired.now = s.now ∧ s.retryExpired.mem = s.mem ∧ s.retryExpired.pins = s.pins ∧
    s.retryExpired.power = s.power ∧ s.retryExpired.clock = s.clock ∧ s.retryExpired.setup = s.setup ∧
    s.retryExpired.coin = s.coin ∧ s.retryExpired.lever = s.lever ∧ s.retryExpired.number = s.number ∧
    s.retryExpired.emitter = s.emitter ∧ s.retryExpired.hook = s.hook ∧ s.retryExpired.rating = s.rating ∧
    s.retryExpired.records = s.records ∧ s.retryExpired.tamper = s.tamper ∧
    s.retryExpired.alarms = s.alarms ∧ s.retryExpired.mailbox = s.mailbox ∧
    s.retryExpired.pending = s.pending := by
  simp only [State.retryExpired]
  (repeat' split) <;> simp

@[simp] theorem State.holdExpired_frame (s : State) :
    s.holdExpired.now = s.now ∧ s.holdExpired.mem = s.mem ∧ s.holdExpired.pins = s.pins ∧
    s.holdExpired.power = s.power ∧ s.holdExpired.clock = s.clock ∧ s.holdExpired.setup = s.setup ∧
    s.holdExpired.coin = s.coin ∧ s.holdExpired.lever = s.lever ∧ s.holdExpired.number = s.number ∧
    s.holdExpired.emitter = s.emitter ∧ s.holdExpired.hook = s.hook ∧ s.holdExpired.rating = s.rating ∧
    s.holdExpired.records = s.records ∧ s.holdExpired.tamper = s.tamper ∧ s.holdExpired.alarms = s.alarms ∧
    s.holdExpired.mailbox = s.mailbox ∧ s.holdExpired.pending = s.pending := by
  simp only [State.holdExpired]
  (repeat' split) <;> simp

@[simp] theorem State.goTone_frame (s : State) :
    s.goTone.now = s.now ∧ s.goTone.mem = s.mem ∧ s.goTone.pins = s.pins ∧ s.goTone.power = s.power ∧
    s.goTone.clock = s.clock ∧ s.goTone.setup = s.setup ∧ s.goTone.coin = s.coin ∧
    s.goTone.lever = s.lever ∧ s.goTone.hook = s.hook ∧ s.goTone.rating = s.rating ∧
    s.goTone.records = s.records ∧ s.goTone.tamper = s.tamper ∧ s.goTone.mailbox = s.mailbox ∧
    s.goTone.pending = s.pending := by
  simp [State.goTone]

@[simp] theorem State.acknowledge_frame (s : State) :
    s.acknowledge.now = s.now ∧ s.acknowledge.mem = s.mem ∧ s.acknowledge.pins = s.pins ∧
    s.acknowledge.power = s.power ∧ s.acknowledge.clock = s.clock ∧ s.acknowledge.setup = s.setup ∧
    s.acknowledge.coin = s.coin ∧ s.acknowledge.lever = s.lever ∧ s.acknowledge.number = s.number ∧
    s.acknowledge.emitter = s.emitter ∧ s.acknowledge.line = s.line ∧ s.acknowledge.hook = s.hook ∧
    s.acknowledge.rating = s.rating ∧ s.acknowledge.records = s.records ∧ s.acknowledge.tamper = s.tamper ∧
    s.acknowledge.report = s.report ∧ s.acknowledge.mailbox = s.mailbox ∧ s.acknowledge.pending = s.pending := by
  simp only [State.acknowledge]
  split <;> simp

@[simp] theorem State.ackTone_frame (s : State) :
    s.ackTone.now = s.now ∧ s.ackTone.mem = s.mem ∧ s.ackTone.pins = s.pins ∧ s.ackTone.power = s.power ∧
    s.ackTone.clock = s.clock ∧ s.ackTone.setup = s.setup ∧ s.ackTone.coin = s.coin ∧
    s.ackTone.lever = s.lever ∧ s.ackTone.number = s.number ∧ s.ackTone.hook = s.hook ∧
    s.ackTone.rating = s.rating ∧ s.ackTone.tamper = s.tamper ∧ s.ackTone.mailbox = s.mailbox ∧
    s.ackTone.pending = s.pending := by
  simp [State.ackTone]

@[simp] theorem State.unsetClock_frame (s : State) :
    s.unsetClock.now = s.now ∧ s.unsetClock.mem = s.mem ∧ s.unsetClock.pins = s.pins ∧
    s.unsetClock.power = s.power ∧ s.unsetClock.setup = s.setup ∧ s.unsetClock.coin = s.coin ∧
    s.unsetClock.lever = s.lever ∧ s.unsetClock.number = s.number ∧ s.unsetClock.emitter = s.emitter ∧
    s.unsetClock.line = s.line ∧ s.unsetClock.hook = s.hook ∧ s.unsetClock.rating = s.rating ∧
    s.unsetClock.records = s.records ∧ s.unsetClock.tamper = s.tamper ∧ s.unsetClock.alarms = s.alarms ∧
    s.unsetClock.report = s.report ∧ s.unsetClock.cash = s.cash ∧ s.unsetClock.path = s.path ∧
    s.unsetClock.status = s.status ∧ s.unsetClock.mailbox = s.mailbox ∧ s.unsetClock.pending = s.pending := by
  simp [State.unsetClock]

end Sys2Proof.Machine
end

