-- ==== Sys2Proof/Laws/Memory.lean ====
section
/-! SUPPORT. The laws of memory: a read after a write, every write keeps the canonical form, and what a byte
or word write at the port does to memory. -/

namespace Sys2Proof.Machine

/-! ### Bytes -/

/-- Below every listed address memory reads as unlisted. -/
theorem readByte_below {m : Memory} {low addr : Nat} (hk : addr < low)
    (hw : wellFormedAbove low m = true) : readByte m addr = unlistedByte addr := by
  induction m generalizing low with
  | nil => rfl
  | cons e rest ih =>
    obtain ⟨a, v⟩ := e
    simp only [wellFormedAbove, Bool.and_eq_true, decide_eq_true_eq] at hw
    have hne : a ≠ addr := by omega
    simp only [readByte, hne, if_false]
    exact ih (by omega) hw.2

/-- A byte written reads back. -/
theorem readByte_writeByte_same (m : Memory) (addr : Nat) (b : Byte) (low : Nat)
    (h : wellFormedAbove low m = true) : readByte (writeByte m addr b) addr = b := by
  induction m generalizing low with
  | nil => by_cases hb : b = unlistedByte addr <;> simp [writeByte, readByte, hb]
  | cons e rest ih =>
    obtain ⟨a, old⟩ := e
    simp only [wellFormedAbove, Bool.and_eq_true, decide_eq_true_eq] at h
    obtain ⟨-, hrest⟩ := h
    simp only [writeByte]
    split
    · split
      · rename_i hlt hb
        have hne : a ≠ addr := by omega
        simp only [readByte, hne, if_false]
        rw [readByte_below (by omega) hrest, hb]
      · simp [readByte]
    · split
      · split
        · rename_i hb
          rw [readByte_below (by omega) hrest, hb]
        · simp [readByte]
      · rename_i hne
        have hne' : a ≠ addr := fun h => hne h.symm
        simp only [readByte, hne', if_false]
        exact ih (a + 1) hrest

/-- A byte write leaves every other address as it was. -/
theorem readByte_writeByte_other (m : Memory) (addr other : Nat) (b : Byte) (h : other ≠ addr) :
    readByte (writeByte m addr b) other = readByte m other := by
  induction m with
  | nil => by_cases hb : b = unlistedByte addr <;> simp [writeByte, readByte, hb, Ne.symm h]
  | cons e rest ih =>
    obtain ⟨a, old⟩ := e
    simp only [writeByte]
    split
    · split <;> simp [readByte, Ne.symm h]
    · split
      · rename_i heq
        subst heq
        split <;> simp [readByte, Ne.symm h]
      · simp only [readByte, ih]

/-- A form above a bound is one above any lower bound. -/
theorem wellFormedAbove_mono {low high : Nat} {m : Memory} (hl : low ≤ high)
    (h : wellFormedAbove high m = true) : wellFormedAbove low m = true := by
  cases m with
  | nil => rfl
  | cons e rest =>
    obtain ⟨a, b⟩ := e
    simp only [wellFormedAbove, Bool.and_eq_true, decide_eq_true_eq] at h ⊢
    exact ⟨⟨by omega, h.1.2⟩, h.2⟩

/-- A byte write keeps the form above a bound not above its address. -/
theorem wellFormedAbove_writeByte (m : Memory) (low addr : Nat) (b : Byte) (hl : low ≤ addr)
    (h : wellFormedAbove low m = true) : wellFormedAbove low (writeByte m addr b) = true := by
  induction m generalizing low with
  | nil => by_cases hb : b = unlistedByte addr <;> simp [writeByte, wellFormedAbove, hb, hl]
  | cons e rest ih =>
    obtain ⟨a, old⟩ := e
    have h' := h
    simp only [wellFormedAbove, Bool.and_eq_true, decide_eq_true_eq] at h'
    obtain ⟨⟨hla, hold⟩, hrest⟩ := h'
    simp only [writeByte]
    split
    · split
      · exact h
      · rename_i hlt hb
        simp only [wellFormedAbove, Bool.and_eq_true, decide_eq_true_eq]
        exact ⟨⟨hl, by simpa using hb⟩, ⟨⟨by omega, hold⟩, hrest⟩⟩
    · split
      · rename_i heq
        split
        · exact wellFormedAbove_mono (by omega) hrest
        · rename_i hb
          subst heq
          simp only [wellFormedAbove, Bool.and_eq_true, decide_eq_true_eq]
          exact ⟨⟨hl, by simpa using hb⟩, hrest⟩
      · simp only [wellFormedAbove, Bool.and_eq_true, decide_eq_true_eq]
        exact ⟨⟨hla, hold⟩, ih (a + 1) (by omega) hrest⟩

/-- A byte write keeps the canonical form. -/
theorem writeByte_wf (m : Memory) (addr : Nat) (b : Byte) (h : Memory.wf m = true) :
    Memory.wf (writeByte m addr b) = true :=
  wellFormedAbove_writeByte m 0 addr b (Nat.zero_le _) h

/-- A word write keeps the canonical form. -/
theorem writeWord_wf (m : Memory) (addr : Nat) (w : Word) (h : Memory.wf m = true) :
    Memory.wf (writeWord m addr w) = true :=
  writeByte_wf _ _ _ (writeByte_wf _ _ _ h)

/-! ### Words -/

/-- The two bytes of a word joined give the word. -/
@[simp] theorem joinBytes_highByte_lowByte (w : Word) : joinBytes (highByte w) (lowByte w) = w := by
  apply BitVec.eq_of_toNat_eq
  have := w.isLt
  simp only [joinBytes, highByte, lowByte, BitVec.toNat_ofNat]
  omega

/-- A word written reads back. -/
theorem readWord_writeWord_same (m : Memory) (addr : Nat) (w : Word) (h : Memory.wf m = true) :
    readWord (writeWord m addr w) addr = w := by
  have h1 := writeByte_wf m addr (lowByte w) h
  simp only [readWord, writeWord]
  rw [readByte_writeByte_same _ _ _ 0 h1, readByte_writeByte_other _ _ _ _ (by omega),
    readByte_writeByte_same _ _ _ 0 h]
  exact joinBytes_highByte_lowByte w

/-- A word write leaves every byte outside the word as it was. -/
theorem readByte_writeWord_other (m : Memory) (addr other : Nat) (w : Word) (h : other ≠ addr)
    (h' : other ≠ addr + 1) : readByte (writeWord m addr w) other = readByte m other := by
  simp only [writeWord]
  rw [readByte_writeByte_other _ _ _ _ h', readByte_writeByte_other _ _ _ _ h]

/-! ### Writes at the port -/

/-- Memory after a byte write at the port. -/
@[simp] theorem State.storeByte_mem (s : State) (addr : Nat) (b : Byte) :
    (s.storeByte addr b).mem = writeByte s.mem addr (storedByte s addr b) := by
  simp only [State.storeByte, State.countFlash]
  split <;> rfl

/-- A byte write at the port keeps the canonical form. -/
theorem State.storeByte_wf (s : State) (addr : Nat) (b : Byte) (h : Memory.wf s.mem = true) :
    Memory.wf (s.storeByte addr b).mem = true := by
  simpa using writeByte_wf _ _ _ h

/-- Memory after a word write at the port. -/
theorem State.storeWord_mem (s : State) (addr : Nat) (w : Word) :
    (s.storeWord addr w).mem = writeByte (writeByte s.mem addr (storedByte s addr (lowByte w))) (addr + 1)
      (storedByte (s.putByte addr (lowByte w)) (addr + 1) (highByte w)) := by
  simp only [State.storeWord, State.countFlash]
  split <;> rfl

/-- A word write at the port keeps the canonical form. -/
theorem State.storeWord_wf (s : State) (addr : Nat) (w : Word) (h : Memory.wf s.mem = true) :
    Memory.wf (s.storeWord addr w).mem = true := by
  rw [State.storeWord_mem]
  exact writeByte_wf _ _ _ (writeByte_wf _ _ _ h)

/-- In SRAM a word write at the port leaves the word itself. -/
theorem State.storeWord_mem_sram (s : State) (addr : Nat) (w : Word) (h : addr + 1 < Config.flashBase) :
    (s.storeWord addr w).mem = writeWord s.mem addr w := by
  have h' : addr < Config.flashBase := by omega
  rw [State.storeWord_mem]
  simp [storedByte, h, h', writeWord]

/-- In SRAM a word written at the port reads back. -/
theorem State.storeWord_readWord (s : State) (addr : Nat) (w : Word) (h : addr + 1 < Config.flashBase)
    (hw : Memory.wf s.mem = true) : readWord (s.storeWord addr w).mem addr = w := by
  rw [State.storeWord_mem_sram s addr w h]
  exact readWord_writeWord_same _ _ _ hw

/-- A word write at the port leaves every byte outside the word as it was. -/
theorem State.storeWord_readByte_other (s : State) (addr other : Nat) (w : Word) (h : other ≠ addr)
    (h' : other ≠ addr + 1) : readByte (s.storeWord addr w).mem other = readByte s.mem other := by
  rw [State.storeWord_mem, readByte_writeByte_other _ _ _ _ h', readByte_writeByte_other _ _ _ _ h]

/-- A word write at the port in SRAM changes nothing but memory. -/
theorem State.storeWord_sram (s : State) (addr : Nat) (w : Word) (h : addr < Config.flashBase) :
    s.storeWord addr w = { s with mem := (s.storeWord addr w).mem } := by
  simp [State.storeWord, State.countFlash, h, State.putByte, State.updMem]

/-- The memory of the reset state has the canonical form. -/
theorem State.reset_mem_wf : Memory.wf State.reset.mem = true := rfl

end Sys2Proof.Machine
end

