-- ==== Sys2Proof/Laws/Effects.lean ====
section
/-! SUPPORT. Effects: what a shared operation leaves in the fields it does change, one lemma for each operation,
beside the frames of the other files. -/

namespace Sys2Proof.Machine

/-! ### Flags and alarms -/

/-- A flag stands after a raise when it stood before or is the one raised (R165). -/
theorem State.raise_isIn (s : State) (f g : EventFlag) :
    f.isIn (s.raise g).status.flags = (f.isIn s.status.flags || decide (f = g)) := by
  cases f <;> cases g <;> simp [State.raise, State.updStatus, EventFlag.isIn, EventFlag.bit, EventFlag.only]

/-- A flag stands after a clear when it stood before and is not the one cleared. -/
theorem State.lower_isIn (s : State) (f g : EventFlag) :
    f.isIn (s.lower g).status.flags = (f.isIn s.status.flags && decide (f ≠ g)) := by
  cases f <;> cases g <;> simp [State.lower, State.updStatus, EventFlag.isIn, EventFlag.bit, EventFlag.only]

/-- An occurrence changes the alarm table as R114 has it. -/
@[simp] theorem State.occurrence_alarms (s : State) (k : AlarmKind) :
    (s.occurrence k).alarms = s.alarms.occur k (k.isIn s.setup.settings.reportEnables) s.calendar := by
  simp only [State.occurrence]
  split <;> simp [State.noticeNewKind]
  split <;> simp

/-- The latest time of a kind after its occurrence is the time of the occurrence (R114). -/
@[simp] theorem AlarmState.occur_lastTime (a : AlarmState) (k : AlarmKind) (enabled : Bool) (t : CalTime) :
    ((a.occur k enabled t).get k).lastTime = some t := by
  cases k <;> cases enabled <;> simp [AlarmState.occur] <;> split <;>
    simp [AlarmState.get, AlarmState.put, AlarmState.requeue, cycleEntry, AlarmEntry.again]

/-- A change of the cash image leaves its items: it touches the write-back alone (R146). -/
@[simp] theorem State.cashChanged_items (s : State) :
    s.cashChanged.cash.totals = s.cash.totals ∧ s.cashChanged.cash.openCall = s.cash.openCall ∧
      s.cashChanged.cash.summary = s.cash.summary ∧ s.cashChanged.cash.closeOwed = s.cash.closeOwed ∧
      s.cashChanged.cash.vaultCoins = s.cash.vaultCoins := by
  simp only [State.cashChanged]
  split
  · simp only [State.join_frame, State.updCash_cash, CashState.changed]
    split <;> simp
  · simp

/-- A grant leaves the trap summary, an owed close and the vault's coins. -/
@[simp] theorem State.grantWaiting_cash_items (s : State) :
    s.grantWaiting.cash.summary = s.cash.summary ∧ s.grantWaiting.cash.closeOwed = s.cash.closeOwed ∧
      s.grantWaiting.cash.vaultCoins = s.cash.vaultCoins := by
  simp only [State.grantWaiting]
  split
  · split
    · simp only [State.grantCustomer]
      split
      · rename_i kind _
        cases kind <;> simp [State.tallyGrant, State.tally, State.openMirror, State.takeLine]
      · simp [State.takeLine]
    · simp [State.takeLine]
    · simp
  · simp

/-- An occurrence leaves the trap summary, an owed close and the vault's coins. -/
@[simp] theorem State.occurrence_cash_items (s : State) (k : AlarmKind) :
    (s.occurrence k).cash.summary = s.cash.summary ∧ (s.occurrence k).cash.closeOwed = s.cash.closeOwed ∧
      (s.occurrence k).cash.vaultCoins = s.cash.vaultCoins := by
  simp only [State.occurrence]
  split
  · simp only [State.noticeNewKind, State.checkQueue]
    split <;> (try split) <;> simp [State.beginRun, State.placeReport]
  · simp

/-- The summary takes the union with the flags checked (R92). -/
@[simp] theorem State.trapCheck_summary (s : State) (f : RatingFlags) :
    (s.trapCheck f).cash.summary = s.cash.summary ||| f := by
  simp only [State.trapCheck]
  (repeat' split) <;> simp_all

/-! ### The line -/

/-- An occurrence on a line that is not IDLE leaves it with its owner and its timers: no grant is made. -/
theorem State.occurrence_busy_line (s : State) (k : AlarmKind) (h : s.line.phase ≠ .idle) :
    (s.occurrence k).line.phase = s.line.phase ∧ (s.occurrence k).line.owner = s.line.owner ∧
      (s.occurrence k).line.guardTimer = s.line.guardTimer ∧ (s.occurrence k).line.attempt = s.line.attempt ∧
      (s.occurrence k).line.clearTimer = s.line.clearTimer ∧
      (s.occurrence k).line.answerWaitTimer = s.line.answerWaitTimer ∧ (s.occurrence k).emitter = s.emitter ∧
      (s.occurrence k).cash.openCall = s.cash.openCall := by
  simp only [State.occurrence]
  split
  · simp only [State.noticeNewKind]
    split <;> simp [State.checkQueue, State.beginRun, State.placeReport, State.grantWaiting, h]
    split <;> simp
  · simp

/-- The trap check on a line that is not IDLE leaves it with its owner and its timers. -/
theorem State.trapCheck_busy_line (s : State) (f : RatingFlags) (h : s.line.phase ≠ .idle) :
    (s.trapCheck f).line.phase = s.line.phase ∧ (s.trapCheck f).line.owner = s.line.owner ∧
      (s.trapCheck f).line.guardTimer = s.line.guardTimer ∧ (s.trapCheck f).line.attempt = s.line.attempt ∧
      (s.trapCheck f).line.clearTimer = s.line.clearTimer ∧
      (s.trapCheck f).line.answerWaitTimer = s.line.answerWaitTimer ∧ (s.trapCheck f).emitter = s.emitter := by
  have := s.occurrence_busy_line .ratingAnomaly h
  simp only [State.trapCheck]
  split <;> split <;> simp_all

/-! ### The number -/

@[simp] theorem State.setNumberPhase_phase (s : State) (p : NumberPhase) :
    (s.setNumberPhase p).number.phase = p := by
  simp only [State.setNumberPhase]; split <;> simp_all

@[simp] theorem State.setFifo_phase (s : State) (q : List Nat) : (s.setFifo q).number.phase = s.number.phase := by
  simp only [State.setFifo]; (repeat' split) <;> simp

@[simp] theorem State.setFifo_fifo (s : State) (q : List Nat) : (s.setFifo q).number.fifo = q := by
  simp only [State.setFifo]; (repeat' split) <;> simp

/-- A number that ends leaves an EMPTY record, an empty FIFO and no context, and withdraws its request (R39). -/
theorem State.endNumber_effect (s : State) :
    s.endNumber.number.phase = .empty ∧ s.endNumber.number.digits = [] ∧ s.endNumber.number.fifo = [] ∧
      s.endNumber.rating.context = none ∧ s.endNumber.line = { s.line with customerRequest := none } := by
  have h : ∀ (t : State) (q : List Nat), (t.setFifo q).number.digits = t.number.digits := by
    intro t q; simp only [State.setFifo]; (repeat' split) <;> simp
  simp [h, State.endNumber, State.discardContext, State.discardReads, State.stopNumberTimers,
    State.withdrawCustomer, NumberState.blank]

/-- A number that is refused keeps its digits, zone and kind, with an empty FIFO, no context and no request
(R34). -/
theorem State.refuseNumber_effect (s : State) (c : RefusalCause) :
    (s.refuseNumber c).number.phase = .refused ∧ (s.refuseNumber c).number.cause = some c ∧
      (s.refuseNumber c).number.fifo = [] ∧ (s.refuseNumber c).number.digits = s.number.digits ∧
      (s.refuseNumber c).number.zone = s.number.zone ∧ (s.refuseNumber c).number.kind = s.number.kind ∧
      (s.refuseNumber c).rating.context = none := by
  have h : ∀ (t : State) (q : List Nat), (t.setFifo q).number.digits = t.number.digits ∧
      (t.setFifo q).number.zone = t.number.zone ∧ (t.setFifo q).number.kind = t.number.kind ∧
      (t.setFifo q).number.cause = t.number.cause := by
    intro t q; simp only [State.setFifo]; (repeat' split) <;> simp
  have h' : ∀ (t : State) (p : NumberPhase), (t.setNumberPhase p).number.digits = t.number.digits ∧
      (t.setNumberPhase p).number.zone = t.number.zone ∧ (t.setNumberPhase p).number.kind = t.number.kind ∧
      (t.setNumberPhase p).number.cause = t.number.cause := by
    intro t p; simp only [State.setNumberPhase]; split <;> simp
  cases c <;> simp [State.refuseNumber, State.tallyRefusal, State.discardContext, State.discardReads,
    State.stopNumberTimers, State.withdrawCustomer, h, h']

/-- A number that waits neither for its deposit nor for the line is not re-checked (R19, R35). -/
theorem State.recheckDeposit_of_not_waiting {s : State} (h1 : s.number.phase ≠ .waitDeposit)
    (h2 : s.number.phase ≠ .waitLine) : s.recheckDeposit = s := by
  simp only [State.recheckDeposit, State.paidRequestWaits]
  split
  · rfl
  · simp [h1, h2]

/-! ### Records -/

/-- What an offer leaves in the record writer depends on the record writer alone (R98). -/
theorem State.offerRecord_records_congr {s t : State} (r : CallRecord) (h : s.records = t.records) :
    (s.offerRecord r).records = (t.offerRecord r).records := by
  simp only [State.offerRecord, h]
  (repeat' split) <;> simp [h]

/-! ### The escrow -/

@[simp] theorem State.moveGate_escrow (s : State) :
    s.moveGate.coin.escrow = s.coin.gate.toList ++ s.coin.escrow := by
  simp only [State.moveGate]; split <;> simp [*]

@[simp] theorem State.moveGate_gate (s : State) : s.moveGate.coin.gate = none := by
  simp only [State.moveGate]; split <;> simp [*]

/-- With no close owed the test of an owed close does nothing (R142). -/
theorem State.closeTest_of_not_owed {s : State} (h : s.cash.closeOwed = false) : s.closeTest = s := by
  simp [State.closeTest, h]

/-- With no close owed the test after an event does nothing (R142). -/
theorem State.thenTest_of_not_owed {s : State} {event : State → State} (h : (event s).cash.closeOwed = false) :
    s.thenTest event = event s := by
  simp [State.thenTest, State.closeTest_of_not_owed h]

/-- An event that leaves the escrow, the gate, the operation and banked credit is not followed by the test (R142). -/
theorem State.thenTest_of_same_purse {s : State} {event : State → State}
    (h : (event s).coin.purse = s.coin.purse) : s.thenTest event = event s := by
  simp [State.thenTest, h]

/-! ### The rating context -/

@[simp] theorem State.updContext_context (s : State) (f : RatingContext → RatingContext) :
    (s.updContext f).rating.context = s.rating.context.map f := rfl

@[simp] theorem State.mirrorCall_rating (s : State) (c : RatingContext) : (s.mirrorCall c).rating = s.rating := by
  simp only [State.mirrorCall]; split <;> (try split) <;> simp

@[simp] theorem State.addStatus_context (s : State) (f : RatingFlags) :
    (s.addStatus f).rating.context = s.rating.context.map fun c => c.addFlags f := by
  simp only [State.addStatus]
  split
  · rename_i c hc
    simp [hc]
  · rename_i hc
    simp [hc]

@[simp] theorem State.raiseCharge_context (s : State) (a u : Nat) (o : ChargeOrigin) :
    (s.raiseCharge a u o).rating.context =
      s.rating.context.map fun c => { c with charge := some ⟨a, u, o⟩ } := rfl

/-- A payment check with a pending charge pays it, or awaits credit for it (R78). -/
theorem State.checkCharge_of_charge {s : State} {x : RatingContext} {p : Charge}
    (hx : s.rating.context = some x) (hp : x.charge = some p) :
    s.checkCharge = if p.amount ≤ s.coin.banked then s.payCharge x p else s.awaitCredit := by
  simp [State.checkCharge, hx, hp]

/-- A unit of a call with a snapshot ends in a lookup, a charge for the next unit and its payment check (R76). -/
theorem State.unitEnds_of_snapshot {s : State} {x : RatingContext} {snap : Snapshot}
    (hx : s.rating.context = some x) (hs : x.snapshot = some snap) :
    s.unitEnds =
      let rated := ratedUnit snap s.clock
      ((((s.updContext fun x => { x with unitTimer := .stopped }).addStatus rated.2).raiseCharge
        rated.1.charge 1 (.unitExpiry rated.1))).checkCharge := by
  simp [State.unitEnds, hx, hs]

/-- A total or a count of units that would pass 65535 marks the call SATURATED (R79). -/
theorem RatingContext.paid_saturated {x : RatingContext} {p : Charge} {n : Nat}
    (h : 65535 < x.total + p.amount ∨ 65535 < x.units + p.units) :
    RatingFlag.saturated.isIn (x.paid p n).status = true := by
  simp only [RatingContext.paid]
  have : saturates x p = true := by simpa [saturates] using h
  rw [if_pos this]
  simp [RatingFlag.isIn, RatingFlag.only, RatingFlag.bit]

/-! ### The memory port -/

/-- With no access in bus wait nothing is released. -/
theorem State.releaseBus_of_empty {s : State} (h : s.path.busWait = []) : s.releaseBus = s := by
  simp only [State.releaseBus]
  split
  · rfl
  · cases s with
    | mk => rename_i path _ _ _ _; cases path; simp_all [State.updPath]

/-- A run whose last word is next is one turn (log entry 3). -/
theorem State.turnsUntil_of_ready {s : State} {ready : State → Bool} (h : ready s = true) :
    s.turnsUntil ready = s.turn := by
  simp [State.turnsUntil, show Config.turnFuel = 16383 + 1 from rfl, runTo, h]

/-- A run with an empty part queue whose last word is not next leaves the state (log entry 3). -/
theorem State.turnsUntil_of_no_work {s : State} {ready : State → Bool} (h : ready s = false)
    (hq : s.path.partQueue = []) : s.turnsUntil ready = s := by
  simp [State.turnsUntil, show Config.turnFuel = 16383 + 1 from rfl, runTo, h, hq]

/-- A part turn gives the requester at the oldest end its word operation, takes it from the queue to join again if
it has a further word, and clears the part-owed mark (R161, R162). -/
theorem State.partTurn_of_queue {s : State} {r : Requester} {rest : List Requester} (hh : s.isHeld = false)
    (hq : s.path.partQueue = r :: rest) :
    s.partTurn = (((s.wordOperation r).updPath fun p => { p with partQueue := p.partQueue.tail }).rejoin r).updPath
      fun p => { p with partOwed := false } := by
  simp [State.partTurn, hh, hq]

/-- The mailbox's turn while it reads arguments: one more word read at the command's base (R170). -/
theorem State.partTurn_readArgument {u : State} {c : Command} (hh : u.isHeld = false)
    (hq : u.path.partQueue = [.mailbox]) (hc : u.mailbox.command = some c) (hs : c.step = .readArguments) :
    u.partTurn =
      { u with path := { u.path with partQueue := [.mailbox], partOwed := false }
               mailbox := ⟨some { c with
                 arguments := c.arguments ++ [readWord u.mem (c.addr (c.arguments.length + 1))]
                 step := if c.arguments.length + 1 < 5 then .readArguments else .clearSlot }⟩ } := by
  simp only [State.partTurn, hh, hq, State.wordOperation, State.mailboxWord, State.rejoin]
  simp [hc, hs, hq, State.readArgument, State.updCommand, State.hasWord, State.join, State.updPath, State.updMailbox]
  split <;> simp

/-- A command just taken, with no other work at the port, is brought to step 4 with its five argument words read
(R170, log entry 3). -/
theorem State.bringToStep4_of_taken {u : State} {code : Word} {base : Nat} (hh : u.isHeld = false)
    (hq : u.path.partQueue = [.mailbox])
    (hc : u.mailbox.command = some ⟨code, base, [], .readArguments, 0#16, []⟩) :
    u.bringToStep4 =
      ({ u with path := { u.path with partQueue := [.mailbox], partOwed := false }
                mailbox := ⟨some ⟨code, base,
                  [readWord u.mem (base + 2), readWord u.mem (base + 4), readWord u.mem (base + 6),
                    readWord u.mem (base + 8), readWord u.mem (base + 10)], .clearSlot, 0#16, []⟩⟩ } :
        State).partTurn := by
  have r : ∀ (v : State) (c : Command) (k : Nat), v.path.partQueue = [.mailbox] →
      v.mailbox.command = some c → c.step = .readArguments →
      runTo State.partTurn State.atCarryOut (k + 1) v = runTo State.partTurn State.atCarryOut k v.partTurn := by
    intro v c k h2 h3 h4
    simp [runTo, State.atCarryOut, State.isNext, h2, h3, h4]
  have hu : ∀ (v : State) (a : PathState) (b : MailboxState), v.isHeld = false →
      ({ v with path := a, mailbox := b } : State).isHeld = false := fun v a b h => h
  simp only [State.bringToStep4]
  rw [show Config.turnFuel = 16378 + 1 + 1 + 1 + 1 + 1 + 1 from rfl]
  rw [r u _ _ hq hc rfl, State.partTurn_readArgument hh hq hc rfl]
  rw [r _ _ _ rfl rfl rfl, State.partTurn_readArgument (hu _ _ _ hh) rfl rfl rfl]
  rw [r _ _ _ rfl rfl rfl, State.partTurn_readArgument (hu _ _ _ hh) rfl rfl rfl]
  rw [r _ _ _ rfl rfl rfl, State.partTurn_readArgument (hu _ _ _ hh) rfl rfl rfl]
  rw [r _ _ _ rfl rfl rfl, State.partTurn_readArgument (hu _ _ _ hh) rfl rfl rfl]
  simp [runTo, State.atCarryOut, State.isNext, Command.addr, wordAddr]

/-- The turn at which word 0 is written as 0 and the command is carried out (R170). -/
theorem State.partTurn_carryOut {u : State} {c : Command} (hh : u.isHeld = false)
    (hq : u.path.partQueue = [.mailbox]) (hc : u.mailbox.command = some c) (hs : c.step = .clearSlot) :
    u.partTurn =
      (((((u.storeWord c.base 0#16).carryOut c).updPath fun p => { p with partQueue := p.partQueue.tail }).rejoin
        .mailbox).updPath fun p => { p with partOwed := false }) := by
  simp [State.partTurn, hh, hq, State.wordOperation, State.mailboxWord, hc, hs, State.clearSlot, Command.addr,
    wordAddr]

/-! ### The host's turns (R162) -/

/-- With no part work waiting an access owes no part turn (R162). -/
theorem State.atHostTurn_of_no_work {s : State} (a : State) (h : s.path.partQueue = []) : s.atHostTurn a = a := by
  simp [State.atHostTurn, State.owesTurn, h]

/-- With the part-owed mark clear an access owes no part turn (R162). -/
theorem State.atHostTurn_of_not_owed {s : State} (a : State) (h : s.path.partOwed = false) :
    s.atHostTurn a = a := by
  simp [State.atHostTurn, State.owesTurn, h]

/-- An access has its turn in the state that its action has left, or after one part turn of that state (R162). -/
theorem State.atHostTurn_cases (s a : State) : s.atHostTurn a = a ∨ s.atHostTurn a = a.partTurn := by
  simp only [State.atHostTurn]
  split <;> simp

/-- A write of a special word that passes: its action as it is taken, and its word at its turn (R153, R157). -/
theorem State.takeSpecial_of_passes {s : State} {w : SpecialWord} {v : Word} (h : s.specialPasses w v = true) :
    s.takeSpecial w v =
      ((s.atHostTurn (s.specialAction w v)).storeWord (s.specialAddr w) v).hostTurnEnds := by
  simp [State.takeSpecial, State.passing, h]

/-- A write of a special word that is dropped: its action, and no turn at the port (R154, R157). -/
theorem State.takeSpecial_of_dropped {s : State} {w : SpecialWord} {v : Word} (h : s.specialPasses w v = false) :
    s.takeSpecial w v = s.specialAction w v := by
  simp [State.takeSpecial, h]

end Sys2Proof.Machine
end

