-- ==== Sys2Proof/Laws/Tallies.lean ====
section
/-! SUPPORT. The pending list of the tally logic (R159): what an increment does to the pending amount of each
tally, and the operations that leave every pending amount. -/

namespace Sys2Proof.Machine

/-- The pending amounts are those of the pending list alone. -/
theorem State.pendingTally_congr {s t : State} (h : t.path.tallies = s.path.tallies) (name : TallyName) :
    t.pendingTally name = s.pendingTally name := by simp only [State.pendingTally, h]

/-- An increment raises the pending amount of its own tally by 1, saturating (R159). -/
theorem addTally_self (l : List PendingTally) (name : TallyName) :
    (((addTally l name).find? fun e => e.tally == name).map PendingTally.amount).getD 0 =
      min (((l.find? fun e => e.tally == name).map PendingTally.amount).getD 0 + 1) 65535 := by
  induction l with
  | nil => simp [addTally]
  | cons e rest ih =>
    by_cases h : e.tally = name
    · simp [addTally, h, saturate16]
    · simpa [addTally, h, List.find?_cons] using ih

/-- An increment leaves the pending amount of every other tally (R159). -/
theorem addTally_other (l : List PendingTally) {name other : TallyName} (h : other ≠ name) :
    ((addTally l name).find? fun e => e.tally == other) = l.find? fun e => e.tally == other := by
  induction l with
  | nil => simp [addTally, Ne.symm h]
  | cons e rest ih =>
    by_cases he : e.tally = name
    · simp [addTally, he, Ne.symm h]
    · simp [addTally, he, List.find?_cons, ih]

@[simp] theorem State.join_tallies (s : State) (r : Requester) : (s.join r).path.tallies = s.path.tallies := by
  simp only [State.join, State.updPath]
  split <;> rfl

@[simp] theorem State.tally_tallies (s : State) (name : TallyName) :
    (s.tally name).path.tallies = addTally s.path.tallies name := by
  simp only [State.tally, State.join_tallies]
  rfl

/-- A tally rises in its own increment (R158, R159). -/
theorem State.tally_rises (s : State) (name : TallyName) : s.tallyRises (s.tally name) name := by
  simpa only [State.tallyRises, State.pendingTally, State.tally_tallies] using addTally_self s.path.tallies name

/-- The pending amount of every other tally stays. -/
theorem State.tally_pendingTally (s : State) {name other : TallyName} (h : other ≠ name) :
    (s.tally name).pendingTally other = s.pendingTally other := by
  simp only [State.pendingTally, State.tally_tallies, addTally_other _ h]

@[simp] theorem State.raise_tallies (s : State) (f : EventFlag) : (s.raise f).path.tallies = s.path.tallies := rfl

@[simp] theorem State.cashChanged_tallies (s : State) : s.cashChanged.path.tallies = s.path.tallies := by
  simp only [State.cashChanged]
  split
  · simp only [State.join_tallies]; rfl
  · rfl

end Sys2Proof.Machine
end

