-- ==== Sys2Proof/Tests/Slice0.lean ====
section
/-! SUPPORT. Tests: ill-formed operands that the check refuses, one or two steps or rules of each family with the
values of the spec's worked examples, and, for each statement with hypotheses, a witness that meets them. -/

namespace Sys2Proof.Tests

open Sys2Proof Sys2Proof.Machine

/-- What a step leaves of the next state, none where it stops. -/
def after {α : Type} (o : Host.Outcome State Fault Refusal) (f : State → α) : Option α :=
  match o with
  | .next t => some (f t)
  | _ => none

/-- A part whose start has ended, off-hook, the line IDLE, the built-in settings current. -/
def live : State :=
  { State.reset with
    power := ⟨true, false, .ended, .powerOn⟩, setup := ⟨builtInSettings, .builtIn, none⟩
    path := ⟨[], false, [], [], 0#16, 0⟩, pins := { pinsAtRest with onHook := false }
    hook := ⟨⟨some false, none⟩, .offHook, none⟩, lever := ⟨some false, none⟩
    line := { lineAtStart 0 pinsAtRest with phase := .idle, guardTimer := none }
    tamper := { tamperAtStart with firstSet := true, vault := ⟨⟨some true, none⟩, true⟩ } }

/-- The snapshot of chapter 4.8: S = 10, U = 25, P = 2, DAY to slot 35 and EVENING from slot 36. -/
def zone3 : Snapshot where
  setupCharge := 10
  baseCharge := 25
  depositUnits := 2
  peak := ⟨600, 1024, 0⟩
  day := ⟨600, 1024, 0⟩
  evening := ⟨900, 820, 2⟩
  night := ⟨600, 1024, 0⟩
  bandMap := List.replicate 18 0x0101#16 ++ List.replicate 54 0x0202#16
  holidays := []

/-- The clock of chapter 4.8 on a Monday. -/
def monday (hour minute second : Nat) : Clock := ⟨3, 5, 1, hour, minute, second, true, 1000⟩

/-- A connected PAID call with 35 mu banked and unit 1 running (chapter 4.8). -/
def connected : State :=
  { live with
    clock := monday 17 59 30, coin := { coinAtStart with banked := 35 }
    line := { lineAtStart 0 pinsAtRest with
      phase := .connected, owner := some .customer, attempt := some 1, guardTimer := none }
    number := { numberAtStart with
      phase := .dialled, digits := [0, 8], emitted := 2, zone := some 3, kind := some .paid, decided := true }
    rating := ⟨some { freshContext with
      kind := some .paid, snapshot := some zone3, phase := .answered, unit := some ⟨.day, 25, 600⟩
      unitTimer := .running 60000, units := 1, total := 35, coins := 70 }, []⟩ }

/-! ### Well-formed operands -/

theorem test_write_above_memory_is_ill_formed :
    Instr.wellFormed (.hostWrite 0x100000 .byte 0#16) = false := by decide
theorem test_odd_word_write_is_ill_formed :
    Instr.wellFormed (.hostWrite 0x7F001 .word 0#16) = false := by decide
theorem test_odd_byte_write_is_well_formed :
    Instr.wellFormed (.hostWrite 0xFFFFF .byte 0#16) = true := by decide
theorem test_protected_write_above_memory_is_ill_formed :
    Instr.wellFormed (.protectedWrite 0x100000 .word 0#16) = false := by decide
theorem test_odd_protected_word_is_ill_formed :
    Instr.wellFormed (.protectedWrite 0x7F001 .word 0#16) = false := by decide
theorem test_known_code_is_no_unknown_command :
    Instr.wellFormed (.unknownCommand 7#16) = false ∧ Instr.wellFormed (.unknownCommand 8#16) = true := by
  decide
theorem test_ill_formed_write_stops :
    exec (.hostWrite 0x100000 .word 0#16) live = .fault (.addressOutsideMemory 0x100000) ∧
      exec (.hostWrite 0x7F001 .word 0#16) live = .refused (.oddWordAccess 0x7F001) := ⟨rfl, rfl⟩
theorem test_no_row_has_bits : decodeTableWord 16 0x1234 = none := rfl

/-! ### Rules with the values of the spec's examples -/

/-- The table of chapter 4.4. -/
theorem test_effective_charges :
    effectiveCharge 25 1024 0 = (25, 0#8) ∧ effectiveCharge 25 820 2 = (22, 0#8) ∧
      effectiveCharge 1 512 0 = (1, 0#8) ∧ effectiveCharge 9000 1300 5 = (9999, 1#8) ∧
      effectiveCharge 1 300 (-3) = (1, 2#8) ∧ effectiveCharge 9999 4095 99 = (9999, 1#8) ∧
      effectiveCharge 200 256 (-99) = (1, 2#8) := by decide
/-- The lookups of chapter 4.8: slot 35 is DAY, slot 36 EVENING. -/
theorem test_units_of_the_day :
    ratedUnit zone3 (monday 17 59 30) = (⟨.day, 25, 600⟩, 0#8) ∧
      ratedUnit zone3 (monday 18 0 30) = (⟨.evening, 22, 900⟩, 0#8) := by decide
/-- The deposit of chapter 4.8. -/
theorem test_deposit : requiredDeposit zone3 25 = 60 := by decide
/-- The example of chapter 12.1. -/
theorem test_time_words : timeWords ⟨3, 14, 18, 2, 7, true⟩ = [0x3749#16, 0x0087#16] := by decide
/-- The example of chapter 11.1, in its last two words. -/
theorem test_setup_sum :
    sumWords [0x3A7C#16, 0xC584#16] = 0#16 ∧ sumWords [0x3A9A#16, 0xC566#16] = 0#16 ∧
      sumWords [0x3A9A#16, 0xC584#16] = 30#16 := by decide
/-- The entries 0, 12, 20 of chapter 2.10 at the digits 0800: index 12 wins. -/
theorem test_longest_prefix :
    winningEntry (List.replicate 48 0#16 ++ [0x0A14#16, 0x000A#16, 0x0080#16, 0#16] ++
      List.replicate 28 0#16 ++ [0x0A44#16, 0x000A#16, 0x0080#16, 0#16]) [0, 8, 0, 0] = some 12 := by decide
/-- The example of chapter 7.7. -/
theorem test_report_message :
    reportMessage [4, 0, 1, 7, 2, 3, 0, 5]
      { alarmsAtStart with
        returnBlocked := ⟨.reporting, 2, 2, none, none⟩, shock := ⟨.reporting, 1, 1, none, none⟩
        queue := [.returnBlocked, .shock] } 12345 =
      [10, 4, 0, 1, 7, 2, 3, 0, 5, 12, 0, 6, 0, 2, 0, 5, 0, 1, 12, 0, 1, 2, 3, 4, 5, 1, 15] := by decide
/-- The acknowledgement of chapter 6.7: SHOCK has one left, DOOR_FORCED is reported. -/
theorem test_acknowledgement :
    let a : AlarmState := { alarmsAtStart with
      shock := ⟨.reporting, 2, 1, none, none⟩, doorForced := ⟨.reporting, 1, 1, none, none⟩
      queue := [.shock, .doorForced] }
    a.acknowledge.queue = [.shock] ∧ a.acknowledge.shock = ⟨.raised, 1, 0, none, none⟩ ∧
      a.acknowledge.doorForced = ⟨.reported, 0, 0, none, none⟩ := by decide
/-- The indices of chapter 5.7. -/
theorem test_consumer_index :
    RecordState.takes { recordsAtStart 0 with producer := 4, consumer := 5, writeIndex := 4 } 7 = true ∧
      RecordState.takes { recordsAtStart 0 with producer := 5, consumer := 7, writeIndex := 5 } 6 = false ∧
      RecordState.takes { recordsAtStart 0 with producer := 5, consumer := 7, writeIndex := 5 } 5 = true := by
  decide
/-- A pulse digit 0 has ten breaks (chapter 2.10). -/
theorem test_pulse_breaks : [0, 2, 0, 7].map pulseBreaks = [10, 2, 10, 7] := by decide
/-- February has 28 days for the clock, and the 29th goes to 1 March (R67). -/
theorem test_end_of_february :
    Clock.nextSecond ⟨2, 28, 3, 23, 59, 59, true, 0⟩ = ⟨3, 1, 4, 0, 0, 0, true, 0⟩ ∧
      Clock.nextSecond ⟨2, 29, 7, 23, 59, 59, true, 0⟩ = ⟨3, 1, 1, 0, 0, 0, true, 0⟩ := by decide
/-- The credit display at 1234 and above 9999 mu (R88). -/
theorem test_credit_display :
    State.liveWord { live with coin := { coinAtStart with banked := 1234 } } 11 = 0x1234#16 ∧
      State.liveWord { live with coin := { coinAtStart with banked := 10000 } } 11 = 0x9999#16 := by decide

/-! ### Steps with the values of the spec's examples -/

/-- The refund of chapter 1.6: 70 refunded, 30 unconfirmed. -/
theorem test_stuffed_chute :
    after (exec .settleWindowEnd { live with
        coin := { coinAtStart with
          escrow := [⟨3, 50⟩, ⟨2, 20⟩, ⟨2, 20⟩, ⟨1, 10⟩], op := .refunding, opItems := 4, chuteCount := 2
          settleTimer := some 1400 } })
      (fun t => (t.cash.totals.refunded, t.cash.totals.unconfirmed, t.coin.escrow, t.coin.op,
        t.alarms.queue)) = some (70, 30, [], .idle, [.returnBlocked]) := by decide
/-- The late coin of chapter 1.5 rests on the gate. -/
theorem test_late_coin :
    after (exec (.validatorStrobe 2) { live with
        coin := { coinAtStart with escrow := [⟨4, 100⟩, ⟨3, 50⟩], op := .collecting, opItems := 2 } })
      (fun t => (t.coin.escrow, t.coin.gate, t.cash.totals.accepted)) =
      some ([⟨4, 100⟩, ⟨3, 50⟩], some ⟨2, 20⟩, 20) := by decide
/-- Unit 1 of chapter 4.8 ends at 17:59:30: 25 paid at once, 10 left, unit 2 for 60 s. -/
theorem test_second_unit :
    after (exec .unitTimerExpiry connected)
      (fun t => (t.coin.banked, t.cash.totals.revenue, t.rating.context.map fun c =>
        (c.units, c.total, c.unitTimer))) = some (10, 25, some (2, 60, .running 120000)) := by decide
/-- With 10 banked at 18:00:30 the EVENING unit of 22 brings grace (chapter 4.8). -/
theorem test_grace :
    after (exec .unitTimerExpiry { connected with
        clock := monday 18 0 30, coin := { coinAtStart with banked := 10 } })
      (fun t => (t.coin.banked, t.rating.context.map fun c => (c.payment, c.charge.map Charge.amount,
        c.graceTimer))) = some (10, some (.grace, some 22, some 75000)) := by decide
/-- The shock window of chapter 6.7: 8 s back is kept, and the third edge raises SHOCK. -/
theorem test_shock_window :
    after (exec (.tamperEdge .shock) { live with
        now := 11000, pins := { pinsAtRest with tamper := ⟨false, false, true, false, true, false⟩ }
        tamper := { live.tamper with
          shock := ⟨⟨some false, some 11000⟩, false⟩, shockWindow := [3000, 7000] } })
      (fun t => (t.tamper.shockWindow, t.alarms.queue)) = some ([], [.shock]) := by decide
/-- The fetch-add of chapter 9.6: tally 10 holds 13, word offset 80 returns it and leaves 5. -/
theorem test_alias_read :
    after (exec (.aliasRead 80 .word) { live with mem := writeWord [] 0x7F214 13#16 })
      (fun t => (t.path.readData, readWord t.mem 0x7F214)) = some (13#16, 5#16) := by decide
/-- The command of chapter 10.6: SET_CLOCK for 18 March, a Wednesday, 09:05:00. -/
theorem test_set_clock :
    after (exec (.setClock 0x0312#16 3#16 9#16 5#16 0#16) live)
      (fun t => (t.clock, t.mailbox.command.map fun c => (c.code, c.result, c.step))) =
      some (⟨3, 18, 3, 9, 5, 0, true, 1000⟩, some (2#16, 1#16, .respond 0)) := by decide
/-- A post while a command is in hand is dropped with MAILBOX_REFUSED (chapter 10.6). -/
theorem test_refused_post :
    after (exec (.unknownCommand 9#16) { live with
        mailbox := ⟨some ⟨2#16, 0x7F180, [], .readArguments, 0#16, []⟩⟩ })
      (fun t => (t.status.flags, t.mem)) = some (EventFlag.mailboxRefused.only, []) := by decide
/-- A response taken as its own result word is due next: that write goes first, and the read returns the new result
and clears the flag (R162, R170). -/
theorem test_response_after_its_write :
    after (exec (.takeResponse .word) { live with
        path := ⟨[.mailbox], true, [], [], 0#16, 0⟩, status := ⟨EventFlag.mailboxDone.only, 0#16⟩
        mailbox := ⟨some ⟨2#16, 0x7F180, [], .respond 7, 4#16, [0#16]⟩⟩ })
      (fun t => (t.status.flags, t.path.readData, t.mailbox.command, t.path.partOwed)) =
      some (0#16, 4#16, none, true) := by decide
/-- A plain read is held before the reads of a start have ended, and served in LIVE afterwards (R156, R164). -/
theorem test_plain_read :
    State.reset.hostRead 0x7F100 .word = none ∧
      (live.hostRead 0x7F116 .word).map (fun t => (t.path.readData, t.path.partOwed)) = some (0#16, false) := by
  decide
/-- A press over an empty escrow leaves an owed collection close (R17, R142). -/
theorem test_press_makes_no_close :
    after (exec .returnLeverPress { live with
        lever := ⟨some false, some 30⟩, pins := { live.pins with leverPressed := true }
        cash := { cashAtStart with closeOwed := true } }) (fun t => t.cash.closeOwed) = some true := by decide
/-- The second try of chapter 3.12: no tone in 3000 ms leaves GUARD with the owner kept. -/
theorem test_second_try :
    after (exec .dialToneTimeout { live with
        line := { live.line with
          phase := .seizing, owner := some .customer, attempt := some 1, dialToneTimer := some 3000 } })
      (fun t => (t.line.phase, t.line.owner, t.line.attempt, t.line.guardTimer)) =
      some (.guarded, some .customer, some 2, some 3800) := by decide
/-- A write in CASH is protected (R155). -/
theorem test_cash_is_protected :
    after (exec (.hostWrite 0x7F010 .word 1#16) live) (fun t => (t.mem, t.alarms.queue)) =
      some ([], [.memoryWrite]) := by decide
/-- The reset line keeps the clock, a power fail does not (R68). -/
theorem test_supply :
    after (exec .resetLineAssert connected) (fun t => t.clock) = some (monday 17 59 30) ∧
      after (exec .powerFail connected) (fun t => t.clock.isSet) = some false := by decide

/-! ### Witnesses: states and operands that meet the hypotheses of each statement, clause by clause -/

/-- Two alarm kinds in a table just fixed. -/
def twoKinds : AlarmState :=
  { alarmsAtStart with
    shock := ⟨.reporting, 99, 99, none, none⟩, returnBlocked := ⟨.reporting, 2, 1, none, none⟩
    queue := [.shock, .returnBlocked] }

theorem twoKinds_lawful : twoKinds.lawful := by
  refine ⟨fun k => ?_, by decide, fun k => ?_⟩
  · cases k <;> simp [twoKinds, AlarmState.get, AlarmEntry.lawful, alarmsAtStart, quietEntry]
  · cases k <;> simp [twoKinds, AlarmState.get, alarmsAtStart, quietEntry]

/-- A part with the reset line asserted. -/
def heldPart : State := { live with power := ⟨true, true, .ended, .powerOn⟩ }

/-- The line with the report call in hand. -/
def reporting : State :=
  { live with
    line := { live.line with
      phase := .awaitAnswer, owner := some .report, attempt := some 1, toneFrom := some 100 }
    report := { reportAtStart with phase := .awaitGo, goTimer := some 30000 } }

/-- A record of a paid call. -/
def sample : CallRecord :=
  ⟨.paid, .localClear, some 3, some [1, 2], some ⟨1, 1, 0, 0, 0, false⟩, none, ⟨1, 1, 0, 1, 0, false⟩, some 2, 44, some 3,
    0#8, 1, none⟩

/-- A command at the front of the queue, and an empty queue with port work that has no word. -/
theorem witness_queue :
    ({ live with pending := [.rejectPulse, .pipDue] } : State).pending = .rejectPulse :: [.pipDue] ∧
      live.pending = [] ∧ Instr.commandClass .restoreReadEnd = .portWork ∧ live.path.partQueue = [] ∧
      live.path.busWait = [] := by decide
/-- Well-formed queues, and the addresses on either side of each stop. -/
theorem witness_wellFormed :
    Instr.wellFormed (.hostWrite 0xFFFFE .word 0#16) = true ∧ 0x100000 ≤ 0x100000 ∧
      0xFFFFF < 0x100000 ∧ 0xFFFFF % 2 = 1 := by decide
theorem witness_queueWellFormed :
    ({ live with pending := [.hostWrite 0xFFFFE .word 0#16] } : State).queueWellFormed := by
  intro c hc
  simp only [List.mem_singleton] at hc
  subst hc; decide
/-- A held part and a part in the reads of a start, with a command of each class. -/
theorem witness_held :
    heldPart.isHeld = true ∧ State.reset.restored = false ∧ State.reset.isHeld = false ∧
      Instr.commandClass .rejectPulse = .event ∧ Instr.commandClass .partWordTurn = .portWork ∧
      Instr.commandClass (.hookRawChange true) = .inputChange ∧
      Instr.commandClass .endCall = .hostAccess := by decide
/-- An event and a change of an input that go on. -/
theorem witness_event :
    (Instr.commandClass .rejectPulse = .event ∧ ∃ t, exec .rejectPulse live = .next t) ∧
      Instr.commandClass (.hookRawChange false) = .inputChange ∧ ∃ t, exec (.hookRawChange false) live = .next t :=
  ⟨⟨rfl, _, rfl⟩, rfl, _, rfl⟩
/-- Supply on and off, the reset line asserted and released. -/
theorem witness_supply :
    live.power.resetAsserted = false ∧ heldPart.power.resetAsserted = true ∧ live.power.supplyOn = true ∧
      ({ live with power := ⟨false, false, .setupLoad, .powerOn⟩ } : State).power.supplyOn = false := by
  decide
/-- States other than reset that meet the invariants, and a step from each. -/
theorem witness_memory : Memory.wf (writeWord [] 0x7F214 13#16) = true := by decide
theorem witness_alarms : ({ live with alarms := twoKinds } : State).alarms.lawful := twoKinds_lawful
theorem witness_credit :
    ({ live with coin := { coinAtStart with escrow := [⟨5, 200⟩], banked := 64799 } } : State).creditLawful := by
  refine ⟨by decide, by decide⟩
theorem witness_balances :
    let s : State := { live with
      coin := { coinAtStart with escrow := [⟨3, 50⟩], banked := 40 }
      cash := { cashAtStart with totals := ⟨220, 140, 0, 20, 10, 70, 30⟩ } }
    s.moneyBalances ∧ s.startReadsOver ∧
      ∀ code, s.cash.totals.accepted + classValue s.setup.settings.classValues code < 2 ^ 32 := by
  refine ⟨⟨rfl, rfl⟩, ⟨rfl, rfl, ?_⟩, fun code => ?_⟩
  · intro l h; exact absurd h (by simp [live])
  · simp only [classValue]
    split
    · rename_i h
      have h8 : code - 1 < 8 := by
        simp only [isClass, Bool.and_eq_true, decide_eq_true_eq] at h
        omega
      have key : ∀ k, k < 8 → 220 + (builtInSettings.classValues).getD k 0 < 2 ^ 32 := by decide
      exact key _ h8
    · decide
theorem witness_queues :
    ({ live with
      path := { live.path with partQueue := [.tallyLogic, .mailbox], tallies := [⟨.rejects, 65535⟩] }
      number := { numberAtStart with fifo := List.replicate 32 11 } } : State).queuesLawful := by
  refine ⟨by decide, by decide, by decide, by decide⟩
theorem witness_settings : live.setup.settings.inRange := by
  refine ⟨by decide, rfl, by decide, ?_⟩
  simp only [within]
  decide
/-- Each of those states steps on, and so does one with a command in its queue. -/
theorem witness_step :
    (∀ s : State, s.pending = [] → ∃ t, step s = .next t) ∧
      ∃ t, step { live with pending := [.rejectPulse] } = .next t :=
  ⟨fun s h => ⟨s.updNow fun n => n + 1, by simp only [step, h]⟩, ⟨_, rfl⟩⟩
/-- Total credit on both sides of 9999 mu and an address of the LIVE area. -/
theorem witness_credit_display :
    live.coin.totalCredit ≤ 9999 ∧
      9999 < ({ live with coin := { coinAtStart with banked := 10000 } } : State).coin.totalCredit ∧
      live.holdsHost = false ∧ live.setup.settings.bases.areaAt 0x7F100 = some .live ∧
      live.setup.settings.bases.offset .live 0x7F100 = 0 := by decide
/-- A winning entry, and none; prefix lengths on either side of 8, number lengths 0 and 31. -/
theorem witness_prefix :
    winningEntry [0x0011#16, 0x0001#16, 0#16, 0#16] [0] = some 0 ∧ winningEntry [] [0] = none ∧
      (prefixEntry [0x0038#16, 0x1F00#16, 0#16, 0#16] 0).length = 8 ∧
      (prefixEntry [0x0039#16, 0x1F1F#16, 0#16, 0#16] 0).length = 0 ∧
      (prefixEntry [0x0038#16, 0x1F00#16, 0#16, 0#16] 0).minLength = 1 ∧
      (prefixEntry [0x0039#16, 0x1F1F#16, 0#16, 0#16] 0).maxLength = 20 := by decide
/-- A clock set and unset, a band byte at each bound, a deposit in range, and each clause of the clamp at its bound. -/
theorem witness_effective :
    9999 < (((9999 * 1024 + 512) / 1024 : Nat) : Int) + 1 ∧ (((1 * 256 + 512) / 1024 : Nat) : Int) + 0 < 1 ∧
      1 ≤ (((1 * 512 + 512) / 1024 : Nat) : Int) + 0 ∧
      (((9999 * 1024 + 512) / 1024 : Nat) : Int) + 0 ≤ 9999 ∧
      (monday 0 0 0).isSet = true ∧ live.clock.isSet = false ∧ zone3.setupCharge ≤ 9999 ∧
      (1 ≤ zone3.depositUnits ∧ zone3.depositUnits ≤ 4) ∧
      (ratedUnit { zone3 with bandMap := [0x0400#16] } (monday 0 0 0)).1.band = .peak ∧
      (ratedUnit { zone3 with bandMap := [0x0400#16] } (monday 0 30 0)).2 = RatingFlag.fallbackRate.only := by decide
/-- The last second of 29 February, in range; the seconds on either side of midnight. -/
theorem witness_clock :
    let c : Clock := ⟨2, 29, 7, 23, 59, 59, true, 0⟩
    (1 ≤ c.month ∧ c.month ≤ 12) ∧ (1 ≤ c.day ∧ c.day ≤ 29) ∧ (1 ≤ c.weekday ∧ c.weekday ≤ 7) ∧
      (c.hour * 60 + c.minute) * 60 + c.second = 86399 ∧ monthLength c.month ≤ c.day ∧
      (23 * 60 + 59) * 60 + 58 < 86399 ∧ 27 < monthLength 2 := by decide
/-- A record is held. -/
theorem witness_held_record :
    ({ live with records := { recordsAtStart 0x78000 with held := some sample } } : State).records.held =
      some sample ∧ sample.seizeTime = some ⟨1, 1, 0, 0, 0, false⟩ := ⟨rfl, rfl⟩
/-- Every phase that an occurrence meets, a lawful table with REPORTING kinds, and a table just fixed. -/
theorem witness_alarm_table :
    (alarmsAtStart.get .shock).phase = .quiet ∧ (twoKinds.get .shock).phase = .reporting ∧
      (∀ k ∈ twoKinds.queue, (twoKinds.get k).carried ≤ 99) ∧
      builtInSettings.phoneIdentity.length = 8 := by decide
/-- A cash image within the widths of its words, with an even sequence. -/
theorem witness_write_back :
    live.cash.sequence.toNat % 2 = 0 ∧ live.cash.totals.accepted < 2 ^ 32 ∧
      live.cash.acceptedCounts.length = 8 ∧ live.cash.vaultCounts.length = 8 ∧ live.cash.vaultCoins < 65536 ∧
      live.coin.banked < 2 ^ 32 ∧ live.coin.escrow.length ≤ 8 := by decide
theorem witness_setup_words : (List.replicate 255 0#16).length = 255 := List.length_replicate
/-- A reject pulse below and at the threshold, and strobes that cannot be taken. -/
theorem witness_reject :
    live.isHeld = false ∧ live.coin.slug + 1 < live.setup.settings.slugThreshold ∧
      ({ live with coin := { coinAtStart with slug := 9 } } : State).setup.settings.slugThreshold ≤ 9 + 1 ∧
      State.reset.restored = false ∧
      64999 < ({ live with coin := { coinAtStart with banked := 64990 } } : State).coin.totalCredit +
        classValue live.setup.settings.classValues 1 := by decide
/-- A class at each end of its range, with credit and room for it, at rest and in flight. -/
theorem witness_coin :
    live.restored = true ∧ (1 ≤ 8 ∧ 8 ≤ 8) ∧ live.coin.inFlight = false ∧ live.coin.escrow.length < 8 ∧
      live.coin.totalCredit + classValue live.setup.settings.classValues 1 ≤ 64999 ∧
      ({ live with coin := { coinAtStart with op := .refunding } } : State).coin.inFlight = true := by decide
/-- The flap input at both levels, and operations with their timers running; an escrow left empty by the operation, and
one that the gate coin enters, with each pending request. -/
theorem witness_escrow :
    live.pins.flapHome = true ∧ ({ live with pins := { live.pins with flapHome := false } } : State).isHeld = false ∧
      (let s : State := { live with coin := { coinAtStart with
        escrow := [⟨1, 10⟩], op := .collecting, opItems := 1, settleTimer := some 500, flapTimer := some 1500 } }
      s.isHeld = false ∧ s.coin.settleTimer = some 500 ∧ s.coin.flapTimer = some 1500 ∧
        s.coin.op = .collecting ∧ s.cash.closeOwed = false ∧ s.rating.context = none ∧
        s.hook.phase ≠ .cleared ∧ s.setup.settings.vaultCapacity ≤ 1499 + 1 ∧
        1399 < s.setup.settings.vaultCapacity - s.setup.settings.vaultFillMargin ∧
        s.setup.settings.vaultCapacity - s.setup.settings.vaultFillMargin ≤ 1399 + 1 ∧
        s.coin.gate.toList ++ s.coin.escrow.drop s.coin.opItems = [] ∧
        ({ s.coin with gate := some ⟨2, 20⟩ } : CoinState).gate.toList ++ s.coin.escrow.drop s.coin.opItems ≠ [] ∧
        s.coin.request = .none ∧ ({ s.coin with request := .collect } : CoinState).request = .collect ∧
        ({ s.coin with request := .refund } : CoinState).request = .refund ∧
        ¬ (s.hook.phase = .cleared ∨ s.tamper.sessionOpen = true)) ∧
      (let s : State := { live with coin := { coinAtStart with
        escrow := [⟨1, 10⟩], op := .refunding, opItems := 1, settleTimer := some 1000, flapTimer := some 1500 } }
      s.coin.op = .refunding ∧ s.coin.settleTimer = some 1000 ∧ min s.coin.chuteCount 1 < 1) := by decide
/-- The lever pressed, released and at its first level; a refused press, a refund, and a press over an empty escrow. -/
theorem witness_lever :
    (let s : State := { live with lever := ⟨some false, some 30⟩, pins := { live.pins with leverPressed := true } }
    s.lever = ⟨some false, some 30⟩ ∧ s.pins.leverPressed = true ∧ s.coin.inFlight = false ∧
      s.line.owner ≠ some .customer ∧ s.coin.escrow = []) ∧
      ({ live with coin := { coinAtStart with escrow := [⟨1, 10⟩] } } : State).coin.escrow ≠ [] ∧
      connected.line.owner = some .customer ∧
      ({ live with lever := ⟨none, some 30⟩ } : State).lever = ⟨none, some 30⟩ ∧
      ({ live with lever := ⟨some true, some 30⟩ } : State).lever = ⟨some true, some 30⟩ := by decide
/-- A host access taken while a part turn is owed, and one that owes none. -/
theorem witness_owed_turn :
    let s : State := { live with path := ⟨[.tallyLogic], true, [⟨.rejects, 1⟩], [], 0#16, 0⟩ }
    s.holdsHost = false ∧ s.owesTurn = true ∧ live.owesTurn = false ∧
      readWord (s.atHostTurn s).mem (s.tallyAddr TallyName.rejects.index) = 1#16 ∧
      Memory.wf (s.atHostTurn s).mem = true ∧ (s.atHostTurn s).path.partOwed = false := by decide
/-- A posting that starts a number, one that is dropped (code 12), a later digit with and without a match in flight, and
an in-call symbol behind an item in progress and to a free emitter; FIFO levels at and above a threshold, and a
threshold of 0. -/
theorem witness_post :
    live.holdsHost = false ∧ live.number.phase = .empty ∧ live.number.fifo = [] ∧
      live.number.matchInFlight = false ∧ live.hook.phase ≠ .cleared ∧ ¬ 12 ≤ (11 : Nat) % 256 ∧
      12 ≤ (12 : Nat) % 256 ∧ 0x7F180 + 2 * 14 + 1 < Config.flashBase ∧
      Memory.wf (live.atHostTurn (live.specialAction .dialPost 5#16)).mem = true ∧
      (let s : State := { live with number := { numberAtStart with phase := .collecting, digits := [0], fifo := [0] } }
      s.hook.phase ≠ .cleared ∧ s.number.phase = .collecting ∧ s.number.decided = false ∧
        ¬ 20 ≤ s.number.digits.length + s.number.untaken ∧
        ¬ (s.emitter.item = none ∧ s.line.owner = some .customer) ∧ s.number.matchInFlight = false ∧
        (s.number.fifo ++ [5])[s.number.digits.length]? = some 5 ∧
        ({ s.number with reads := [⟨.prefixMatch [0], [], false⟩] } : NumberState).matchInFlight = true) ∧
      connected.hook.phase ≠ .cleared ∧ connected.setup.settings.dialMode ≠ .pulse ∧
      connected.number.inCall = true ∧ connected.number.phase = .dialled ∧ connected.number.fifo = [] ∧
      connected.line.owner = some .customer ∧ connected.line.phase = .connected ∧
      connected.emitter.item = none ∧ connected.emitter.pipsDue = 0 ∧
      ({ connected.emitter with item := some .pip } : EmitterState).item ≠ none ∧ live.line.owner = none ∧
      ({ builtInSettings with dialLowThreshold := 4 } : Settings).dialLowThreshold = 4 ∧
      ({ numberAtStart with fifo := [1, 2, 3, 4, 5], lowArmed := true } : NumberState).lowArmed = true ∧
      [1, 2, 3, 4].length ≤ 4 ∧ 4 < [1, 2, 3, 4, 5].length ∧
      ({ builtInSettings with dialLowThreshold := 0 } : Settings).dialLowThreshold = 0 := by decide
set_option maxRecDepth 8000 in
/-- Runs of the analyser and of the rating engine one word before their end; a number of 20 digits that no entry of an
empty table matches. -/
theorem witness_reads :
    (let s : State := { live with
      path := { live.path with partQueue := [.numberAnalyser] }
      number := { numberAtStart with
        phase := .collecting, digits := [0], fifo := [0]
        reads := [⟨.prefixMatch [0], List.replicate 255 0#16, false⟩] } }
    s.isHeld = false ∧ s.path.busWait = [] ∧ s.path.partQueue = .numberAnalyser :: [] ∧
      s.number.reads = ⟨.prefixMatch [0], List.replicate 255 0#16, false⟩ :: []) ∧
      20 ≤ (List.replicate 20 0).length ∧
      winningEntry (List.replicate 255 0#16 ++ [0#16]) (List.replicate 20 0) = none ∧
      (let s : State := { live with
        path := { live.path with partQueue := [.numberAnalyser] }
        number := { numberAtStart with
          phase := .collecting, digits := [0], decided := true
          reads := [⟨.zoneEntry 3, 1#16 :: List.replicate 14 0#16, false⟩] } }
      s.path.partQueue = .numberAnalyser :: [] ∧
        s.number.reads = ⟨.zoneEntry 3, 1#16 :: List.replicate 14 0#16, false⟩ :: [] ∧
        s.coin.reasons.unavailable = false) ∧
      (let s : State := { live with
        path := { live.path with partQueue := [.ratingEngine] }
        rating := ⟨some freshContext, [⟨[1#16], List.replicate 87 0#16, false⟩]⟩ }
      s.path.partQueue = .ratingEngine :: [] ∧ s.rating.context = some freshContext ∧
        s.rating.reads = ⟨[1#16], List.replicate 87 0#16, false⟩ :: []) := by decide
/-- The timers of the number: kept, complete, incomplete, and the deposit wait. -/
theorem witness_number_timers :
    let n : NumberState := { numberAtStart with
      phase := .collecting, digits := [0], fifo := [0], minLength := some 1, interDigitTimer := some 5000
      depositTimer := some 60000 }
    n.interDigitTimer = some 5000 ∧ n.depositTimer = some 60000 ∧ n.matchInFlight = false ∧
      n.fifo.length ≤ n.digits.length ∧ n.minLength.getD 1 ≤ n.digits.length ∧
      n.digits.length < (some 2).getD 1 ∧
      ({ n with reads := [⟨.prefixMatch [0], [], false⟩] } : NumberState).matchInFlight = true ∧
      ({ n with lowArmed := true } : NumberState).lowArmed = true ∧ n.fifo ≠ [] := by decide
/-- Items of the emitter with their pacing timer, and pips with and without an item before them. -/
theorem witness_items :
    let items : List EmitterItem := [.toneOn 0 .numberSymbol, .toneOff 0 .numberSymbol,
      .pulseBreak 1 0 .reportDigit, .pulseMake 1 0 .reportDigit, .pulsePause 1 .reportDigit, .pip]
    (∀ i ∈ items, (⟨some i, some 80, 0, some 2000⟩ : EmitterState).item = some i) ∧
      connected.emitter.item = none ∧ connected.line.owner = some .customer ∧
      connected.line.phase = .connected ∧ connected.number.phase = .dialled := by decide
/-- The ends of symbols: the last of a number, of the report digits and of the message. -/
theorem witness_symbols :
    (let s : State := { live with
      emitter := ⟨some (.toneOff 8 .numberSymbol), some 80, 0, none⟩
      number := { numberAtStart with phase := .dialling, digits := [0, 8], emitted := 1 } }
    s.emitter.timer = some 80 ∧ s.number.digits.length ≤ s.number.emitted + 1 ∧ s.pins.reversed = false) ∧
      live.setup.settings.reportNumber.length ≤ 1 ∧ reporting.report.message.length ≤ 0 := by decide
/-- Inputs at each level, before and after the reads of a start. -/
theorem witness_inputs :
    live.restored = true ∧ State.reset.restored = false ∧ live.pins.tamper.get .vault = true ∧
      live.pins.tamper.get .door ≠ true ∧ (live.tamper.get .vault).debounce.level = some true ∧
      (State.reset.tamper.get .door).debounce = ⟨none, none⟩ ∧ live.tamper.firstSet = true ∧
      (let s : State := { State.reset with
        power := ⟨true, false, .inputWait, .powerOn⟩
        tamper := { tamperAtStart with door := ⟨⟨none, some 20⟩, false⟩ } }
      s.isHeld = false ∧ s.pins.tamper.get .door ≠ true ∧ s.restored = true ∧ s.tamper.firstSet = false ∧
        (s.tamper.get .door).debounce = ⟨none, some 20⟩) ∧
      ({ builtInSettings with tamperDebounce := 0 } : Settings).tamperDebounce = 0 := by decide
/-- The guard with a kept owner, with no request, with each request and with both; the grant order at 30 minutes, and
with a kind of class URGENT in the queue; a number of each kind that may be granted. -/
theorem witness_guard :
    let s : State := { live with line := { lineAtStart 0 pinsAtRest with guardTimer := some 800 } }
    s.line.guardTimer = some 800 ∧ s.line.owner = none ∧ s.line.customerRequest = none ∧
      ({ s.line with reportRequest := some 0 } : LineState).reportRequest = some 0 ∧
      ({ s.line with customerRequest := some .emergency } : LineState).customerRequest = some .emergency ∧
      ({ s.line with owner := some .customer } : LineState).owner ≠ none ∧ 1800000 ≤ 1800000 - 0 ∧
      (let l : LineState := { s.line with customerRequest := some .paidFree, reportRequest := some 0 }
      l.customerRequest = some .paidFree ∧ l.reportRequest = some 0 ∧
        (max s.now 800) - l.reportRequest.getD 0 < 1800000) ∧
      (∃ k ∈ twoKinds.queue, k.isIn ({ builtInSettings with urgentKinds := 0xFFF#12 } : Settings).urgentKinds = true) ∧
      ¬ (∃ k ∈ s.alarms.queue, k.isIn s.setup.settings.urgentKinds = true) ∧
      ∀ k ∈ [ZoneKind.paid, .free, .emergency], ({ numberAtStart with kind := some k } : NumberState).kind = some k := by
  decide
/-- Dial tone found and not found, for each owner, on the first try and the second, with a first symbol for an idle
emitter under each dial mode. -/
theorem witness_dial_tone :
    let s : State := { live with line := { live.line with
      phase := .seizing, owner := some .customer, attempt := some 1, dialToneTimer := some 3000
      toneFrom := some 100 } }
    s.line.phase = .seizing ∧ s.line.toneFrom = some 100 ∧ s.line.dialToneTimer = some 3000 ∧
      s.line.attempt = some 1 ∧ ({ s.line with attempt := some 2 } : LineState).attempt ≠ some 1 ∧
      ({ s.line with owner := some .report } : LineState).owner = some .report ∧ s.emitter.item = none ∧
      s.emitter.pipsDue = 0 ∧ s.setup.settings.dialMode = .tone ∧
      ({ builtInSettings with dialMode := .pulse } : Settings).dialMode = .pulse ∧
      ({ numberAtStart with fifo := [0], digits := [0] } : NumberState).fifo = 0 :: [] ∧
      numberAtStart.emitted < [0].length ∧
      ({ builtInSettings with reportNumber := [0, 8] } : Settings).reportNumber = 0 :: [8] := by decide
/-- A customer call that awaits its answer under each answer source: a charge covered, one that the escrow can pay and
one that it cannot, a call with no snapshot, a setup charge of 0, and the open-call mirror. -/
theorem witness_answer :
    let s : State := { connected with
      line := { connected.line with
        phase := .awaitAnswer, timedAnswerTimer := some 15000, answerWaitTimer := some 180000 } }
    s.isHeld = false ∧ s.line.owner = some .customer ∧ s.line.phase = .awaitAnswer ∧
      s.number.phase ≠ .waitDeposit ∧ s.number.phase ≠ .waitLine ∧ s.line.timedAnswerTimer = some 15000 ∧
      s.line.answerWaitTimer = some 180000 ∧ s.setup.settings.answerSource = .reversal ∧
      ({ s.pins with reversed := true } : Pins).reversed = true ∧
      s.setup.settings.ratingSource = .internal ∧
      ({ builtInSettings with answerSource := .metering } : Settings).answerSource = .metering ∧
      (s.rating.context.map RatingContext.snapshot) = some (some zone3) ∧ freshContext.snapshot = none ∧
      zone3.setupCharge + (ratedUnit zone3 s.clock).1.charge = 35 ∧ 35 ≤ s.coin.banked ∧ coinAtStart.banked < 35 ∧
      ({ coinAtStart with escrow := [⟨1, 10⟩] } : CoinState).escrow ≠ [] ∧
      ({ coinAtStart with op := .refunding } : CoinState).inFlight = true ∧ s.coin.escrow = [] ∧
      s.coin.gate = none ∧ s.cash.closeOwed = false ∧
      ({ builtInSettings with ratingSource := .metering } : Settings).ratingSource = .metering ∧
      ({ zone3 with setupCharge := 0 } : Snapshot).setupCharge = 0 ∧ 0 < zone3.setupCharge ∧
      ({ cashAtStart with openCall := some ⟨.paid, none, none, 0, 0#8⟩ } : CashState).openCall =
        some ⟨.paid, none, none, 0, 0#8⟩ := by decide
/-- A call under METERING rating that awaits its answer: S and the first unit covered, S alone, and neither, with an
escrow that can pay and with none; and a call with no snapshot. -/
theorem witness_metering_answer :
    let s : State := { connected with
      line := { connected.line with phase := .awaitAnswer }
      setup := ⟨{ builtInSettings with answerSource := .metering, ratingSource := .metering }, .builtIn, none⟩ }
    s.isHeld = false ∧ s.line.owner = some .customer ∧ s.line.phase = .awaitAnswer ∧
      s.number.phase ≠ .waitDeposit ∧ s.number.phase ≠ .waitLine ∧ s.setup.settings.answerSource = .metering ∧
      s.setup.settings.ratingSource = .metering ∧
      (s.rating.context.map fun x => (x.snapshot, x.payment, x.charge.isNone)) = some (some zone3, .settled, true) ∧
      zone3.setupCharge + (ratedUnit zone3 s.clock).1.charge ≤ s.coin.banked ∧ zone3.setupCharge ≤ 34 ∧
      34 < zone3.setupCharge + (ratedUnit zone3 s.clock).1.charge ∧ 9 < zone3.setupCharge ∧
      ({ s.coin with escrow := [⟨1, 10⟩] } : CoinState).escrow ≠ [] ∧ s.coin.op ≠ .refunding ∧
      s.coin.request ≠ .refund ∧ s.coin.inFlight = false ∧ ¬ (s.coin.escrow ≠ [] ∨ s.coin.gate ≠ none) ∧
      (∀ x ∈ s.rating.context, x.units ≤ 65535 ∧ x.total ≤ 65535) ∧
      ({ s with rating := ⟨some freshContext, []⟩ } : State).rating.context = some freshContext ∧
      freshContext.snapshot = none := by decide
/-- A connected call with its clear timer running, or with the polarity back to NORMAL. -/
theorem witness_clear :
    let s : State := { connected with line := { connected.line with clearTimer := some 400 } }
    s.isHeld = false ∧ s.line.owner = some .customer ∧ s.line.phase = .connected ∧
      s.line.clearTimer = some 400 ∧ s.setup.settings.answerSource = .reversal ∧
      s.pins.reversed = false := by decide
/-- The hook: a debounce running at each level, a flash timer, and the first level. -/
theorem witness_hook :
    let s : State := { live with hook := ⟨⟨some true, some 30⟩, .onHook, some 530⟩ }
    s.isHeld = false ∧ s.hook.debounce.timer = some 30 ∧ s.pins.onHook = false ∧
      s.hook.debounce.level = some true ∧ s.hook.phase = .onHook ∧ s.hook.flashTimer = some 530 ∧
      (s.line.phase = .idle → s.line.owner = none) ∧ pinsAtRest.onHook = true ∧
      ({ s.hook with debounce := ⟨none, some 30⟩ } : HookState).debounce.level = none := by decide
/-- The line qualified LOST, with no owner, in a customer call and in a report attempt, and PRESENT again; LINE_LOST a
new kind, and one that stands already. -/
theorem witness_line_status :
    let timed := fun s : State => ({ s with line := { s.line with qualifyTimer := some 2000 } } : State)
    (∀ s ∈ [live, connected, reporting], (timed s).isHeld = false ∧ (timed s).line.qualifyTimer = some 2000 ∧
      (timed s).line.status = .present ∧ (timed s).coin.reasons.lineLost = false ∧
      ((timed s).alarms.get .lineLost).phase = .quiet ∧
      AlarmKind.lineLost.isIn (timed s).setup.settings.reportEnables = true) ∧
      (timed live).line.owner = none ∧
      ({ timed live with number := { numberAtStart with phase := .waitDeposit } } : State).number.phase = .waitDeposit ∧
      (timed connected).line.owner = some .customer ∧ (timed connected).line.phase = .connected ∧
      (timed reporting).line.owner = some .report ∧ (timed reporting).line.phase = .awaitAnswer ∧
      (timed reporting).report.attempts + 1 < 3 ∧
      (({ alarmsAtStart with lineLost := ⟨.raised, 1, 0, none, none⟩ } : AlarmState).get .lineLost).phase ≠ .quiet ∧
      ({ connected.line with phase := .guarded } : LineState).phase = .guarded ∧
      ({ (timed live).line with status := .lost } : LineState).status = .lost := by decide
/-- A unit of a connected call that is covered, that awaits a collect (from the escrow, with a jammed operation or one in
flight, or from the gate alone), and that brings grace (nothing to pay from, or a refund in flight or pending). -/
theorem witness_unit :
    connected.isHeld = false ∧ connected.cash.closeOwed = false ∧ connected.number.phase = .dialled ∧
      (connected.rating.context.map fun c => (c.unitTimer, c.charge, c.graceTimer)) =
        some (.running 60000, none, none) ∧
      (ratedUnit zone3 connected.clock).1.charge ≤ connected.coin.banked ∧
      ({ connected with coin := coinAtStart } : State).coin.banked < (ratedUnit zone3 connected.clock).1.charge ∧
      ({ coinAtStart with escrow := [⟨1, 10⟩] } : CoinState).escrow ≠ [] ∧ coinAtStart.op = .idle ∧
      coinAtStart.request = .none ∧ coinAtStart.gate = none ∧
      ({ coinAtStart with op := .jammed, escrow := [⟨1, 10⟩] } : CoinState).available = true ∧
      ({ coinAtStart with op := .jammed } : CoinState).inFlight = false ∧
      ({ coinAtStart with op := .collecting, gate := some ⟨1, 10⟩ } : CoinState).available = true ∧
      ({ coinAtStart with op := .collecting } : CoinState).inFlight = true ∧
      ({ coinAtStart with op := .refunding, escrow := [⟨1, 10⟩] } : CoinState).available = false ∧
      ({ coinAtStart with request := .refund, escrow := [⟨1, 10⟩] } : CoinState).available = false := by decide
/-- A call in grace with its timer running, with a collect due and without; a pulse in each payment state, and in a call
with no snapshot. -/
theorem witness_grace :
    let x : RatingContext := { freshContext with
      snapshot := some zone3, phase := .answered, payment := .grace, graceTimer := some 15000
      charge := some ⟨22, 1, .metering⟩ }
    let s : State := { connected with rating := ⟨some x, []⟩ }
    s.rating.context = some x ∧ x.graceTimer = some 15000 ∧ x.snapshot = some zone3 ∧ x.payment = .grace ∧
      ({ x with payment := .collectWait } : RatingContext).charge = some ⟨22, 1, .metering⟩ ∧
      2 ≤ (({ x with charge := some ⟨44, 2, .metering⟩ } : RatingContext).charge.map Charge.units).getD 0 ∧
      s.line.owner = some .customer ∧ s.line.phase = .connected ∧ s.coin.op ≠ .collecting ∧
      s.coin.request ≠ .collect ∧ ({ s.coin with op := .collecting } : CoinState).op = .collecting ∧
      ({ x with snapshot := none } : RatingContext).snapshot = none ∧
      ({ builtInSettings with ratingSource := .metering } : Settings).ratingSource = .metering := by decide
/-- A record whose 24 words are written, and consumer indices taken and refused. -/
theorem witness_ring :
    (let s : State := { live with
      path := { live.path with partQueue := [.recordWriter] }
      records := { recordsAtStart 0x78000 with jobs := [.slot 31 sample], written := 24 } }
    s.isHeld = false ∧ s.path.busWait = [] ∧ s.path.partQueue = .recordWriter :: [] ∧
      s.records.headerRead = none ∧ s.records.newBase = none ∧ s.records.written = 24 ∧
      s.records.jobs = .slot 31 sample :: [] ∧ 31 < 32 ∧ .recordWriter ∉ ([] : List Requester) ∧
      s.records.base + 1 < Config.flashBase ∧ Memory.wf s.mem = true) ∧
      live.holdsHost = false ∧ live.records.newBase = none ∧
      live.records.headerOwed = false ∧ (0 + 32 - 0) % 32 ≤ (0 + 32 - 0) % 32 ∧
      Memory.wf (live.atHostTurn (live.specialAction .consumerIndex 0#16)).mem = true ∧
      ({ recordsAtStart 0x78000 with held := some sample, consumer := 3 } : RecordState).consumer ≠ 4 ∧
      ¬ (1 + 32 - 0) % 32 ≤ (0 + 32 - 0) % 32 := by
  refine ⟨⟨rfl, rfl, rfl, rfl, rfl, rfl, rfl, by decide, by decide, by decide, by decide⟩, ?_⟩
  decide
/-- A debounce of each input ends with an edge, in a session and outside it; the cord timer runs; a shock window that a
third edge fills; a customer call in each seized state. -/
theorem witness_tamper :
    (∀ i ∈ tamperInputs,
      let raw := live.pins.tamper.get i
      let t := live.tamper.put i ⟨⟨some (!raw), some 20⟩, !(builtInSettings.activeLevels.get i == raw)⟩
      live.isHeld = false ∧ t.firstSet = true ∧ (t.get i).debounce = ⟨some (!raw), some 20⟩ ∧
        (builtInSettings.activeLevels.get i == raw) ≠ (t.get i).active) ∧
      live.tamper.sessionOpen = false ∧ ({ live.tamper with sessionOpen := true } : TamperState).sessionOpen = true ∧
      ({ live.tamper with cordTimer := some 1000 } : TamperState).cordTimer = some 1000 ∧
      ({ live.tamper with vaultOut := true } : TamperState).vaultOut = true ∧ live.coin.escrow = [] ∧
      live.coin.gate = none ∧ live.coin.inFlight = false ∧ live.coin.banked = 0 ∧
      2 ≤ ([5, 10].filter fun e : Nat => decide (20 < e + 10000)).length ∧
      connected.line.owner = some .customer ∧
      ∀ p ∈ [LinePhase.guarded, .seizing, .dialling, .awaitAnswer, .connected],
        ({ connected.line with phase := p } : LineState).phase ≠ .idle := by decide
/-- Every input with its first level held, the start in its last wait. -/
theorem witness_first_levels :
    let w : TamperSwitch := ⟨⟨none, some 20⟩, false⟩
    let s : State := { live with
      power := ⟨true, false, .inputWait, .powerOn⟩
      tamper := { tamperAtStart with door := w, housing := w, vault := w, cord := w, shock := w, key := w } }
    s.isHeld = false ∧ s.power.phase = .inputWait ∧ s.number.deposit = none ∧ s.line.owner ≠ some .customer ∧
      ∀ i, (s.tamper.get i).debounce.level = none ∧ ∃ m, (s.tamper.get i).debounce.timer = some m := by
  refine ⟨rfl, rfl, rfl, by decide, fun i => ?_⟩
  cases i <;> exact ⟨rfl, 20, rfl⟩
/-- Pauses of the report caller, with something to report and with nothing, on an idle and a busy line. -/
theorem witness_pauses :
    (let r : ReportState := { reportAtStart with
      phase := .retryWait, retryTimer := some 120000, runTime := some 0, attempts := 1, statusMark := true }
    r.retryTimer = some 120000 ∧ r.holdTimer = none ∧ r.runTime = some 0 ∧ r.statusMark = true) ∧
      (let r : ReportState := { reportAtStart with phase := .held, holdTimer := some 3600000 }
      r.holdTimer = some 3600000 ∧ r.retryTimer = none ∧ ¬ (live.alarms.queue ≠ [] ∨ r.statusMark = true)) ∧
      live.line.phase = .idle ∧ live.line.customerRequest = none ∧ connected.line.phase ≠ .idle := by decide
/-- A report call that awaits the go tone, and one that awaits its acknowledgement. -/
theorem witness_report_call :
    reporting.isHeld = false ∧ reporting.report.phase = .awaitGo ∧ reporting.line.toneFrom = some 100 ∧
      reporting.line.owner = some .report ∧ reporting.line.phase = .awaitAnswer ∧
      reporting.report.goTimer = some 30000 ∧ reporting.emitter.item = none ∧
      (let r : ReportState := { reportAtStart with phase := .awaitAck, ackTimer := some 5000, attempts := 2 }
      r.phase = .awaitAck ∧ r.ackTimer = some 5000 ∧ 3 ≤ r.attempts + 1) ∧
      reporting.report.attempts + 1 < 3 := by decide
set_option maxRecDepth 8000 in
/-- A report call in hand, as the zone entry of an EMERGENCY number and of a FREE one ends its read, and as a service
restart comes over a quiet port. -/
theorem witness_abandoned_report :
    let entry := fun kind : Word => (⟨.zoneEntry 3, kind :: List.replicate 14 0#16, false⟩ : AnalyserRead)
    let s : State := { reporting with
      path := { reporting.path with partQueue := [.numberAnalyser] }
      number := { numberAtStart with phase := .collecting, digits := [9, 9], decided := true, reads := [entry 3#16] }
      report := { reporting.report with runTime := some 100 } }
    s.isHeld = false ∧ s.line.owner = some .report ∧ s.line.phase ≠ .idle ∧ s.report.runTime = some 100 ∧
      s.path.busWait = [] ∧ s.path.partQueue = .numberAnalyser :: [] ∧ s.number.reads = entry 3#16 :: [] ∧
      (∀ d ∈ s.number.digits, d < 10) ∧ natAt ([3#16] ++ [0#16]) 0 = 3 ∧ natAt ([2#16] ++ [0#16]) 0 = 2 ∧
      reporting.holdsHost = false ∧ reporting.path.partQueue = [] ∧ reporting.mailbox.command = none ∧
      Memory.wf reporting.mem = true ∧
      reporting.setup.settings.bases.mailbox + 31 < Config.flashBase := by decide
/-- Part turns of the tally logic, the record writer, the cash store and the mailbox, with the words on either side of
the check word and the first and the last word before the result. -/
theorem witness_port :
    (let s : State := { live with path := { live.path with
      partQueue := [.tallyLogic], tallies := [⟨.rejects, 1⟩] } }
    s.path.partQueue = .tallyLogic :: [] ∧ s.path.tallies = ⟨.rejects, 1⟩ :: []) ∧
      (let s : State := { live with
        path := { live.path with partQueue := [.recordWriter] }
        records := { recordsAtStart 0x78000 with jobs := [.slot 0 sample], written := 23 } }
      s.records.jobs = .slot 0 sample :: [] ∧ s.records.written < 24) ∧
      (let s : State := { live with
        path := { live.path with partQueue := [.cashStore] }
        cash := { cashAtStart with phase := .writing, written := 128, copyBase := 0x7F000 } }
      s.path.partQueue = .cashStore :: [] ∧ s.cash.restore = none ∧ s.cash.phase = .writing ∧
        s.cash.written = 128 ∧ ({ s.cash with phase := .queued } : CashState).phase = .queued ∧
        ({ s.cash with written := 126 } : CashState).written = 126 ∧
        ({ s.cash with written := 127 } : CashState).written = 127) ∧
      (let c : Command := ⟨6#16, 0x7F180, [], .respond 0, 1#16, [3#16]⟩
      let s : State := { live with path := { live.path with partQueue := [.mailbox] }, mailbox := ⟨some c⟩ }
      s.isHeld = false ∧ s.path.busWait = [] ∧ s.path.partQueue = .mailbox :: [] ∧
        .mailbox ∉ ([] : List Requester) ∧ s.mailbox.command = some c ∧
        ({ c with step := .respond 6 } : Command).step = .respond 6 ∧ c.base + 2 * (7 + 6) + 1 < Config.flashBase) := by
  refine ⟨⟨rfl, rfl⟩, ⟨rfl, by decide⟩, ?_, ?_⟩
  · decide
  · decide
set_option maxRecDepth 8000 in
/-- An address of each area, with the special words and their high lanes. -/
theorem witness_areas :
    let b := live.setup.settings.bases
    layoutValid b = true ∧ live.holdsHost = false ∧ accessWellFormed 0xFFFFE .word = true ∧
      b.areaAt 0 = none ∧ b.areaAt 0x7F000 = some .cash ∧ b.areaAt 0x7F17F = some .live ∧
      b.areaAt 0x7F400 = some .aliasWindow ∧ b.areaAt 0x7F23F = some .tally ∧
      b.areaAt 0xFC000 = some .tariff ∧ b.areaAt 0x7F19C = some .mailbox ∧ b.offset .mailbox 0x7F19C = 14 ∧
      b.areaAt 0x7F19E = some .mailbox ∧ b.offset .mailbox 0x7F19E = 15 ∧
      b.areaAt 0x7F19F = some .mailbox ∧ b.offset .mailbox 0x7F19F = 15 ∧
      b.areaAt 0x7F180 = some .mailbox ∧ b.offset .mailbox 0x7F180 = 0 ∧ b.offset .mailbox 0x7F181 = 0 ∧
      b.offset .mailbox 0x7F18C = 6 ∧ b.offset .mailbox 0x7F182 = 1 ∧ b.areaAt 0x78002 = some .records ∧
      b.areaAt 0x7F18C = some .mailbox ∧ b.offset .records 0x78002 = 1 ∧
      b.offset .records 0x78003 = 1 ∧ b.offset .records 0x78000 = 0 := by decide
set_option maxRecDepth 8000 in
/-- A quiet port in front of a free mailbox in SRAM, and a mailbox with a command in hand. -/
theorem witness_mailbox :
    live.holdsHost = false ∧ live.path.partQueue = [] ∧ Memory.wf live.mem = true ∧
      live.setup.settings.bases.mailbox + 31 < Config.flashBase ∧ live.mailbox.command = none ∧
      connected.line.owner = some .customer ∧ connected.line.phase ≠ .idle ∧
      live.line.owner ≠ some .customer ∧ live.report.phase = .idle ∧ reporting.report.phase ≠ .idle ∧
      reporting.report.phase ≠ .retryWait ∧ reporting.report.phase ≠ .held ∧
      (twoKinds.get .shock).phase = .reporting ∧ (alarmsAtStart.get .shock).phase = .quiet ∧
      (12#16).toNat = AlarmKind.vaultFull.code ∧ 12 < (13#16).toNat ∧ 8 ≤ (8#16).toNat ∧
      live.hook.phase ≠ .cleared ∧ State.reset.hook.phase = .cleared ∧ live.coin.escrow = [] := by decide
/-- A command in hand, its work and other work waiting for the port, as commands of one argument and of none come. -/
theorem witness_mailbox_in_hand :
    let s : State := { live with
      path := ⟨[.tallyLogic, .mailbox], true, [⟨.rejects, 1⟩], [], 0#16, 0⟩
      mailbox := ⟨some ⟨2#16, 0x7F180, [], .readArguments, 0#16, []⟩⟩ }
    s.holdsHost = false ∧ (s.writeArguments 1 []).mailbox.command ≠ none ∧
      (s.writeArguments 1 [3#16]).mailbox.command ≠ none ∧ s.mailbox.command ≠ none ∧ (9#16 : Word) ≠ 0#16 := by decide
set_option maxRecDepth 8000 in
/-- A reload and a response one word before their ends. -/
theorem witness_reload :
    let c : Command := ⟨6#16, 0x7F180, [], .waitReload, 0#16, []⟩
    (let s : State := { live with
      path := { live.path with partQueue := [.setupLoader] }
      setup := ⟨builtInSettings, .builtIn, some ⟨.reload, List.replicate 255 0xFFFF#16⟩⟩, mailbox := ⟨some c⟩ }
    s.isHeld = false ∧ s.path.busWait = [] ∧ s.path.partQueue = .setupLoader :: [] ∧
      s.setup.load = some ⟨.reload, List.replicate 255 0xFFFF#16⟩ ∧ s.mailbox.command = some c) ∧
      (let s : State := { live with
        path := { live.path with partQueue := [.mailbox] }, mailbox := ⟨some { c with step := .respond 7 }⟩ }
      s.path.partQueue = .mailbox :: [] ∧ s.mailbox.command = some { c with step := .respond 7 } ∧
        c.base + 13 < Config.flashBase) := by decide
set_option maxRecDepth 8000 in
/-- The three reads of a start, each one word before its end. -/
theorem witness_start_reads :
    (let s : State := { State.reset with
      setup := ⟨builtInSettings, .builtIn, some ⟨.start, List.replicate 255 0xFFFF#16⟩⟩ }
    s.isHeld = false ∧ s.restored = false ∧ s.path.partQueue = .setupLoader :: [] ∧
      s.setup.load = some ⟨.start, List.replicate 255 0xFFFF#16⟩) ∧
      (let s : State := { State.reset with
        power := ⟨true, false, .headerRead, .powerOn⟩, path := { State.reset.path with partQueue := [.recordWriter] }
        records := { recordsAtStart 0x78000 with headerRead := some [0#16, 0#16, 0#16] } }
      s.restored = false ∧ s.path.partQueue = .recordWriter :: [] ∧
        s.records.headerRead = some [0#16, 0#16, 0#16]) ∧
      (let s : State := { State.reset with
        power := ⟨true, false, .restoreRead, .powerOn⟩, path := { State.reset.path with partQueue := [.cashStore] }
        cash := { cashAtStart with restore := some (List.replicate 127 0#16) } }
      s.power.phase = .restoreRead ∧ s.path.busWait = [] ∧ s.path.partQueue = .cashStore :: [] ∧
        s.cash.restore = some (List.replicate 127 0#16) ∧ s.coin.op = .idle ∧ s.number.deposit = none) := by
  decide

end Sys2Proof.Tests
end

section
/-! SUPPORT. The credit display words of the LIVE area (R88) and a host read of that area (R154, R156). -/

namespace Sys2Proof.Machine

/-! ### The BCD digits (R88) -/

/-- Up to 9999 the four decimal digits stand side by side in the word's nibbles, thousands highest. -/
theorem bcdWord_toNat (n : Nat) (h : n ≤ 9999) :
    (bcdWord n).toNat = n / 1000 * 4096 + n / 100 % 10 * 256 + n / 10 % 10 * 16 + n % 10 := by
  simp only [bcdWord, wordOf, Nat.min_eq_left h, BitVec.toNat_ofNat]
  omega

/-- Each nibble of the word is the decimal digit of its place. -/
theorem bcdWord_nibbles (n : Nat) (h : n ≤ 9999) :
    (bcdWord n).toNat / 4096 = n / 1000 ∧ (bcdWord n).toNat / 256 % 16 = n / 100 % 10 ∧
      (bcdWord n).toNat / 16 % 16 = n / 10 % 10 ∧ (bcdWord n).toNat % 16 = n % 10 := by
  have hones : n % 10 < 10 := Nat.mod_lt _ (by decide)
  have htens : n / 10 % 10 < 10 := Nat.mod_lt _ (by decide)
  have hhundreds : n / 100 % 10 < 10 := Nat.mod_lt _ (by decide)
  rw [bcdWord_toNat n h]
  generalize n / 1000 = m, n / 100 % 10 = c, n / 10 % 10 = x, n % 10 = i at *
  omega

/-- The lowest three decimal digits by place, with the thousands beside them, sum to the number. -/
theorem sum_decimal_places (n : Nat) :
    n / 1000 * 1000 + n / 100 % 10 * 100 + n / 10 % 10 * 10 + n % 10 = n := by
  have hhundreds : n / 10 / 10 = n / 100 := Nat.div_div_eq_div_mul n 10 10
  have hthousands : n / 100 / 10 = n / 1000 := Nat.div_div_eq_div_mul n 100 10
  omega

/-- Above 9999 the display stays at four nines. -/
theorem bcdWord_of_gt (n : Nat) (h : 9999 < n) : bcdWord n = 0x9999#16 := by
  simp [bcdWord, wordOf, Nat.min_eq_right h.le]

/-! ### The words and their reading (R88, R154, R156) -/

theorem State.liveWord_credit (s : State) : s.liveWord 11 = bcdWord s.coin.totalCredit := rfl

theorem State.liveWord_overflow (s : State) :
    s.liveWord 12 = wordOf (bitNat (decide (9999 < s.coin.totalCredit))) := rfl

/-- A read of the LIVE area that is not held is served at once from the state that stands. -/
theorem State.hostRead_live (s : State) (addr : Nat) (lanes : Lanes) (hfree : s.holdsHost = false)
    (harea : s.setup.settings.bases.areaAt addr = some .live) :
    s.hostRead addr lanes =
      some (s.returnWord (laneValue lanes (s.liveWord (s.setup.settings.bases.offset .live addr)))) := by
  simp [State.hostRead, State.treatRead, hfree, harea]

end Sys2Proof.Machine

open Sys2Proof Sys2Proof.Machine

/-- Settles O16: the digits of the display word rebuild total credit, and a read takes the word as it stands. -/
theorem creditDisplayShowsTotalCredit : Obligations.CreditDisplayShowsTotalCredit := by
  intro s
  refine ⟨fun hfits => ?_, fun hover => ?_, fun addr k hfree harea hoffset => ?_⟩
  · obtain ⟨hthousands, hhundreds, htens, hones⟩ := bcdWord_nibbles s.coin.totalCredit hfits
    have hstatus : s.liveWord 12 = 0#16 := by
      simp [s.liveWord_overflow, wordOf, bitNat, Nat.not_lt.mpr hfits]
    rw [s.liveWord_credit, hthousands, hhundreds, htens, hones]
    exact ⟨sum_decimal_places _, by omega, by omega, by omega, by omega, hstatus⟩
  · have hstatus : s.liveWord 12 = 1#16 := by simp [s.liveWord_overflow, wordOf, bitNat, hover]
    exact ⟨s.liveWord_credit.trans (bcdWord_of_gt _ hover), hstatus⟩
  · subst hoffset
    exact s.hostRead_live addr .word hfree harea
end

section
/-! SUPPORT. The day type of a date (R69): when a holiday entry marks a date, when the list holds it, and the
three outcomes. -/

namespace Sys2Proof.Machine

/-! ### Holiday entries -/

theorem highByte_toNat (w : Word) : (highByte w).toNat = w.toNat / 256 := by
  have hw := w.isLt
  simp only [highByte, BitVec.toNat_ofNat]
  omega

theorem lowByte_toNat (w : Word) : (lowByte w).toNat = w.toNat % 256 := by
  simp [lowByte]

/-- An entry marks a date when its high byte is the month, its low byte is the day, and both are in range. -/
theorem holidayMatches_iff (w : Word) (month day : Nat) :
    holidayMatches w month day = true ↔
      1 ≤ w.toNat / 256 ∧ w.toNat / 256 ≤ 12 ∧ 1 ≤ w.toNat % 256 ∧ w.toNat % 256 ≤ 31 ∧
        w.toNat / 256 = month ∧ w.toNat % 256 = day := by
  simp only [holidayMatches, highByte_toNat, lowByte_toNat, Bool.and_eq_true, decide_eq_true_eq, and_assoc]

/-! ### The day type -/

/-- The holiday list holds the clock's date. -/
def Snapshot.listsDate (snap : Snapshot) (c : Clock) : Bool :=
  snap.holidays.any fun w => holidayMatches w c.month c.day

theorem Snapshot.listsDate_iff (snap : Snapshot) (c : Clock) :
    snap.listsDate c = true ↔ ∃ w ∈ snap.holidays, 1 ≤ w.toNat / 256 ∧ w.toNat / 256 ≤ 12 ∧
      1 ≤ w.toNat % 256 ∧ w.toNat % 256 ≤ 31 ∧ w.toNat / 256 = c.month ∧ w.toNat % 256 = c.day := by
  simp only [Snapshot.listsDate, List.any_eq_true, holidayMatches_iff]

/-- A listed date is a SUNDAY whatever its weekday, so the weekday 6 is asked only of one that is not listed. -/
theorem dayType_eq (snap : Snapshot) (c : Clock) :
    dayType snap c =
      if c.weekday = 7 ∨ snap.listsDate c = true then .sunday
      else if c.weekday = 6 then .saturday else .weekday :=
  if_congr (by simp only [Snapshot.listsDate, Bool.or_eq_true, decide_eq_true_eq]) rfl rfl

theorem dayType_sunday_iff (snap : Snapshot) (c : Clock) :
    dayType snap c = .sunday ↔ c.weekday = 7 ∨ snap.listsDate c = true := by
  rw [dayType_eq]
  split
  next hsunday => exact iff_of_true rfl hsunday
  next hother => exact iff_of_false (by split <;> simp) hother

theorem dayType_saturday_iff (snap : Snapshot) (c : Clock) :
    dayType snap c = .saturday ↔ c.weekday = 6 ∧ ¬ snap.listsDate c = true := by
  rw [dayType_eq]
  split
  next hsunday =>
    refine iff_of_false (by simp) fun ⟨hsix, hfree⟩ => ?_
    exact hsunday.elim (by omega) hfree
  next hother =>
    have hfree := (not_or.mp hother).2
    split
    next hsix => exact iff_of_true rfl ⟨hsix, hfree⟩
    next hsix => exact iff_of_false (by simp) fun ⟨hnow, _⟩ => hsix hnow

theorem dayType_weekday_iff (snap : Snapshot) (c : Clock) :
    dayType snap c = .weekday ↔ c.weekday ≠ 7 ∧ c.weekday ≠ 6 ∧ ¬ snap.listsDate c = true := by
  rw [dayType_eq]
  split
  next hsunday => exact iff_of_false (by simp) fun ⟨hseven, _, hfree⟩ => hsunday.elim hseven hfree
  next hother =>
    obtain ⟨hseven, hfree⟩ := not_or.mp hother
    split
    next hsix => exact iff_of_false (by simp) fun ⟨_, hnot, _⟩ => hnot hsix
    next hsix => exact iff_of_true rfl ⟨hseven, hsix, hfree⟩

end Sys2Proof.Machine

open Sys2Proof Sys2Proof.Machine

/-- Settles O18: the day type's three outcomes, with the list read entry by entry; the list's place is the
snapshot's own definition. -/
theorem dayTypeOfTheDate : Obligations.DayTypeOfTheDate := by
  refine ⟨fun snap c => ?_, fun entry words => rfl⟩
  rw [← snap.listsDate_iff c]
  exact ⟨dayType_sunday_iff snap c, dayType_saturday_iff snap c, dayType_weekday_iff snap c⟩
end

section
/-! SUPPORT. An offer to a record writer that holds a record (R101): which of two times stands, and what the offer
leaves in the record writer. -/

namespace Sys2Proof.Machine

/-! ### The earlier and the later of two times -/

theorem CalTime.earlier_eq_or (a b : CalTime) : a.earlier b = a ∨ a.earlier b = b :=
  (ite_eq_or_eq _ b a).symm

theorem CalTime.earlier_stamp (a b : CalTime) : (a.earlier b).stamp = min a.stamp b.stamp := by
  unfold CalTime.earlier
  split <;> omega

theorem CalTime.later_eq_or (a b : CalTime) : a.later b = a ∨ a.later b = b :=
  (ite_eq_or_eq _ b a).symm

theorem CalTime.later_stamp (a b : CalTime) : (a.later b).stamp = max a.stamp b.stamp := by
  unfold CalTime.later
  split <;> omega

/-! ### The merge -/

theorem mergeRecords_seizeTime {held offered : CallRecord} {a b : CalTime} (ha : held.seizeTime = some a)
    (hb : offered.seizeTime = some b) : (mergeRecords held offered).seizeTime = some (a.earlier b) := by
  simp only [mergeRecords, earlierTime, ha, hb]

theorem State.offerRecord_of_held (s : State) {held : CallRecord} (h : s.records.held = some held)
    (offered : CallRecord) :
    s.offerRecord offered =
      (s.updRecords fun r => { r with held := some (mergeRecords held offered) }).tally .merges := by
  simp only [State.offerRecord, h]

/-- The merge replaces the held record and nothing else of the record writer. -/
theorem State.offerRecord_records_of_held (s : State) {held : CallRecord} (h : s.records.held = some held)
    (offered : CallRecord) :
    (s.offerRecord offered).records = { s.records with held := some (mergeRecords held offered) } := by
  simp [s.offerRecord_of_held h]

end Sys2Proof.Machine

open Sys2Proof Sys2Proof.Machine

/-- Settles O21: the times that stand are the earlier seize time and the later end time; every other field is
`mergeRecords`' own. -/
theorem offeredRecordMerges : Obligations.OfferedRecordMerges := by
  intro s h r a b hheld ha hb
  have hrecords := s.offerRecord_records_of_held hheld r
  refine ⟨a.earlier b, h.endTime.later r.endTime, a.earlier_eq_or b, ?_, ?_, h.endTime.later_eq_or _, ?_, ?_,
    ?_, by simp, by rw [hrecords], by rw [hrecords]⟩
  · exact (a.earlier_stamp b).trans_le (min_le_left _ _)
  · exact (a.earlier_stamp b).trans_le (min_le_right _ _)
  · exact (le_max_left _ _).trans_eq (h.endTime.later_stamp _).symm
  · exact (le_max_right _ _).trans_eq (h.endTime.later_stamp _).symm
  · rw [← mergeRecords_seizeTime ha hb]
    exact s.offerRecord_of_held hheld r
end

section
/-! SUPPORT. The setup block: what its check sums (R179), and that its layout and its settings are read from its
first 14 and 56 words (R180, chapter 12.7), so that words set behind them change nothing read. -/

namespace Sys2Proof.Machine

/-! ### The check (R179) -/

theorem sumWords_eq_zero_iff (ws : List Word) :
    sumWords ws = 0#16 ↔ (ws.map BitVec.toNat).sum % 65536 = 0 := by
  simp [sumWords, wordOf, BitVec.toNat_eq]

theorem setupChecks_iff (ws : List Word) :
    setupChecks ws = true ↔ (ws.map BitVec.toNat).sum % 65536 = 0 :=
  beq_iff_eq.trans (sumWords_eq_zero_iff ws)

/-- Erased words are -1 each mod 65536, so that a list of them passes only when its length is a multiple of 65536. -/
theorem setupChecks_erased_iff (n : Nat) :
    setupChecks (List.replicate n 0xFFFF#16) = true ↔ n % 65536 = 0 := by
  rw [setupChecks_iff, List.map_replicate, List.sum_replicate, smul_eq_mul, BitVec.toNat_ofNat]
  omega

/-! ### Reads that lie before appended words -/

variable {ws : List Word} {k : Nat}

theorem wordAt_append (vs : List Word) (h : k < ws.length) : wordAt (ws ++ vs) k = wordAt ws k :=
  List.getD_append ws vs 0#16 k h

theorem natAt_append (vs : List Word) (h : k < ws.length) : natAt (ws ++ vs) k = natAt ws k :=
  congrArg BitVec.toNat (wordAt_append vs h)

theorem natAt32_append (vs : List Word) (h : k + 1 < ws.length) : natAt32 (ws ++ vs) k = natAt32 ws k := by
  rw [natAt32, natAt_append vs (by omega), natAt_append vs h, natAt32]

theorem countsAt_append (vs : List Word) (h : k + 8 ≤ ws.length) : countsAt (ws ++ vs) k = countsAt ws k :=
  List.map_congr_left fun i hi => natAt_append vs (by have := List.mem_range.mp hi; omega)

theorem nibblesAt_append (vs : List Word) {count : Nat} (h : k + count ≤ ws.length) :
    nibblesAt (ws ++ vs) k count = nibblesAt ws k count := by
  induction count generalizing k with
  | zero => rfl
  | succ count ih => rw [nibblesAt, wordAt_append vs (by omega), ih (by omega), nibblesAt]

/-! ### The layout and the settings (R180, R181) -/

/-- The layout is read from words 0 to 13 alone. -/
theorem basesAt_append (vs : List Word) (h : 14 ≤ ws.length) : basesAt (ws ++ vs) = basesAt ws := by
  simp (disch := omega) only [basesAt, natAt32_append]

/-- The settings and the count of clamped values are read from words 0 to 55 alone. -/
theorem settingsOf_append (vs : List Word) (h : 56 ≤ ws.length) : settingsOf (ws ++ vs) = settingsOf ws := by
  simp (disch := omega) only [settingsOf, clampClasses, basesAt_append, countsAt_append, wordAt_append,
    natAt_append, nibblesAt_append]

end Sys2Proof.Machine

open Sys2Proof Sys2Proof.Machine

/-- Settles O25: an erased block's 256 words leave 65280 mod 65536, and word 255 lies behind every word that the
layout and the settings are read from. -/
theorem setupBlockCheck : Obligations.SetupBlockCheck := by
  refine ⟨setupChecks_iff, ?_, fun ws w hlength => ?_⟩
  · rw [← Bool.not_eq_true, setupChecks_erased_iff]
    decide
  · have hsettings (v : Word) : settingsOf (ws ++ [v]) = settingsOf ws := settingsOf_append [v] (by omega)
    rw [hsettings w, hsettings 0#16]
    exact ⟨rfl, rfl, basesAt_append [w] (by omega)⟩
end

section
/-! SUPPORT. What a run of operations keeps: the invariants of memory, the alarm table, the purse, the money totals,
the queues and the settings, carried together from a first state to a later one, one lemma for each operation. -/

namespace Sys2Proof.Machine

/-! ### The parts of the state that the invariants look at -/

/-- The parts of the state that the six invariants are about. -/
structure Guarded where
  mem : Memory
  settings : Settings
  load : Option SetupLoad
  escrow : List Coin
  gate : Option Coin
  banked : Nat
  fifo : List Nat
  alarms : AlarmState
  totals : MoneyTotals
  restore : Option (List Word)
  headerRead : Option (List Word)
  partQueue : List Requester
  tallies : List PendingTally

def State.guarded (s : State) : Guarded :=
  ⟨s.mem, s.setup.settings, s.setup.load, s.coin.escrow, s.coin.gate, s.coin.banked, s.number.fifo, s.alarms,
    s.cash.totals, s.cash.restore, s.records.headerRead, s.path.partQueue, s.path.tallies⟩

/-- The balances of R18 with what keeps them through a step: no read of a start in progress, and an accepted value
that fits its 32 bits. -/
structure State.moneySound (s : State) : Prop where
  balances : s.moneyBalances
  readsOver : s.startReadsOver
  fits : s.cash.totals.accepted < 2 ^ 32

/-- What a step asks of the money totals in the state it begins in: that they are sound, and that accepted value has
room for a coin of any class. -/
def State.moneyStart (s : State) : Prop :=
  s.moneySound ∧ ∀ code, s.cash.totals.accepted + classValue s.setup.settings.classValues code < 2 ^ 32

/-- The parts of the state that no event changes: memory, the settings and the load in progress, the clock, the pins,
the event mask, the mailbox and the bus wait. -/
structure Still where
  mem : Memory
  setup : SetupState
  clock : Clock
  pins : Pins
  mask : EventSet
  mailbox : MailboxState
  busWait : List Instr

def State.still (s : State) : Still :=
  ⟨s.mem, s.setup, s.clock, s.pins, s.status.mask, s.mailbox, s.path.busWait⟩

/-- Each invariant that holds of the first state holds of the later one, the queue of commands stays, and where `quiet`
asks for it what no event changes stays too. -/
structure Kept (quiet : Bool) (s₀ s : State) : Prop where
  memory : Memory.wf s₀.mem = true → Memory.wf s.mem = true
  alarms : s₀.alarms.lawful → s.alarms.lawful
  credit : s₀.creditLawful → s.creditLawful
  money : s₀.moneyStart → s.moneySound
  queues : s₀.queuesLawful → s.queuesLawful
  settings : s₀.setup.settings.inRange → s.setup.settings.inRange
  pending : s.pending = s₀.pending
  still : quiet = true → s.still = s₀.still

/-- The law of the pending list (R159): one entry for each tally, of an amount from 1 to 65535. -/
def talliesLawful (l : List PendingTally) : Prop :=
  (l.map PendingTally.tally).Nodup ∧ ∀ e ∈ l, 1 ≤ e.amount ∧ e.amount ≤ 65535

theorem State.queuesLawful_iff (s : State) : s.queuesLawful ↔
    s.path.partQueue.Nodup ∧ talliesLawful s.path.tallies ∧ s.number.fifo.length ≤ 32 := by
  simp only [State.queuesLawful, talliesLawful, and_assoc]

theorem addTally_keys (l : List PendingTally) (n : TallyName) : (addTally l n).map PendingTally.tally =
    if n ∈ l.map PendingTally.tally then l.map PendingTally.tally else l.map PendingTally.tally ++ [n] := by
  induction l with
  | nil => rfl
  | cons e rest ih =>
    by_cases he : e.tally = n
    · simp [addTally, he]
    · simp only [addTally, he, if_false, List.map_cons, ih, List.mem_cons, Ne.symm he, false_or]
      split <;> rfl

theorem addTally_amounts {l : List PendingTally} (n : TallyName) (h : ∀ e ∈ l, 1 ≤ e.amount ∧ e.amount ≤ 65535) :
    ∀ e ∈ addTally l n, 1 ≤ e.amount ∧ e.amount ≤ 65535 := by
  induction l with
  | nil => simp [addTally]
  | cons e rest ih =>
    obtain ⟨he, hrest⟩ := List.forall_mem_cons.1 h
    by_cases hn : e.tally = n
    · simp only [addTally, hn, if_true, List.forall_mem_cons, saturate16]
      exact ⟨by omega, hrest⟩
    · simp only [addTally, hn, if_false, List.forall_mem_cons]
      exact ⟨he, ih hrest⟩

theorem addTally_lawful {l : List PendingTally} (n : TallyName) (h : talliesLawful l) :
    talliesLawful (addTally l n) := by
  refine ⟨?_, addTally_amounts n h.2⟩
  rw [addTally_keys]
  split
  · exact h.1
  · rename_i hn
    exact List.nodup_append.2 ⟨h.1, by simp, by simp; rintro e he rfl; exact hn (List.mem_map_of_mem he)⟩

theorem Kept.refl (quiet : Bool) (s : State) : Kept quiet s s := ⟨id, id, id, And.left, id, id, rfl, fun _ => rfl⟩

namespace Kept

variable {quiet : Bool} {s₀ s t : State}

/-- The invariants are about the guarded parts alone. -/
theorem same (h : Kept quiet s₀ s) (e : t.guarded = s.guarded) (hp : t.pending = s.pending)
    (hq : quiet = true → t.still = s.still) : Kept quiet s₀ t := by
  simp only [State.guarded, Guarded.mk.injEq] at e
  obtain ⟨hmem, hset, hload, hesc, hgate, hbank, hfifo, halarms, htot, hrest, hhead, hqueue, htal⟩ := e
  refine ⟨fun h0 => ?_, fun h0 => ?_, fun h0 => ?_, fun h0 => ?_, fun h0 => ?_, fun h0 => ?_, hp.trans h.pending,
    fun h0 => (hq h0).trans (h.still h0)⟩
  · rw [hmem]; exact h.memory h0
  · rw [halarms]; exact h.alarms h0
  · have := h.credit h0
    simpa only [State.creditLawful, CoinState.totalCredit, CoinState.escrowValue, hset, hesc, hgate, hbank] using this
  · obtain ⟨hb, hr, hf⟩ := h.money h0
    refine ⟨?_, ?_, htot ▸ hf⟩
    · simpa only [State.moneyBalances, CoinState.escrowValue, htot, hesc, hgate, hbank] using hb
    · simpa only [State.startReadsOver, hhead, hrest, hload] using hr
  · have := h.queues h0
    simpa only [State.queuesLawful, hqueue, htal, hfifo] using this
  · rw [hset]; exact h.settings h0

/-! ### Updates of one block -/

section Updates

theorem updNow (h : Kept quiet s₀ s) (f : Nat → Nat) : Kept quiet s₀ (s.updNow f) :=
  h.same rfl rfl fun _ => rfl
theorem updPower (h : Kept quiet s₀ s) (f : PowerState → PowerState) : Kept quiet s₀ (s.updPower f) :=
  h.same rfl rfl fun _ => rfl
theorem updLever (h : Kept quiet s₀ s) (f : Debounce → Debounce) : Kept quiet s₀ (s.updLever f) :=
  h.same rfl rfl fun _ => rfl
theorem updEmitter (h : Kept quiet s₀ s) (f : EmitterState → EmitterState) : Kept quiet s₀ (s.updEmitter f) :=
  h.same rfl rfl fun _ => rfl
theorem updLine (h : Kept quiet s₀ s) (f : LineState → LineState) : Kept quiet s₀ (s.updLine f) :=
  h.same rfl rfl fun _ => rfl
theorem updHook (h : Kept quiet s₀ s) (f : HookState → HookState) : Kept quiet s₀ (s.updHook f) :=
  h.same rfl rfl fun _ => rfl
theorem updRating (h : Kept quiet s₀ s) (f : RatingState → RatingState) : Kept quiet s₀ (s.updRating f) :=
  h.same rfl rfl fun _ => rfl
theorem updTamper (h : Kept quiet s₀ s) (f : TamperState → TamperState) : Kept quiet s₀ (s.updTamper f) :=
  h.same rfl rfl fun _ => rfl
theorem updReport (h : Kept quiet s₀ s) (f : ReportState → ReportState) : Kept quiet s₀ (s.updReport f) :=
  h.same rfl rfl fun _ => rfl

/-- A change of the number record that leaves the dial FIFO. -/
theorem updNumber (h : Kept quiet s₀ s) {f : NumberState → NumberState} (hf : (f s.number).fifo = s.number.fifo) :
    Kept quiet s₀ (s.updNumber f) := h.same (by simp [State.guarded, hf]) rfl fun _ => rfl

/-- A change of the coin handler that leaves the purse. -/
theorem updCoin (h : Kept quiet s₀ s) {f : CoinState → CoinState}
    (hf : (f s.coin).escrow = s.coin.escrow ∧ (f s.coin).gate = s.coin.gate ∧ (f s.coin).banked = s.coin.banked) :
    Kept quiet s₀ (s.updCoin f) := h.same (by simp [State.guarded, hf]) rfl fun _ => rfl

/-- A change of the cash store that leaves the money totals and begins no restore read. -/
theorem updCash (h : Kept quiet s₀ s) {f : CashState → CashState}
    (hf : (f s.cash).totals = s.cash.totals ∧ (f s.cash).restore = s.cash.restore) :
    Kept quiet s₀ (s.updCash f) := h.same (by simp [State.guarded, hf]) rfl fun _ => rfl

/-- A change of the record writer that begins no header read. -/
theorem updRecords (h : Kept quiet s₀ s) {f : RecordState → RecordState}
    (hf : (f s.records).headerRead = s.records.headerRead) : Kept quiet s₀ (s.updRecords f) :=
  h.same (by simp [State.guarded, hf]) rfl fun _ => rfl

theorem updMem (h : Kept false s₀ s) {f : Memory → Memory} (hf : Memory.wf s.mem = true → Memory.wf (f s.mem) = true) :
    Kept false s₀ (s.updMem f) :=
  ⟨fun h0 => hf (h.memory h0), h.alarms, h.credit,
    fun h0 => ⟨(h.money h0).balances, (h.money h0).readsOver, (h.money h0).fits⟩, h.queues, h.settings, h.pending,
    nofun⟩

theorem updAlarms (h : Kept quiet s₀ s) {f : AlarmState → AlarmState} (hf : s.alarms.lawful → (f s.alarms).lawful) :
    Kept quiet s₀ (s.updAlarms f) :=
  ⟨h.memory, fun h0 => hf (h.alarms h0), h.credit,
    fun h0 => ⟨(h.money h0).balances, (h.money h0).readsOver, (h.money h0).fits⟩, h.queues, h.settings, h.pending,
    h.still⟩

/-- A change of the event flags that leaves the mask. -/
theorem updStatus (h : Kept quiet s₀ s) {f : StatusState → StatusState} (hf : (f s.status).mask = s.status.mask) :
    Kept quiet s₀ (s.updStatus f) := h.same rfl rfl fun _ => by simp [State.still, hf]

/-! Changes that no event makes. -/

theorem updPins (h : Kept false s₀ s) (f : Pins → Pins) : Kept false s₀ (s.updPins f) := h.same rfl rfl nofun
theorem updClock (h : Kept false s₀ s) (f : Clock → Clock) : Kept false s₀ (s.updClock f) := h.same rfl rfl nofun
theorem updMask (h : Kept false s₀ s) (f : StatusState → StatusState) : Kept false s₀ (s.updStatus f) :=
  h.same rfl rfl nofun
theorem updMailbox (h : Kept false s₀ s) (f : MailboxState → MailboxState) : Kept false s₀ (s.updMailbox f) :=
  h.same rfl rfl nofun
theorem updBusWait (h : Kept false s₀ s) (f : List Instr → List Instr) :
    Kept false s₀ (s.updPath fun p => { p with busWait := f p.busWait }) := h.same rfl rfl nofun

theorem updPath (h : Kept quiet s₀ s) {f : PathState → PathState}
    (hq : s.path.partQueue.Nodup → (f s.path).partQueue.Nodup)
    (ht : talliesLawful s.path.tallies → talliesLawful (f s.path).tallies)
    (hw : (f s.path).busWait = s.path.busWait) : Kept quiet s₀ (s.updPath f) := by
  refine ⟨h.memory, h.alarms, h.credit,
    fun h0 => ⟨(h.money h0).balances, (h.money h0).readsOver, (h.money h0).fits⟩, fun h0 => ?_, h.settings,
    h.pending, fun h0 => ?_⟩
  · obtain ⟨h1, h2, h3⟩ := (State.queuesLawful_iff s).1 (h.queues h0)
    exact (State.queuesLawful_iff _).2 ⟨hq h1, ht h2, h3⟩
  · have := h.still h0
    simpa only [State.still, State.updPath, hw] using this

end Updates

/-! ### The operations every block uses -/

theorem raise (h : Kept quiet s₀ s) (f : EventFlag) : Kept quiet s₀ (s.raise f) := h.updStatus rfl
theorem lower (h : Kept quiet s₀ s) (f : EventFlag) : Kept quiet s₀ (s.lower f) := h.updStatus rfl
theorem clearFlags (h : Kept quiet s₀ s) (v : Word) : Kept quiet s₀ (s.clearFlags v) := h.updStatus rfl
theorem reach (h : Kept quiet s₀ s) (moment : Nat) : Kept quiet s₀ (s.reach moment) := h.updNow _

theorem join (h : Kept quiet s₀ s) (r : Requester) : Kept quiet s₀ (s.join r) := by
  refine h.updPath (fun hq => ?_) (fun ht => ?_) ?_ <;> split
  · exact hq
  · rename_i hr
    exact List.nodup_append.2 ⟨hq, by simp, by simp; rintro _ hx rfl; exact hr hx⟩
  · exact ht
  · exact ht
  · rfl
  · rfl

theorem tally (h : Kept quiet s₀ s) (n : TallyName) : Kept quiet s₀ (s.tally n) :=
  (h.updPath id (addTally_lawful n) rfl).join _

theorem cashChanged (h : Kept quiet s₀ s) : Kept quiet s₀ s.cashChanged := by
  unfold State.cashChanged
  split
  · exact (h.updCash (by simp)).join _
  · exact h

theorem putByte (h : Kept false s₀ s) (addr : Nat) (b : Byte) : Kept false s₀ (s.putByte addr b) :=
  h.updMem (writeByte_wf _ addr _)

theorem countFlash (h : Kept false s₀ s) (addr : Nat) : Kept false s₀ (s.countFlash addr) := by
  unfold State.countFlash
  split
  · exact h
  · exact h.updPath id id rfl

theorem storeByte (h : Kept false s₀ s) (addr : Nat) (b : Byte) : Kept false s₀ (s.storeByte addr b) :=
  (h.putByte addr b).countFlash addr

theorem storeWord (h : Kept false s₀ s) (addr : Nat) (w : Word) : Kept false s₀ (s.storeWord addr w) :=
  ((h.putByte _ _).putByte _ _).countFlash _

/-- The dial FIFO takes new contents of at most 32 symbols (R26). -/
theorem setFifo (h : Kept quiet s₀ s) {q : List Nat} (hq : s.number.fifo.length ≤ 32 → q.length ≤ 32) :
    Kept quiet s₀ (s.setFifo q) := by
  have ht : Kept quiet s₀ (s.updNumber fun n => { n with fifo := q }) :=
    ⟨h.memory, h.alarms, h.credit, fun h0 => ⟨(h.money h0).balances, (h.money h0).readsOver, (h.money h0).fits⟩,
      fun h0 => by obtain ⟨h1, h2, h3, h4⟩ := h.queues h0; exact ⟨h1, h2, h3, hq h4⟩, h.settings, h.pending,
      h.still⟩
  simp only [State.setFifo]
  split
  · exact (ht.updNumber (by rfl)).lower _
  split
  · exact (ht.updNumber (by rfl)).lower _
  split
  · exact (ht.updNumber (by rfl)).raise _
  · exact ht

/-- A fold of operations that keep the invariants. -/
theorem foldl {α : Type} {f : State → α → State} (hf : ∀ s a, Kept quiet s₀ s → Kept quiet s₀ (f s a)) (l : List α)
    (h : Kept quiet s₀ s) : Kept quiet s₀ (l.foldl f s) := by
  induction l generalizing s with
  | nil => exact h
  | cons a l ih => exact ih (hf s a h)

/-! ### Records -/

theorem offerRecord (h : Kept quiet s₀ s) (r : CallRecord) : Kept quiet s₀ (s.offerRecord r) := by
  unfold State.offerRecord
  split
  · exact (h.updRecords (by rfl)).tally _
  · split
    · exact ((h.updRecords (by simp)).join _).raise _
    · exact (h.updRecords (by simp)).join _

theorem moveRecords (h : Kept quiet s₀ s) (base : Nat) : Kept quiet s₀ (s.moveRecords base) := by
  have ht := h.updRecords (f := fun r => RecordState.settleBase { r with newBase := some base }) (by simp)
  simp only [State.moveRecords]
  split
  · exact ht
  · exact ht.join _

theorem takeIndex (h : Kept quiet s₀ s) (v : Nat) : Kept quiet s₀ (s.takeIndex v) := by
  unfold State.takeIndex
  split
  · exact (h.updRecords (by simp)).join _
  · exact h.updRecords (by rfl)

theorem refuseIndex (h : Kept quiet s₀ s) : Kept quiet s₀ s.refuseIndex := (h.raise _).tally _

theorem jobWord (h : Kept quiet s₀ s) : Kept quiet s₀ s.jobWord := h.updRecords (by rfl)

theorem jobDone (h : Kept quiet s₀ s) : Kept quiet s₀ s.jobDone := h.updRecords (by simp)

theorem storeRecordWord (h : Kept false s₀ s) (k : Nat) (w : Word) : Kept false s₀ (s.storeRecordWord k w) := h.storeWord _ _

theorem publish (h : Kept false s₀ s) (slot : Nat) : Kept false s₀ (s.publish slot) :=
  (((h.storeRecordWord _ _).updRecords (by rfl)).jobDone).raise _

theorem recordJobWord (h : Kept false s₀ s) (j : RecordJob) : Kept false s₀ (s.recordJobWord j) := by
  cases j with
  | slot slot rec =>
    simp only [State.recordJobWord]
    split
    · exact (h.storeRecordWord _ _).jobWord
    · exact h.publish slot
  | flagSet => exact ((h.storeRecordWord _ _).updRecords (by rfl)).jobDone
  | flagClear =>
    simp only [State.recordJobWord]
    split
    · exact h.jobDone
    · exact ((h.storeRecordWord _ _).updRecords (by rfl)).jobDone
  | flagZero => exact (h.storeRecordWord _ _).jobDone
  | emptyHeader =>
    simp only [State.recordJobWord]
    split
    · exact (h.storeRecordWord _ _).jobWord
    · exact ((h.storeRecordWord _ _).updRecords (by rfl)).jobDone

/-! ### The line's release and grants -/

theorem abandonItem (h : Kept quiet s₀ s) : Kept quiet s₀ s.abandonItem := h.updEmitter _

theorem releaseLine (h : Kept quiet s₀ s) : Kept quiet s₀ s.releaseLine := by
  unfold State.releaseLine
  split
  · exact h
  · exact h.updLine _
  · exact h.abandonItem.updLine _

theorem releaseForRetry (h : Kept quiet s₀ s) : Kept quiet s₀ s.releaseForRetry := h.abandonItem.updLine _

theorem enterSeizing (h : Kept quiet s₀ s) : Kept quiet s₀ s.enterSeizing := h.updLine _

theorem takeLine (h : Kept quiet s₀ s) (o : Owner) : Kept quiet s₀ (s.takeLine o) := (h.updLine _).enterSeizing

theorem openMirror (h : Kept quiet s₀ s) (k : ZoneKind) : Kept quiet s₀ (s.openMirror k) :=
  (h.updCash (by simp)).cashChanged

theorem tallyGrant (h : Kept quiet s₀ s) (k : ZoneKind) : Kept quiet s₀ (s.tallyGrant k) := by
  cases k
  case barred => exact h
  all_goals exact h.tally _

theorem grantCustomer (h : Kept quiet s₀ s) : Kept quiet s₀ s.grantCustomer := by
  have ht := (h.takeLine .customer).raise .call
  simp only [State.grantCustomer]
  split
  · exact (ht.tallyGrant _).openMirror _
  · exact ht

theorem grantWaiting (h : Kept quiet s₀ s) : Kept quiet s₀ s.grantWaiting := by
  unfold State.grantWaiting
  split
  · split
    · exact h.grantCustomer
    · exact h.takeLine _
    · exact h
  · exact h

theorem placeReport (h : Kept quiet s₀ s) (runTime : Nat) : Kept quiet s₀ (s.placeReport runTime) := (h.updLine _).grantWaiting

theorem withdrawCustomer (h : Kept quiet s₀ s) : Kept quiet s₀ s.withdrawCustomer := h.updLine _

/-! ### Alarms and the report caller -/

theorem beginRun (h : Kept quiet s₀ s) : Kept quiet s₀ s.beginRun := (h.updReport _).placeReport _

theorem checkQueue (h : Kept quiet s₀ s) : Kept quiet s₀ s.checkQueue := by
  unfold State.checkQueue
  split
  · exact h.beginRun
  · exact h

theorem noticeNewKind (h : Kept quiet s₀ s) : Kept quiet s₀ s.noticeNewKind := by
  unfold State.noticeNewKind
  split
  · exact h.checkQueue
  · exact h.beginRun
  · exact h.beginRun
  · exact h

theorem occurrence (h : Kept quiet s₀ s) (k : AlarmKind) : Kept quiet s₀ (s.occurrence k) := by
  have ht := ((h.updAlarms (f := fun a => a.occur k (k.isIn s.setup.settings.reportEnables) s.calendar)
    fun ha => AlarmState.occur_lawful ha _ _ _).raise .alarm).cashChanged
  simp only [State.occurrence]
  split
  · exact ht.noticeNewKind
  · exact ht

theorem endRun (h : Kept quiet s₀ s) : Kept quiet s₀ s.endRun := h.updReport _

theorem resumeRun (h : Kept quiet s₀ s) : Kept quiet s₀ s.resumeRun := (h.updReport _).placeReport _

theorem carryQueue (h : Kept quiet s₀ s) : Kept quiet s₀ s.carryQueue := by
  unfold State.carryQueue
  split
  · exact h
  · exact (h.updAlarms AlarmState.build_lawful).cashChanged

theorem buildReport (h : Kept quiet s₀ s) : Kept quiet s₀ s.buildReport := by
  unfold State.buildReport
  exact h.carryQueue.updReport _

theorem failReporting (h : Kept quiet s₀ s) : Kept quiet s₀ s.failReporting := by
  unfold State.failReporting
  split
  · exact h
  · exact (h.updAlarms AlarmState.fail_lawful).cashChanged

theorem clearAttempt (h : Kept quiet s₀ s) : Kept quiet s₀ s.clearAttempt := (h.updReport _).raise _

theorem failedAttempt (h : Kept quiet s₀ s) : Kept quiet s₀ s.failedAttempt := (h.updReport _).tally _

theorem acknowledgedAttempt (h : Kept quiet s₀ s) : Kept quiet s₀ s.acknowledgedAttempt :=
  ((h.endRun.updReport _).tally _).tally _

theorem attemptOutcome (h : Kept quiet s₀ s) (outcome : EndCause) : Kept quiet s₀ (s.attemptOutcome outcome) := by
  cases outcome
  case ok => exact h.acknowledgedAttempt.checkQueue
  case preempted | restart => exact h.resumeRun
  all_goals exact h.failedAttempt

theorem closeAttempt (h : Kept quiet s₀ s) (outcome : EndCause) (seize : CalTime) :
    Kept quiet s₀ (s.closeAttempt outcome seize) := by
  have ht : Kept quiet s₀ (if outcome = .ok then s else s.failReporting) := by
    split
    · exact h
    · exact h.failReporting
  exact ((ht.offerRecord _).clearAttempt).attemptOutcome _

theorem endReport (h : Kept quiet s₀ s) (outcome : EndCause) : Kept quiet s₀ (s.endReport outcome) :=
  h.releaseLine.closeAttempt _ _

/-! ### The number analyser -/

theorem setNumberPhase (h : Kept quiet s₀ s) (p : NumberPhase) : Kept quiet s₀ (s.setNumberPhase p) := by
  unfold State.setNumberPhase
  split
  · exact h
  · exact (h.updNumber (by rfl)).raise _

theorem discardReads (h : Kept quiet s₀ s) : Kept quiet s₀ s.discardReads := (h.updNumber (by rfl)).updRating _

theorem discardContext (h : Kept quiet s₀ s) : Kept quiet s₀ s.discardContext := h.updRating _

theorem stopNumberTimers (h : Kept quiet s₀ s) : Kept quiet s₀ s.stopNumberTimers := h.updNumber (by rfl)

theorem tallyRefusal (h : Kept quiet s₀ s) (cause : RefusalCause) : Kept quiet s₀ (s.tallyRefusal cause) := by
  cases cause
  case barred | noTariff | depositTimeout => exact h.tally _
  all_goals exact h

theorem refuseNumber (h : Kept quiet s₀ s) (cause : RefusalCause) : Kept quiet s₀ (s.refuseNumber cause) :=
  ((((((h.updNumber (by rfl)).setNumberPhase _).setFifo (by simp)).withdrawCustomer).stopNumberTimers.discardReads
    ).discardContext).tallyRefusal _

theorem endNumber (h : Kept quiet s₀ s) : Kept quiet s₀ s.endNumber :=
  (((((h.setNumberPhase _).updNumber (by simp)).setFifo (by simp)).withdrawCustomer).stopNumberTimers.discardReads
    ).discardContext

theorem preemptReport (h : Kept quiet s₀ s) : Kept quiet s₀ s.preemptReport := by
  unfold State.preemptReport
  split
  · exact h.endReport _
  · exact h

theorem placeCustomer (h : Kept quiet s₀ s) (cls : RequestClass) : Kept quiet s₀ (s.placeCustomer cls) := by
  cases cls with
  | emergency => exact (h.updLine _).preemptReport.grantWaiting
  | paidFree => exact (h.updLine _).grantWaiting

theorem toWaitLine (h : Kept quiet s₀ s) : Kept quiet s₀ s.toWaitLine := (h.stopNumberTimers.setNumberPhase _).placeCustomer _

theorem toWaitDeposit (h : Kept quiet s₀ s) : Kept quiet s₀ s.toWaitDeposit :=
  (h.stopNumberTimers.setNumberPhase _).updNumber (by rfl)

theorem recheckDeposit (h : Kept quiet s₀ s) : Kept quiet s₀ s.recheckDeposit := by
  unfold State.recheckDeposit
  split
  · exact h
  split
  · split
    · exact h.toWaitLine
    · exact h
  split
  · exact h.withdrawCustomer.toWaitDeposit
  · exact h

theorem serviceLost (h : Kept quiet s₀ s) : Kept quiet s₀ s.serviceLost := by
  unfold State.serviceLost
  split
  · exact h.refuseNumber _
  · exact h

theorem creditChanged (h : Kept quiet s₀ s) : Kept quiet s₀ s.creditChanged := h.cashChanged.recheckDeposit

theorem addReason (h : Kept quiet s₀ s) (r : ServiceReason) : Kept quiet s₀ (s.addReason r) := by
  unfold State.addReason
  split
  · exact h
  · exact ((h.updCoin ⟨rfl, rfl, rfl⟩).raise _).serviceLost

theorem removeReason (h : Kept quiet s₀ s) (r : ServiceReason) : Kept quiet s₀ (s.removeReason r) := by
  unfold State.removeReason
  split
  · exact (h.updCoin ⟨rfl, rfl, rfl⟩).raise _
  · exact h

theorem takeSymbol (h : Kept quiet s₀ s) : Kept quiet s₀ s.takeSymbol := by
  unfold State.takeSymbol
  split
  · split
    · exact (h.updNumber (by rfl)).join _
    · exact h
  · exact h

theorem dropUntaken (h : Kept quiet s₀ s) : Kept quiet s₀ s.dropUntaken := by
  unfold State.dropUntaken
  split
  · exact (h.setFifo (by simp; omega)).raise _
  · exact h

theorem completeNumber (h : Kept quiet s₀ s) : Kept quiet s₀ s.completeNumber :=
  ((((((h.updNumber (by rfl)).stopNumberTimers).dropUntaken.tally _).updRating _).updNumber (by rfl)).join _)

theorem decideExpiry (h : Kept quiet s₀ s) : Kept quiet s₀ s.decideExpiry := by
  unfold State.decideExpiry
  split
  · exact h.completeNumber
  · exact h.refuseNumber _

theorem judgeMatch (h : Kept quiet s₀ s) : Kept quiet s₀ s.judgeMatch := by
  unfold State.judgeMatch
  split
  · exact h.completeNumber
  split
  · exact h.decideExpiry
  · exact h.takeSymbol

theorem prefixMatchDone (h : Kept quiet s₀ s) (digits : List Nat) (ws : List Word) (d : Bool) :
    Kept quiet s₀ (s.prefixMatchDone digits ws d) := by
  unfold State.prefixMatchDone
  split
  · exact h.takeSymbol
  · exact (h.updNumber (by simp)).judgeMatch

theorem interDigitExpired (h : Kept quiet s₀ s) : Kept quiet s₀ s.interDigitExpired := by
  have ht := h.updNumber (f := fun n => { n with interDigitTimer := none }) (by rfl)
  simp only [State.interDigitExpired]
  split
  · exact ht.updNumber (by rfl)
  · exact ht.decideExpiry

theorem startInterDigit (h : Kept quiet s₀ s) : Kept quiet s₀ s.startInterDigit := h.updNumber (by rfl)

/-- A posting is accepted only while the FIFO holds fewer than 32 symbols (R27). -/
theorem appendSymbol (h : Kept quiet s₀ s) {code : Nat} (hroom : s.number.fifo.length < 32) :
    Kept quiet s₀ (s.appendSymbol code) := h.setFifo fun _ => by simp; omega

theorem startNumber (h : Kept quiet s₀ s) (code : Nat) (hroom : s.number.fifo.length < 32) :
    Kept quiet s₀ (s.startNumber code) := by
  refine ((((h.setNumberPhase _).updNumber (by simp)).appendSymbol ?_).startInterDigit).takeSymbol
  simpa [State.setNumberPhase, apply_ite] using hroom

theorem postSymbol (h : Kept quiet s₀ s) (code : Nat) : Kept quiet s₀ (s.postSymbol code) := by
  unfold State.postSymbol
  split
  · exact h.raise _
  rename_i hd
  have hroom : s.number.fifo.length < 32 := by
    simp only [State.dropsPosting, Config.fifoLimit, Bool.or_eq_true, not_or] at hd
    obtain ⟨⟨⟨-, hfull⟩, -⟩, -⟩ := hd
    exact not_le.1 fun hle => hfull (decide_eq_true hle)
  split
  · exact h.startNumber _ hroom
  · exact h.startNumber _ hroom
  · split
    · exact h.appendSymbol hroom
    · exact ((h.appendSymbol hroom).startInterDigit).takeSymbol
  · exact h.appendSymbol hroom

theorem storeKind (h : Kept quiet s₀ s) (k : ZoneKind) : Kept quiet s₀ (s.storeKind k) := (h.updNumber (by rfl)).updRating _

theorem beginSnapshot (h : Kept quiet s₀ s) (entry : List Word) : Kept quiet s₀ (s.beginSnapshot entry) :=
  (h.updRating _).join _

theorem checkPaidEntry (h : Kept quiet s₀ s) (entry : List Word) : Kept quiet s₀ (s.checkPaidEntry entry) := by
  unfold State.checkPaidEntry
  split
  · exact h.refuseNumber _
  split
  · exact h.beginSnapshot _
  · exact h.refuseNumber _

theorem checkEntry (h : Kept quiet s₀ s) (entry : List Word) : Kept quiet s₀ (s.checkEntry entry) := by
  simp only [State.checkEntry]
  split
  · exact h.refuseNumber _
  · exact (h.storeKind _).refuseNumber _
  split
  · exact (h.storeKind _).refuseNumber _
  split
  · exact (h.storeKind _).checkPaidEntry _
  · exact (h.storeKind _).toWaitLine

theorem zoneEntryDone (h : Kept quiet s₀ s) (entry : List Word) (d : Bool) : Kept quiet s₀ (s.zoneEntryDone entry d) := by
  unfold State.zoneEntryDone
  split
  · exact h
  · exact h.checkEntry _

theorem checkDeposit (h : Kept quiet s₀ s) (d : Nat) : Kept quiet s₀ (s.checkDeposit d) := by
  unfold State.checkDeposit
  split
  · exact h.refuseNumber _
  split
  · exact h.refuseNumber _
  split
  · exact h.toWaitDeposit
  · exact h.toWaitLine

theorem snapshotDone (h : Kept quiet s₀ s) (entry words : List Word) (d : Bool) :
    Kept quiet s₀ (s.snapshotDone entry words d) := by
  unfold State.snapshotDone
  split
  · exact h
  · exact ((h.updRating _).updNumber (by rfl)).checkDeposit _

/-! ### The emitter -/

theorem beginItem (h : Kept quiet s₀ s) (item : EmitterItem) (ms : Nat) : Kept quiet s₀ (s.beginItem item ms) := h.updEmitter _

theorem beginTone (h : Kept quiet s₀ s) (code : Nat) (use : ItemUse) : Kept quiet s₀ (s.beginTone code use) := h.beginItem _ _

theorem beginDigit (h : Kept quiet s₀ s) (code : Nat) (use : ItemUse) : Kept quiet s₀ (s.beginDigit code use) := by
  unfold State.beginDigit
  split
  · exact h.beginTone _ _
  · exact h.beginItem _ _

theorem beginPip (h : Kept quiet s₀ s) : Kept quiet s₀ s.beginPip := (h.updEmitter _).beginItem _ _

theorem shiftFifo (h : Kept quiet s₀ s) : Kept quiet s₀ s.shiftFifo := h.setFifo (by simp; omega)

theorem nextCustomerItem (h : Kept quiet s₀ s) : Kept quiet s₀ s.nextCustomerItem := by
  unfold State.nextCustomerItem
  split
  · exact h.beginPip
  split
  · exact h
  split
  · exact h.shiftFifo.beginDigit _ _
  split
  · exact h.shiftFifo.beginTone _ _
  · exact h

theorem nextReportItem (h : Kept quiet s₀ s) : Kept quiet s₀ s.nextReportItem := by
  unfold State.nextReportItem
  split
  · split
    · exact (h.updReport _).beginDigit _ _
    · exact h
  · split
    · exact (h.updReport _).beginTone _ _
    · exact h
  · exact h

theorem emitNext (h : Kept quiet s₀ s) : Kept quiet s₀ s.emitNext := by
  unfold State.emitNext
  split
  · exact h
  split
  · exact h.nextCustomerItem
  · exact h.nextReportItem
  · exact h

theorem clearItem (h : Kept quiet s₀ s) : Kept quiet s₀ s.clearItem := h.updEmitter _

theorem pipFallsDue (h : Kept quiet s₀ s) (moment : Nat) : Kept quiet s₀ (s.pipFallsDue moment) := (h.updEmitter _).emitNext

theorem endPips (h : Kept quiet s₀ s) : Kept quiet s₀ s.endPips := h.updEmitter _

/-! ### The close of a customer call -/

theorem trapCheck (h : Kept quiet s₀ s) (flags : RatingFlags) : Kept quiet s₀ (s.trapCheck flags) := by
  have ht : Kept quiet s₀ (if flags &&& s.setup.settings.trapMask &&& ~~~ s.cash.summary = 0#8 then s
      else s.occurrence .ratingAnomaly) := by
    split
    · exact h
    · exact h.occurrence _
  unfold State.trapCheck
  extract_lets fresh u
  split
  · exact ht
  · exact (Kept.updCash ht ⟨rfl, rfl⟩).cashChanged

theorem clearMirror (h : Kept quiet s₀ s) : Kept quiet s₀ s.clearMirror := by
  unfold State.clearMirror
  split
  · exact (h.updCash ⟨rfl, rfl⟩).cashChanged
  · exact h

theorem numberAfterCall (h : Kept quiet s₀ s) (cause : EndCause) : Kept quiet s₀ (s.numberAfterCall cause) := by
  cases cause
  case noDialTone => exact h.refuseNumber _
  all_goals exact h.endNumber

theorem endCall (h : Kept quiet s₀ s) (cause : EndCause) : Kept quiet s₀ (s.endCall cause) :=
  (((((h.releaseLine.endPips).trapCheck _).clearMirror).offerRecord _).numberAfterCall _).raise _

theorem endCustomerCall (h : Kept quiet s₀ s) (cause : EndCause) : Kept quiet s₀ (s.endCustomerCall cause) := by
  unfold State.endCustomerCall
  split
  · exact h.endCall _
  · exact h

end Kept
end Sys2Proof.Machine
end

section
/-! SUPPORT. What a run of operations keeps, continued: the purse and the money totals (R18, R20), the settings of a
load (R180), and the operations that are made of them up to the commands and the step. -/

namespace Sys2Proof.Machine

/-! ### Money -/

theorem addMoney_of_fits {total amount : Nat} (h : total + amount < 2 ^ 32) : addMoney total amount = total + amount :=
  if_pos h

theorem coinsValue_cons (c : Coin) (cs : List Coin) : coinsValue (c :: cs) = c.value + coinsValue cs := by
  simp [coinsValue]

theorem coinsValue_append (cs ds : List Coin) : coinsValue (cs ++ ds) = coinsValue cs + coinsValue ds := by
  simp [coinsValue]

theorem coinsValue_take_add_drop (cs : List Coin) (n : Nat) :
    coinsValue (cs.take n) + coinsValue (cs.drop n) = coinsValue cs := by
  rw [← coinsValue_append, List.take_append_drop]

/-- The items of the operation in flight and the items behind them make up the escrow. -/
theorem CoinState.items_add_rest (c : CoinState) :
    coinsValue c.items + coinsValue (c.escrow.drop c.opItems) = coinsValue c.escrow :=
  coinsValue_take_add_drop _ _

/-- The balances of R18 over totals and a purse, with an accepted value that fits its 32 bits. -/
structure balanced (t : MoneyTotals) (c : CoinState) : Prop where
  accepted : t.accepted = t.collected + t.refunded + t.unconfirmed + c.escrowValue
  collected : t.collected = t.revenue + t.forfeited + c.banked
  fits : t.accepted < 2 ^ 32

theorem State.moneySound_iff (s : State) :
    s.moneySound ↔ balanced s.cash.totals s.coin ∧ s.startReadsOver :=
  ⟨fun ⟨⟨h1, h2⟩, h3, h4⟩ => ⟨⟨h1, h2, h4⟩, h3⟩, fun ⟨⟨h1, h2, h4⟩, h3⟩ => ⟨⟨h1, h2⟩, h3, h4⟩⟩

/-- Forfeiture moves banked credit to forfeited value (R20). -/
theorem balanced.forfeit {t : MoneyTotals} {c : CoinState} (h : balanced t c) :
    balanced { t with forfeited := addMoney t.forfeited c.banked } { c with banked := 0 } := by
  obtain ⟨ha, hc, hf⟩ := h
  have := addMoney_of_fits (total := t.forfeited) (amount := c.banked) (by omega)
  exact ⟨ha, by simp only [this]; omega, hf⟩

/-- A payment moves banked credit to revenue (R79). -/
theorem balanced.draw {t : MoneyTotals} {c : CoinState} (h : balanced t c) {amount : Nat} (hle : amount ≤ c.banked) :
    balanced { t with revenue := addMoney t.revenue amount } { c with banked := c.banked - amount } := by
  obtain ⟨ha, hc, hf⟩ := h
  have := addMoney_of_fits (total := t.revenue) (amount := amount) (by omega)
  exact ⟨ha, by simp only [this]; omega, hf⟩

/-- A collect moves the items from the escrow to collected value and banked credit (R11). -/
theorem balanced.collect {k : CashState} {c : CoinState} (h : balanced k.totals c) (op : EscrowOp) (n : Nat) :
    balanced (k.collect c.items n).totals (c.finish op (coinsValue c.items)) := by
  obtain ⟨ha, hc, hf⟩ := h
  have hitems := c.items_add_rest
  simp only [CoinState.escrowValue] at ha
  have := addMoney_of_fits (total := k.totals.collected) (amount := coinsValue c.items) (by omega)
  refine ⟨?_, ?_, hf⟩ <;>
    simp only [CashState.collect, CoinState.finish, CoinState.escrowValue, this] <;> omega

/-- A refund moves the items from the escrow to refunded and unconfirmed value (R12). -/
theorem balanced.refund {k : CashState} {c : CoinState} (h : balanced k.totals c) (op : EscrowOp) (n : Nat) :
    balanced (k.refund c.items n).totals (c.finish op 0) := by
  obtain ⟨ha, hc, hf⟩ := h
  have hitems := c.items_add_rest
  have hpassed := coinsValue_take_add_drop c.items n
  simp only [CoinState.escrowValue] at ha
  have h1 := addMoney_of_fits (total := k.totals.refunded) (amount := coinsValue (c.items.take n)) (by omega)
  have h2 := addMoney_of_fits (total := k.totals.unconfirmed) (amount := coinsValue (c.items.drop n)) (by omega)
  refine ⟨?_, ?_, hf⟩ <;>
    simp only [CashState.refund, CoinState.finish, CoinState.escrowValue, h1, h2] <;> omega

theorem CoinState.escrowValue_place (c : CoinState) (coin : Coin) (hroom : c.hasRoom = true) :
    (c.place coin).escrowValue = c.escrowValue + coin.value := by
  simp only [CoinState.hasRoom, CoinState.place, CoinState.escrowValue] at *
  split
  · rename_i hf
    simp only [hf, if_true, Option.isNone_iff_eq_none] at hroom
    simp [hroom, gateValue]
  · rw [coinsValue_append, coinsValue_cons]
    simp only [coinsValue, List.map_nil, List.sum_nil]
    omega

/-- A coin taken raises accepted value and the escrow value by its own (R2). -/
theorem balanced.accept {k : CashState} {c : CoinState} (h : balanced k.totals c) {coin : Coin}
    (hroom : c.hasRoom = true) (hfits : k.totals.accepted + coin.value < 2 ^ 32) :
    balanced (k.accept coin).totals (c.place coin) := by
  obtain ⟨ha, hc, hf⟩ := h
  have hv := c.escrowValue_place coin hroom
  refine ⟨?_, ?_, ?_⟩ <;>
    simp only [CashState.accept, addMoney_of_fits hfits, hv, (CoinState.place_frame c coin).1] <;> omega

/-- A settled purse balances with totals of 0 (R142, R143). -/
theorem balanced.close {c : CoinState} (h : c.settled = true) : balanced zeroTotals c := by
  simp only [CoinState.settled, Bool.and_eq_true, List.isEmpty_iff, Option.isNone_iff_eq_none, beq_iff_eq] at h
  obtain ⟨⟨⟨he, hg⟩, -⟩, hb⟩ := h
  exact ⟨by simp [zeroTotals, CoinState.escrowValue, he, hg, coinsValue, gateValue], by simp [zeroTotals, hb],
    by simp [zeroTotals]⟩

namespace Kept

variable {quiet : Bool} {s₀ s t : State}

/-- The money totals and the purse change together: total credit stays within its limit and the balances stay. -/
theorem movePurse (h : Kept quiet s₀ s) {f : CashState → CashState} {g : CoinState → CoinState}
    (hr : (f s.cash).restore = s.cash.restore)
    (hc : s.coin.totalCredit ≤ 64999 → (g s.coin).totalCredit ≤ 64999)
    (hb : s₀.moneyStart → balanced s.cash.totals s.coin → balanced (f s.cash).totals (g s.coin)) :
    Kept quiet s₀ ((s.updCash f).updCoin g) := by
  refine ⟨h.memory, h.alarms, fun h0 => ⟨(h.credit h0).1, hc (h.credit h0).2⟩, fun h0 => ?_, h.queues, h.settings,
    h.pending, h.still⟩
  obtain ⟨hbal, hhead, hrest, hload⟩ := (State.moneySound_iff s).1 (h.money h0)
  exact (State.moneySound_iff _).2 ⟨hb h0 hbal, hhead, hr.trans hrest, hload⟩

/-! ### The coin handler -/

theorem startOp (h : Kept quiet s₀ s) (op : EscrowOp) (drive : Actuator) : Kept quiet s₀ (s.startOp op drive) :=
  h.updCoin ⟨rfl, rfl, rfl⟩

theorem startCollect (h : Kept quiet s₀ s) : Kept quiet s₀ s.startCollect := h.startOp _ _
theorem startRefund (h : Kept quiet s₀ s) : Kept quiet s₀ s.startRefund := h.startOp _ _

theorem requestCollect (h : Kept quiet s₀ s) : Kept quiet s₀ s.requestCollect := by
  unfold State.requestCollect
  split
  · exact h.updCoin ⟨rfl, rfl, rfl⟩
  split
  · exact h
  · exact h.startCollect

theorem requestRefund (h : Kept quiet s₀ s) : Kept quiet s₀ s.requestRefund := by
  unfold State.requestRefund
  split
  · exact h.updCoin ⟨rfl, rfl, rfl⟩
  split
  · exact h
  · exact h.startRefund

theorem forfeit (h : Kept quiet s₀ s) : Kept quiet s₀ s.forfeit := by
  unfold State.forfeit
  split
  · exact h
  · refine (h.movePurse rfl (fun hc => ?_) fun _ hb => hb.forfeit).creditChanged
    simp only [CoinState.totalCredit, CoinState.escrowValue] at hc ⊢
    omega

theorem slugAttack (h : Kept quiet s₀ s) : Kept quiet s₀ s.slugAttack := (h.updCoin ⟨rfl, rfl, rfl⟩).occurrence _

theorem rejectCoin (h : Kept quiet s₀ s) : Kept quiet s₀ s.rejectCoin := by
  have ht := (h.tally .rejects).raise .coinReject
  simp only [State.rejectCoin]
  split
  · exact ht.slugAttack
  · exact ht.updCoin ⟨rfl, rfl, rfl⟩

theorem warnFill (h : Kept quiet s₀ s) : Kept quiet s₀ s.warnFill := (h.updCoin ⟨rfl, rfl, rfl⟩).occurrence _

theorem checkFill (h : Kept quiet s₀ s) (old : Nat) : Kept quiet s₀ (s.checkFill old) := by
  unfold State.checkFill
  extract_lets level t
  have ht : Kept quiet s₀ t := by
    unfold t
    split
    · exact h.warnFill
    · exact h
  split
  · exact ht.addReason _
  · exact ht

theorem collectionClose (h : Kept quiet s₀ s) (hs : s.coin.settled = true) : Kept quiet s₀ s.collectionClose := by
  refine (((h.movePurse (g := fun c => { c with fillWarned := false }) ?_ id fun _ hb => ?_).removeReason _).raise
    _).cashChanged
  · simp
  · obtain ⟨h1, h2, h3⟩ := balanced.close hs
    exact ⟨h1, h2, h3⟩

theorem closeTest (h : Kept quiet s₀ s) : Kept quiet s₀ s.closeTest := by
  unfold State.closeTest
  split
  · rename_i hc
    exact h.collectionClose (Bool.and_eq_true_iff.1 hc).2
  · exact h

theorem thenTest {event : State → State} (h : Kept quiet s₀ (event s)) : Kept quiet s₀ (s.thenTest event) := by
  simp only [State.thenTest]
  split
  · exact h
  · exact h.closeTest

/-! ### The rating engine -/

theorem updContext (h : Kept quiet s₀ s) (f : RatingContext → RatingContext) : Kept quiet s₀ (s.updContext f) := h.updRating _

theorem mirrorCall (h : Kept quiet s₀ s) (c : RatingContext) : Kept quiet s₀ (s.mirrorCall c) := by
  unfold State.mirrorCall
  split
  · split
    · exact h
    · exact (h.updCash ⟨rfl, rfl⟩).cashChanged
  · exact h

theorem addStatus (h : Kept quiet s₀ s) (f : RatingFlags) : Kept quiet s₀ (s.addStatus f) := by
  unfold State.addStatus
  split
  · exact (h.updContext _).mirrorCall _
  · exact h

theorem collectAtAnswer (h : Kept quiet s₀ s) : Kept quiet s₀ s.collectAtAnswer := by
  unfold State.collectAtAnswer
  split
  · exact h
  · exact h.requestCollect

theorem enterGrace (h : Kept quiet s₀ s) : Kept quiet s₀ s.enterGrace := (((h.updContext _).raise _).tally _).pipFallsDue _

/-- A payment of no more than banked credit (R78, R79). -/
theorem drawBanked (h : Kept quiet s₀ s) {amount : Nat} (hle : amount ≤ s.coin.banked) : Kept quiet s₀ (s.drawBanked amount) := by
  refine Kept.creditChanged (h.movePurse (f := fun c =>
      { c with totals := { c.totals with revenue := addMoney c.totals.revenue amount } })
    (g := fun c => { c with banked := c.banked - amount }) rfl (fun hc => ?_) fun _ hb => hb.draw hle)
  simp only [CoinState.totalCredit, CoinState.escrowValue] at hc ⊢
  omega

theorem payCharge (h : Kept quiet s₀ s) (c : RatingContext) {charge : Charge} (hle : charge.amount ≤ s.coin.banked) :
    Kept quiet s₀ (s.payCharge c charge) := (((h.drawBanked hle).updContext _).mirrorCall _).endPips

theorem awaitCredit (h : Kept quiet s₀ s) : Kept quiet s₀ s.awaitCredit := by
  unfold State.awaitCredit
  split
  · exact (h.updContext _).requestCollect
  · exact h.enterGrace

theorem checkCharge (h : Kept quiet s₀ s) : Kept quiet s₀ s.checkCharge := by
  unfold State.checkCharge
  split
  · split
    · split
      · rename_i hle
        exact h.payCharge _ hle
      · exact h.awaitCredit
    · exact h
  · exact h

theorem raiseCharge (h : Kept quiet s₀ s) (amount units : Nat) (origin : ChargeOrigin) :
    Kept quiet s₀ (s.raiseCharge amount units origin) := h.updContext _

theorem unitEnds (h : Kept quiet s₀ s) : Kept quiet s₀ s.unitEnds := by
  unfold State.unitEnds
  split
  · split
    · exact (((h.updContext _).addStatus _).raiseCharge _ _ _).checkCharge
    · exact h
  · exact h

theorem payAndGoOn (h : Kept quiet s₀ s) (c : RatingContext) {charge : Charge} (hle : charge.amount ≤ s.coin.banked) :
    Kept quiet s₀ (s.payAndGoOn c charge) := by
  simp only [State.payAndGoOn]
  split
  · exact (h.payCharge c hle).unitEnds
  · exact h.payCharge c hle

theorem paymentCheck (h : Kept quiet s₀ s) : Kept quiet s₀ s.paymentCheck := by
  unfold State.paymentCheck
  split
  · split
    · split
      · rename_i hle
        exact h.payAndGoOn _ hle
      · exact h.awaitCredit
    · exact h
  · exact h

theorem cutCall (h : Kept quiet s₀ s) : Kept quiet s₀ s.cutCall := ((h.addStatus _).tally _).endCustomerCall _

theorem answerInternal (h : Kept quiet s₀ s) (snap : Snapshot) : Kept quiet s₀ (s.answerInternal snap) := by
  simp only [State.answerInternal]
  exact (((h.collectAtAnswer.addStatus _).updContext _).raiseCharge _ _ _).paymentCheck

theorem answerMetering (h : Kept quiet s₀ s) (snap : Snapshot) : Kept quiet s₀ (s.answerMetering snap) := by
  simp only [State.answerMetering]
  split
  · exact (h.collectAtAnswer.raiseCharge _ _ _).paymentCheck
  · exact h.collectAtAnswer

theorem rateAnswer (h : Kept quiet s₀ s) : Kept quiet s₀ s.rateAnswer := by
  have ht := h.updContext fun c => { c with phase := .answered }
  unfold State.rateAnswer
  extract_lets u
  split
  · split
    · split
      · exact ht.answerInternal _
      · exact ht.answerMetering _
    · exact ht.collectAtAnswer
  · exact ht

theorem chargePulse (h : Kept quiet s₀ s) (rated : RatedUnit × RatingFlags) : Kept quiet s₀ (s.chargePulse rated) :=
  (h.addStatus _).updContext _

theorem ratePulse (h : Kept quiet s₀ s) (c : RatingContext) (snap : Snapshot) : Kept quiet s₀ (s.ratePulse c snap) := by
  simp only [State.ratePulse]
  split
  · exact ((h.chargePulse _).raiseCharge _ _ _).paymentCheck
  · split
    · exact (h.chargePulse _).updContext _
    · exact h.cutCall
  · exact h.cutCall

theorem meterConnected (h : Kept quiet s₀ s) : Kept quiet s₀ s.meterConnected := by
  unfold State.meterConnected
  split
  · split
    · split
      · exact h
      · exact h.ratePulse _ _
    · exact h
  · exact h

theorem countCoins (h : Kept quiet s₀ s) (v : Nat) : Kept quiet s₀ (s.countCoins v) := h.updContext _

theorem graceRecheck (h : Kept quiet s₀ s) (c : RatingContext) : Kept quiet s₀ (s.graceRecheck c) := by
  unfold State.graceRecheck
  split
  · exact h
  split
  · rename_i hle
    exact h.payAndGoOn _ hle
  split
  · exact h.cutCall
  split
  · exact h.requestCollect
  · exact h

theorem recheckPayment (h : Kept quiet s₀ s) : Kept quiet s₀ s.recheckPayment := by
  unfold State.recheckPayment
  split
  · split
    · exact h
    · exact h.paymentCheck
    · exact h.graceRecheck _
  · exact h

theorem collectCompletion (h : Kept quiet s₀ s) (v : Nat) : Kept quiet s₀ (s.collectCompletion v) := by
  unfold State.collectCompletion
  split
  · split
    · exact h
    · exact (h.countCoins v).recheckPayment
  · exact h

theorem graceArrival (h : Kept quiet s₀ s) : Kept quiet s₀ s.graceArrival := by
  unfold State.graceArrival
  split
  · split
    · exact h.requestCollect
    · exact h
  · exact h

theorem graceExpired (h : Kept quiet s₀ s) : Kept quiet s₀ s.graceExpired := by
  unfold State.graceExpired
  split
  · exact h.updContext _
  · exact (h.updContext _).cutCall

theorem unitExpired (h : Kept quiet s₀ s) : Kept quiet s₀ s.unitExpired := by
  unfold State.unitExpired
  split
  · split
    · exact h.updContext _
    · exact h.unitEnds
  · exact h

/-! ### Coins and escrow operations -/

theorem arrivalConditions (h : Kept quiet s₀ s) : Kept quiet s₀ s.arrivalConditions := by
  unfold State.arrivalConditions
  extract_lets u v
  have hu : Kept quiet s₀ u := by
    unfold u
    split
    · exact h.requestCollect
    · exact h
  refine Kept.graceArrival (s := v) ?_
  unfold v
  split
  · exact hu.startRefund
  · exact hu

theorem countCoin (h : Kept quiet s₀ s) (coin : Coin) : Kept quiet s₀ (s.countCoin coin) := by
  simp only [State.countCoin]
  split
  · exact ((h.tally _).tally _).raise _
  · exact (h.tally _).raise _

/-- A coin is taken with room for it, within total credit, and where accepted value still fits (R2). -/
theorem takeCoin (h : Kept quiet s₀ s) {coin : Coin} (hroom : s.coin.hasRoom = true)
    (hcredit : s.coin.totalCredit + coin.value ≤ 64999)
    (hfits : s₀.moneyStart → s.cash.totals.accepted + coin.value < 2 ^ 32) : Kept quiet s₀ (s.takeCoin coin) := by
  have ht := ((h.movePurse (f := fun c => c.accept coin) (g := fun c => c.place coin) (by simp) (fun _ => by
      simp only [CoinState.totalCredit, s.coin.escrowValue_place coin hroom, (CoinState.place_frame s.coin coin).1]
        at hcredit ⊢
      omega) fun h0 hb => hb.accept hroom (hfits h0)).cashChanged.countCoin coin).recheckDeposit
  simp only [State.takeCoin]
  split
  · exact ht
  · exact ht.arrivalConditions

theorem collectResult (h : Kept quiet s₀ s) (op : EscrowOp) (k : Nat) : Kept quiet s₀ (s.collectResult op k) := by
  refine ((h.movePurse (by simp) (fun hc => ?_) fun _ hb => hb.collect op k).creditChanged).checkFill _
  have := s.coin.items_add_rest
  simp only [CoinState.totalCredit, CoinState.escrowValue, CoinState.finish] at hc ⊢
  omega

theorem refundResult (h : Kept quiet s₀ s) (op : EscrowOp) (k : Nat) : Kept quiet s₀ (s.refundResult op k) := by
  refine (h.movePurse (by simp) (fun hc => ?_) fun _ hb => hb.refund op k).creditChanged
  have := s.coin.items_add_rest
  simp only [CoinState.totalCredit, CoinState.escrowValue, CoinState.finish] at hc ⊢
  omega

theorem moveGate (h : Kept quiet s₀ s) : Kept quiet s₀ s.moveGate := by
  unfold State.moveGate
  split
  · rename_i g hg
    refine Kept.cashChanged (h.movePurse (f := id) rfl (fun hc => ?_) fun _ hb => ?_)
    · simp only [CoinState.totalCredit, CoinState.escrowValue, hg, coinsValue_cons, gateValue] at hc ⊢
      omega
    · obtain ⟨ha, hc, hf⟩ := hb
      simp only [CoinState.escrowValue, hg, gateValue] at ha
      exact ⟨by simp only [CoinState.escrowValue, coinsValue_cons, gateValue, id]; omega, hc, hf⟩
  · exact h

theorem nextOperation (h : Kept quiet s₀ s) : Kept quiet s₀ s.nextOperation := by
  have ht := h.updCoin (f := fun c => { c with request := .none }) ⟨rfl, rfl, rfl⟩
  simp only [State.nextOperation]
  split
  · split
    · exact ht
    · exact ht.startCollect
  · split
    · exact ht
    · exact ht.startRefund
  · split
    · exact ht.startRefund
    · exact ht

theorem collectEnd (h : Kept quiet s₀ s) (v : Nat) : Kept quiet s₀ (s.collectEnd v) := by
  have ht := (h.tally .collects).moveGate.nextOperation
  unfold State.collectEnd
  extract_lets u w
  refine (Kept.collectCompletion (s := w) ?_ v).closeTest
  unfold w
  split
  · exact ht.forfeit
  · exact ht

theorem refundEnd (h : Kept quiet s₀ s) : Kept quiet s₀ s.refundEnd := by
  have ht := (h.tally .refunds).moveGate.nextOperation
  simp only [State.refundEnd]
  split
  · exact ht.graceArrival.closeTest
  · exact ht.closeTest

theorem settleCollect (h : Kept quiet s₀ s) : Kept quiet s₀ s.settleCollect := by
  have ht := h.collectResult .idle (min s.coin.chuteCount s.coin.items.length)
  simp only [State.settleCollect]
  split
  · exact ((ht.occurrence _).tally _).collectEnd _
  · exact ht.collectEnd _

theorem settleRefund (h : Kept quiet s₀ s) : Kept quiet s₀ s.settleRefund := by
  have ht := h.refundResult .idle (min s.coin.chuteCount s.coin.items.length)
  simp only [State.settleRefund]
  split
  · exact ((ht.occurrence _).tally _).refundEnd
  · exact ht.refundEnd

theorem jam (h : Kept quiet s₀ s) : Kept quiet s₀ s.jam :=
  (((h.updCoin ⟨rfl, rfl, rfl⟩).occurrence _).tally _).addReason _

theorem jamCollect (h : Kept quiet s₀ s) : Kept quiet s₀ s.jamCollect := (h.jam.collectResult _ _).collectEnd _

theorem jamRefund (h : Kept quiet s₀ s) : Kept quiet s₀ s.jamRefund := ((h.jam.refundResult _ _).tally _).refundEnd

/-! ### The course of a call on the line -/

theorem connectCall (h : Kept quiet s₀ s) : Kept quiet s₀ s.connectCall := h.updLine _

theorem answerCall (h : Kept quiet s₀ s) (assumed : Bool) : Kept quiet s₀ (s.answerCall assumed) := by
  unfold State.answerCall
  extract_lets t u v
  have ht : Kept quiet s₀ t := h.connectCall.raise _
  have hu : Kept quiet s₀ u := by
    unfold u
    split
    · exact ht.tally _
    · exact ht
  refine Kept.rateAnswer (s := v) ?_
  unfold v
  split
  · exact hu.addStatus _
  · exact hu

theorem awaitCustomerAnswer (h : Kept quiet s₀ s) : Kept quiet s₀ s.awaitCustomerAnswer := by
  simp only [State.awaitCustomerAnswer]
  split
  · exact (h.updLine _).answerCall _
  · exact h.updLine _

theorem restartToneCount (h : Kept quiet s₀ s) : Kept quiet s₀ s.restartToneCount := h.updLine _

theorem awaitGo (h : Kept quiet s₀ s) : Kept quiet s₀ s.awaitGo := ((h.updLine _).restartToneCount).updReport _

theorem awaitAck (h : Kept quiet s₀ s) : Kept quiet s₀ s.awaitAck := h.restartToneCount.updReport _

theorem numberSymbolEnds (h : Kept quiet s₀ s) : Kept quiet s₀ s.numberSymbolEnds := by
  have ht := h.updNumber (f := fun n => { n with emitted := n.emitted + 1 }) rfl
  simp only [State.numberSymbolEnds]
  split
  · exact (ht.setNumberPhase _).awaitCustomerAnswer
  · exact ht

theorem reportEnd (h : Kept quiet s₀ s) (use : ItemUse) : Kept quiet s₀ (s.reportEnd use) := by
  cases use with
  | numberSymbol => exact h.numberSymbolEnds
  | inCallSymbol => exact h
  | reportDigit =>
    simp only [State.reportEnd, State.reportDigitEnds]
    split
    · exact h.awaitGo
    · exact h
  | messageSymbol =>
    simp only [State.reportEnd, State.messageSymbolEnds]
    split
    · exact h.awaitAck
    · exact h

theorem endItem (h : Kept quiet s₀ s) (use : ItemUse) : Kept quiet s₀ (s.endItem use) :=
  Kept.thenTest (h.clearItem.reportEnd use).emitNext

theorem dialToneReady (h : Kept quiet s₀ s) : Kept quiet s₀ s.dialToneReady := by
  have ht := h.updLine fun l => { l with phase := .dialling, dialToneTimer := none }
  simp only [State.dialToneReady]
  split
  · exact (ht.setNumberPhase _).emitNext
  · exact (ht.updReport _).emitNext
  · exact ht

theorem endOwner (h : Kept quiet s₀ s) (cause : EndCause) : Kept quiet s₀ (s.endOwner cause) := by
  unfold State.endOwner
  split
  · exact h.endCall _
  · exact h.endReport _
  · exact h

theorem tryFails (h : Kept quiet s₀ s) : Kept quiet s₀ s.tryFails := by
  unfold State.tryFails
  split
  · exact h.releaseForRetry
  · exact (h.tally _).endOwner _

theorem guardEnds (h : Kept quiet s₀ s) : Kept quiet s₀ s.guardEnds := by
  unfold State.guardEnds
  split
  · exact h.enterSeizing
  · exact (h.updLine _).grantWaiting

theorem flash (h : Kept quiet s₀ s) : Kept quiet s₀ s.flash := by
  have ht := (h.tally .hookFlashes).raise .hook
  simp only [State.flash]
  split
  · exact ht.addStatus _
  · exact ht

theorem hookOn (h : Kept quiet s₀ s) : Kept quiet s₀ s.hookOn := by
  unfold State.hookOn
  split
  · exact h.updHook _
  · exact h

theorem hookOff (h : Kept quiet s₀ s) : Kept quiet s₀ s.hookOff := by
  simp only [State.hookOff]
  split
  · exact h
  · exact (h.updHook _).flash
  · exact ((h.updHook _).tally _).raise _

theorem endAtClear (h : Kept quiet s₀ s) : Kept quiet s₀ s.endAtClear := by
  unfold State.endAtClear
  split
  · exact h.endCall _
  split
  · exact h
  · exact h.endNumber

theorem hookClear (h : Kept quiet s₀ s) : Kept quiet s₀ s.hookClear :=
  Kept.thenTest ((((h.updHook _).raise _).forfeit).requestRefund).endAtClear

theorem lineLost (h : Kept quiet s₀ s) : Kept quiet s₀ s.lineLost := (((h.updLine _).endOwner _).occurrence _).addReason _

theorem lineFound (h : Kept quiet s₀ s) : Kept quiet s₀ s.lineFound := (h.updLine _).removeReason _

/-! ### The tamper monitor and the session -/

theorem updSwitch (h : Kept quiet s₀ s) (i : TamperInput) (f : TamperSwitch → TamperSwitch) : Kept quiet s₀ (s.updSwitch i f) :=
  h.updTamper _

theorem standingConditions (h : Kept quiet s₀ s) : Kept quiet s₀ s.standingConditions := by
  unfold State.standingConditions
  extract_lets u v
  have hu : Kept quiet s₀ u := by
    unfold u
    split
    · exact h.occurrence _
    · exact h
  have hv : Kept quiet s₀ v := by
    unfold v
    split
    · exact hu.occurrence _
    · exact hu
  split
  · exact hv
  · exact hv.occurrence _

theorem openSession (h : Kept quiet s₀ s) : Kept quiet s₀ s.openSession :=
  Kept.thenTest ((((((h.endCustomerCall _).updTamper _).forfeit).requestRefund).addReason _).updTamper _)

theorem clearSummary (h : Kept quiet s₀ s) : Kept quiet s₀ s.clearSummary := by
  unfold State.clearSummary
  split
  · exact h
  · exact (h.updCash ⟨rfl, rfl⟩).cashChanged

theorem clearAlarms (h : Kept quiet s₀ s) : Kept quiet s₀ s.clearAlarms := by
  unfold State.clearAlarms
  split
  · exact h
  · exact ((h.updAlarms AlarmState.clearAll_lawful).raise _).cashChanged

theorem closeSession (h : Kept quiet s₀ s) : Kept quiet s₀ s.closeSession := by
  unfold State.closeSession
  extract_lets t u
  have ht : Kept quiet s₀ t := (h.updTamper _).removeReason _
  refine ((Kept.clearSummary (s := u) ?_).clearAlarms.standingConditions).updTamper _
  unfold u
  split
  · exact ht.removeReason _
  · exact ht

theorem oweClose (h : Kept quiet s₀ s) : Kept quiet s₀ s.oweClose := by
  unfold State.oweClose
  split
  · exact h
  · exact (h.updCash ⟨rfl, rfl⟩).cashChanged

theorem vaultEdge (h : Kept quiet s₀ s) (active : Bool) : Kept quiet s₀ (s.vaultEdge active) := by
  unfold State.vaultEdge
  split
  · split
    · split
      · exact ((h.updTamper _).oweClose).closeTest
      · exact h
    · exact h.updTamper _
  split
  · exact h
  · exact h.occurrence _

theorem cordEdge (h : Kept quiet s₀ s) (active : Bool) : Kept quiet s₀ (s.cordEdge active) := h.updTamper _

theorem shockEdge (h : Kept quiet s₀ s) : Kept quiet s₀ s.shockEdge := by
  simp only [State.shockEdge]
  split
  · exact (h.updTamper _).occurrence _
  · exact h.updTamper _

theorem actOnEdge (h : Kept quiet s₀ s) (i : TamperInput) (active : Bool) : Kept quiet s₀ (s.actOnEdge i active) := by
  cases i <;> simp only [State.actOnEdge]
  case vault => exact h.vaultEdge _
  case cord => exact h.cordEdge _
  case door | housing =>
    split
    · exact h.occurrence _
    · exact h
  case shock =>
    split
    · exact h.shockEdge
    · exact h
  case key =>
    split <;> split
    · exact h
    · exact h.openSession
    · exact h.closeSession
    · exact h

theorem followLevel (h : Kept quiet s₀ s) (i : TamperInput) : Kept quiet s₀ (s.followLevel i) := by
  simp only [State.followLevel]
  split
  · exact h
  split
  · exact (h.updSwitch _ _).actOnEdge _ _
  · exact h

theorem settleLevel (h : Kept quiet s₀ s) (i : TamperInput) : Kept quiet s₀ (s.settleLevel i) := (h.updSwitch _ _).followLevel _

theorem actOnFirst (h : Kept quiet s₀ s) : Kept quiet s₀ s.actOnFirst := by
  unfold State.actOnFirst
  extract_lets t
  have ht : Kept quiet s₀ t := by
    unfold t
    split
    · exact h.openSession
    · exact h.standingConditions
  split
  · exact ht.cordEdge _
  · exact ht

theorem firstLevel (h : Kept quiet s₀ s) (i : TamperInput) : Kept quiet s₀ (s.firstLevel i) := by
  unfold State.firstLevel
  exact h.updSwitch _ _

theorem firstStatuses (h : Kept quiet s₀ s) : Kept quiet s₀ s.firstStatuses := by
  unfold State.firstStatuses
  extract_lets t u
  have ht : Kept quiet s₀ t := Kept.foldl (fun _ i h => h.firstLevel i) _ h
  exact (((ht.updTamper _).actOnFirst).updPower _).closeTest

end Kept
end Sys2Proof.Machine
end

section
/-! SUPPORT. What a run of operations keeps, completed: the settings of a load, the starts, the mailbox, the memory
port, the host's accesses, the commands and the step. -/

namespace Sys2Proof.Machine

/-! ### The settings of a load (R180) -/

theorem clampRange_within {low high : Nat} (h : low ≤ high) (n : Nat) : within low high (clampRange low high n).value := by
  unfold clampRange within
  split
  · exact ⟨le_refl _, h⟩
  split
  · exact ⟨h, le_refl _⟩
  · rename_i hl hh
    exact ⟨not_lt.1 hl, not_lt.1 hh⟩

theorem clampMargin_lt {capacity : Nat} (h : 0 < capacity) (n : Nat) :
    (clampMargin capacity n).value ≤ 255 ∧ (clampMargin capacity n).value < capacity := by
  simp only [clampMargin]
  split <;> constructor <;> omega

theorem clampThreshold_listed (n : Nat) : (clampThreshold n).value = 0 ∨ (clampThreshold n).value = 4 ∨
    (clampThreshold n).value = 8 ∨ (clampThreshold n).value = 16 := by
  simp only [clampThreshold]
  split_ifs <;> simp

theorem clampDigits_le (ds : List Nat) : ∀ d ∈ (clampDigits ds).value, d ≤ 9 := by
  simp [clampDigits]

theorem clampDigits_length (ds : List Nat) : (clampDigits ds).value.length = ds.length := by
  simp [clampDigits]

theorem clampClasses_le (ws : List Word) : ∀ v ∈ (clampClasses ws).value, v ≤ 5000 := by
  simp [clampClasses]

theorem nibblesAt_length (ws : List Word) (k count : Nat) : (nibblesAt ws k count).length = 4 * count := by
  induction count generalizing k with
  | zero => rfl
  | succ count ih => simp only [nibblesAt, List.length_append, ih, nibblesOf, List.length_cons, List.length_nil]; omega

/-- The settings of a block with a valid layout lie in their ranges (R180, R181). -/
theorem settingsOf_inRange {ws : List Word} (h : layoutValid (basesAt ws) = true) : (settingsOf ws).value.inRange := by
  have hlen : within 1 20 (clampRange 1 20 (natAt ws 43)).value := clampRange_within (by decide) _
  have hcap : within 200 4000 (clampRange 200 4000 (natAt ws 23)).value := clampRange_within (by decide) _
  have hmargin := clampMargin_lt (capacity := (clampRange 200 4000 (natAt ws 23)).value) (by have := hcap.1; omega)
    (natAt ws 24)
  have hnumber : (clampDigits ((nibblesAt ws 44 5).take (clampRange 1 20 (natAt ws 43)).value)).value.length
      = (clampRange 1 20 (natAt ws 43)).value := by
    rw [clampDigits_length, List.length_take, nibblesAt_length]
    exact min_eq_left hlen.2
  refine ⟨h, by simp [settingsOf, clampClasses, countsAt], clampClasses_le ws, clampRange_within (by decide) _, hcap,
    hmargin.1, hmargin.2, clampRange_within (by decide) _, clampRange_within (by decide) _,
    (clampRange_within (by decide) _).2, clampRange_within (by decide) _, clampRange_within (by decide) _,
    clampRange_within (by decide) _, clampRange_within (by decide) _, clampRange_within (by decide) _,
    clampRange_within (by decide) _, clampRange_within (by decide) _, clampRange_within (by decide) _,
    clampRange_within (by decide) _, clampRange_within (by decide) _, (clampRange_within (by decide) _).2, ?_,
    clampDigits_le _, ?_, clampDigits_le _, clampThreshold_listed _⟩
  · exact hnumber.symm ▸ hlen
  · exact (clampDigits_length _).trans (nibblesAt_length _ _ _)

theorem builtInSettings_inRange : builtInSettings.inRange := by
  refine ⟨by decide, ?_⟩
  simp [builtInSettings, within]

theorem startSettings_inRange (ws : List Word) : (startSettings ws).1.inRange := by
  unfold startSettings
  split
  · rename_i h
    exact settingsOf_inRange (Bool.and_eq_true_iff.1 h).2
  · exact builtInSettings_inRange

/-! ### The purse that a start restores (R150) -/

theorem classValue_le {values : List Nat} (h : ∀ v ∈ values, v ≤ 5000) (cls : Nat) : classValue values cls ≤ 5000 := by
  unfold classValue
  split
  · rw [List.getD_eq_getElem?_getD]
    cases he : values[cls - 1]? with
    | none => simp
    | some v => exact h v (List.mem_of_getElem? he)
  · simp

theorem coinsValue_le {cs : List Coin} (h : ∀ c ∈ cs, c.value ≤ 5000) : coinsValue cs ≤ 5000 * cs.length := by
  induction cs with
  | nil => simp [coinsValue]
  | cons c cs ih =>
    obtain ⟨hc, hcs⟩ := List.forall_mem_cons.1 h
    have := ih hcs
    rw [coinsValue_cons, List.length_cons]
    omega

theorem restoredEscrow_length (values : List Nat) (ws : List Word) : (restoredEscrow values ws).length ≤ 8 := by
  have h : (mirroredClasses ws).length ≤ 8 := by simp [mirroredClasses]
  simpa [restoredEscrow] using (List.length_filter_le _ _).trans h

/-- Restored total credit lies within its limit: at most nine coins, and banked credit cut to what they leave. -/
theorem restored_totalCredit_le {values : List Nat} (h : ∀ v ∈ values, v ≤ 5000) (ws : List Word) :
    restoredBanked values ws + (coinsValue (restoredEscrow values ws) + gateValue (restoredGate values ws))
      ≤ 64999 := by
  have hescrow : coinsValue (restoredEscrow values ws) ≤ 40000 := by
    have hlen := restoredEscrow_length values ws
    have := coinsValue_le (cs := restoredEscrow values ws) (by
      intro c hc
      obtain ⟨cls, -, rfl⟩ := List.mem_map.1 hc
      exact classValue_le h cls)
    omega
  have hgate : gateValue (restoredGate values ws) ≤ 5000 := by
    unfold restoredGate
    split
    · exact classValue_le h _
    · simp [gateValue]
  simp only [restoredBanked, Config.creditLimit]
  omega

namespace Kept

variable {s₀ s t : State}

/-- New settings, in their ranges. -/
theorem updSetup (h : Kept false s₀ s) {f : SetupState → SetupState} (hs : (f s.setup).settings.inRange)
    (hl : s₀.moneyStart → ∀ l, (f s.setup).load = some l → l.purpose = .reload) : Kept false s₀ (s.updSetup f) := by
  have hclasses : ∀ v ∈ (f s.setup).settings.classValues, v ≤ 5000 := hs.2.2.1
  refine ⟨h.memory, h.alarms, fun h0 => ⟨hclasses, (h.credit h0).2⟩, fun h0 => ?_, h.queues, fun _ => hs, h.pending, nofun⟩
  obtain ⟨hb, ⟨hhead, hrest, -⟩, hf⟩ := h.money h0
  exact ⟨hb, ⟨hhead, hrest, hl h0⟩, hf⟩

/-- A load in progress changes, and the settings stay. -/
theorem updLoad (h : Kept false s₀ s) {f : SetupState → SetupState} (hs : (f s.setup).settings = s.setup.settings)
    (hl : s₀.moneyStart → ∀ l, (f s.setup).load = some l → l.purpose = .reload) : Kept false s₀ (s.updSetup f) := by
  refine ⟨h.memory, h.alarms, fun h0 => ?_, fun h0 => ?_, h.queues, fun h0 => ?_, h.pending, nofun⟩
  · have := h.credit h0
    simpa only [State.creditLawful, State.updSetup_setup, State.updSetup_coin, hs] using this
  · obtain ⟨hb, ⟨hhead, hrest, -⟩, hf⟩ := h.money h0
    exact ⟨hb, ⟨hhead, hrest, hl h0⟩, hf⟩
  · have := h.settings h0
    simpa only [State.updSetup_setup, hs] using this

/-- A change of the record writer, the cash store or the purse in a read of a start, where the balances are not yet
asked for. -/
theorem updRecordsInStart (h : Kept false s₀ s) (hm : ¬ s₀.moneyStart) (f : RecordState → RecordState) :
    Kept false s₀ (s.updRecords f) :=
  ⟨h.memory, h.alarms, h.credit, fun h0 => absurd h0 hm, h.queues, h.settings, h.pending, nofun⟩

theorem updCashInStart (h : Kept false s₀ s) (hm : ¬ s₀.moneyStart) (f : CashState → CashState) : Kept false s₀ (s.updCash f) :=
  ⟨h.memory, h.alarms, h.credit, fun h0 => absurd h0 hm, h.queues, h.settings, h.pending, nofun⟩

theorem updCoinInStart (h : Kept false s₀ s) (hm : ¬ s₀.moneyStart) {f : CoinState → CoinState}
    (hc : (∀ v ∈ s.setup.settings.classValues, v ≤ 5000) → (f s.coin).totalCredit ≤ 64999) :
    Kept false s₀ (s.updCoin f) :=
  ⟨h.memory, h.alarms, fun h0 => ⟨(h.credit h0).1, hc (h.credit h0).1⟩, fun h0 => absurd h0 hm, h.queues, h.settings, h.pending, nofun⟩

/-! ### A reload -/

theorem reloadFill (h : Kept false s₀ s) : Kept false s₀ s.reloadFill := by
  unfold State.reloadFill
  extract_lets count t
  have ht : Kept false s₀ t := by
    unfold t
    split
    · exact h.removeReason _
    · exact h.addReason _
  split
  · exact ht.updCoin ⟨rfl, rfl, rfl⟩
  split
  · exact ht
  · exact ht.warnFill

theorem reloadAlarms (h : Kept false s₀ s) : Kept false s₀ s.reloadAlarms := by
  simp only [State.reloadAlarms]
  split
  · exact h
  · exact (((h.updAlarms (f := fun a => a.reload s.setup.settings.reportEnables)
      (AlarmState.reload_lawful _)).raise _).cashChanged).checkQueue

theorem reloadThreshold (h : Kept false s₀ s) : Kept false s₀ s.reloadThreshold := by
  unfold State.reloadThreshold
  split
  · exact (h.updNumber (by rfl)).lower _
  · exact h

theorem reloadCashBase (h : Kept false s₀ s) (old : Nat) : Kept false s₀ (s.reloadCashBase old) := by
  unfold State.reloadCashBase
  split
  · exact h
  · exact h.cashChanged

theorem reloadRecordsBase (h : Kept false s₀ s) (old : Nat) : Kept false s₀ (s.reloadRecordsBase old) := by
  unfold State.reloadRecordsBase
  split
  · exact h
  · exact h.moveRecords _

theorem applySettings (h : Kept false s₀ s) {new : Settings} (hn : new.inRange) : Kept false s₀ (s.applySettings new) := by
  unfold State.applySettings
  extract_lets t u
  have ht : Kept false s₀ t := h.updSetup (f := fun u => { u with settings := new, lastLoad := .file }) hn
    fun h0 => (h.money h0).readsOver.2.2
  have hu : Kept false s₀ u := (ht.reloadFill.removeReason _).reloadRecordsBase _
  exact ((Kept.foldl (fun _ i h => h.followLevel i) tamperInputs hu).reloadAlarms.reloadCashBase _).reloadThreshold

/-! ### The reads of a start -/

theorem beginHeaderRead (h : Kept false s₀ s) (hm : ¬ s₀.moneyStart) : Kept false s₀ s.beginHeaderRead :=
  ((h.updRecordsInStart hm _).updPower _).join _

theorem setupLoadDone (h : Kept false s₀ s) (hm : ¬ s₀.moneyStart) (ws : List Word) : Kept false s₀ (s.setupLoadDone ws) := by
  unfold State.setupLoadDone
  extract_lets got t u v
  have hu : Kept false s₀ u := (h.updSetup (f := fun _ => ⟨got.1, got.2, none⟩) (startSettings_inRange ws)
    fun h0 => absurd h0 hm).updMask _
  refine Kept.beginHeaderRead (s := v) ?_ hm
  unfold v
  split
  · exact hu.addReason _
  · exact hu

theorem headerReadDone (h : Kept false s₀ s) (hm : ¬ s₀.moneyStart) (ws : List Word) : Kept false s₀ (s.headerReadDone ws) :=
  ((((h.updRecordsInStart hm _).updPower _).updCashInStart hm _).join _).join _

theorem restoreImage (h : Kept false s₀ s) (hm : ¬ s₀.moneyStart) (ws : List Word) : Kept false s₀ (s.restoreImage ws) := by
  have ht := (h.updCashInStart hm fun _ => restoredCash ws).updPower fun p => { p with phase := .inputWait }
  simp only [State.restoreImage]
  split
  · exact (ht.updCashInStart hm _).raise _
  · exact ht

theorem restorePurse (h : Kept false s₀ s) (hm : ¬ s₀.moneyStart) (ws : List Word) : Kept false s₀ (s.restorePurse ws) := by
  unfold State.restorePurse
  extract_lets values t
  have ht : Kept false s₀ t := h.updCoinInStart hm fun hv => restored_totalCredit_le hv ws
  split
  · exact ht.addReason _
  · exact ht

theorem restoreAlarms (h : Kept false s₀ s) (ws : List Word) : Kept false s₀ (s.restoreAlarms ws) := by
  have ht := h.updAlarms (f := fun _ => rebuiltAlarms ws) fun _ => rebuiltAlarms_lawful ws
  simp only [State.restoreAlarms]
  split
  · exact ht.checkQueue
  · exact ht.cashChanged.checkQueue

theorem closePowerLost (h : Kept false s₀ s) : Kept false s₀ s.closePowerLost := by
  unfold State.closePowerLost
  split
  · exact ((h.trapCheck _).clearMirror).offerRecord _
  · exact h

theorem restoreRefund (h : Kept false s₀ s) : Kept false s₀ s.restoreRefund := by
  unfold State.restoreRefund
  split
  · split
    · exact h.moveGate.requestRefund
    · exact h
  split
  · exact h.requestRefund.requestRefund
  · exact h.requestRefund

theorem awaitLevels (h : Kept false s₀ s) : Kept false s₀ s.awaitLevels :=
  Kept.foldl (f := fun t i => t.updSwitch i _) (fun _ _ h => h.updSwitch _ _) tamperInputs ((h.updLever _).updHook _)

theorem restoreDone (h : Kept false s₀ s) (hm : ¬ s₀.moneyStart) (ws : List Word) : Kept false s₀ (s.restoreDone ws) :=
  (((((((h.restoreImage hm ws).restorePurse hm ws).restoreAlarms ws).closePowerLost).forfeit).restoreRefund
    ).awaitLevels)

/-! ### The service restart -/

theorem restartLine (h : Kept false s₀ s) : Kept false s₀ s.restartLine := by
  unfold State.restartLine
  split
  · exact h.endCall _
  · exact h.endReport _
  · exact h

theorem restartNumber (h : Kept false s₀ s) : Kept false s₀ s.restartNumber := by
  unfold State.restartNumber
  split
  · exact h
  · exact h.endNumber

theorem serviceRestart (h : Kept false s₀ s) : Kept false s₀ s.serviceRestart :=
  Kept.thenTest (((((h.restartLine.abandonItem.endPips).forfeit).requestRefund).restartNumber).updPower _)

/-! ### The mailbox -/

theorem updCommand (h : Kept false s₀ s) (f : Command → Command) : Kept false s₀ (s.updCommand f) := h.updMailbox _

theorem answerCommand (h : Kept false s₀ s) (result data : Word) : Kept false s₀ (s.answerCommand result data) := h.updCommand _

theorem postCommand (h : Kept false s₀ s) (code : Word) : Kept false s₀ (s.postCommand code) := by
  unfold State.postCommand
  split
  · exact h
  split
  · exact h.raise _
  · exact ((h.lower _).updMailbox _).join _

theorem commandSetClock (h : Kept false s₀ s) (date weekday hour minute second : Word) :
    Kept false s₀ (s.commandSetClock date weekday hour minute second) := by
  unfold State.commandSetClock
  split
  · exact (h.updClock _).answerCommand _ _
  · exact h.answerCommand _ _

theorem commandEndCall (h : Kept false s₀ s) : Kept false s₀ s.commandEndCall := by
  unfold State.commandEndCall
  split
  · exact (h.endCall _).answerCommand _ _
  · exact h.answerCommand _ _

theorem reportNow (h : Kept false s₀ s) : Kept false s₀ s.reportNow := by
  unfold State.reportNow
  split
  · exact (h.updReport _).beginRun
  · exact h.beginRun

theorem commandReportNow (h : Kept false s₀ s) : Kept false s₀ s.commandReportNow := by
  simp only [State.commandReportNow]
  split
  · exact h.reportNow.answerCommand _ _
  · exact h.answerCommand _ _

theorem clearKind (h : Kept false s₀ s) (k : AlarmKind) : Kept false s₀ (s.clearKind k) := by
  simp only [State.clearKind]
  split
  · exact (((h.updAlarms (f := fun a => a.clear k) fun ha => AlarmState.clear_lawful ha k).raise _).cashChanged
      ).answerCommand _ _
  split
  · exact h.answerCommand _ _
  · exact h.answerCommand _ _

theorem commandClearAlarm (h : Kept false s₀ s) (kind : Word) : Kept false s₀ (s.commandClearAlarm kind) := by
  unfold State.commandClearAlarm
  split
  · exact h.clearAlarms.answerCommand _ _
  split
  · exact h.clearKind _
  · exact h.answerCommand _ _

theorem commandReload (h : Kept false s₀ s) : Kept false s₀ s.commandReload := by
  unfold State.commandReload
  split
  · refine ((h.updMailbox _).updLoad rfl fun _ l hl => ?_).join _
    exact (Option.some.inj hl) ▸ rfl
  · exact h.answerCommand _ _

theorem carryOut (h : Kept false s₀ s) (c : Command) : Kept false s₀ (s.carryOut c) := by
  simp only [State.carryOut]
  split
  · exact (h.updMask _).answerCommand _ _
  · exact h.commandSetClock _ _ _ _ _
  · exact h.commandEndCall
  · exact h.commandReportNow
  · exact h.commandClearAlarm _
  · exact h.commandReload
  · exact h.serviceRestart.answerCommand _ _
  · exact h.answerCommand _ _

theorem reloadOutcome (h : Kept false s₀ s) (ws : List Word) : Kept false s₀ (s.reloadOutcome ws) := by
  unfold State.reloadOutcome
  split
  · exact h.answerCommand _ _
  split
  · exact h.answerCommand _ _
  split
  · exact h.answerCommand _ _
  · rename_i hl
    exact (h.applySettings (settingsOf_inRange (by simpa using hl))).answerCommand _ _

theorem reloadDone (h : Kept false s₀ s) (ws : List Word) : Kept false s₀ (s.reloadDone ws) :=
  ((h.updLoad rfl fun _ _ hl => by cases hl).reloadOutcome ws).join _

theorem readArgument (h : Kept false s₀ s) (c : Command) : Kept false s₀ (s.readArgument c) := by
  unfold State.readArgument
  exact h.updCommand _

theorem mailboxWord (h : Kept false s₀ s) : Kept false s₀ s.mailboxWord := by
  unfold State.mailboxWord
  split
  · exact h
  · split
    · exact h.readArgument _
    · exact (h.storeWord _ _).carryOut _
    · exact h
    · simp only [State.writeResponse]
      split
      · exact (h.storeWord _ _).updMailbox _
      · exact ((h.storeWord _ _).updMailbox _).raise _

/-! ### The memory port -/

/-- A load for a start stands in no state whose balances are asked for. -/
theorem not_money_of_load (h : Kept false s₀ s) {l : SetupLoad} (hl : s.setup.load = some l) (hp : l.purpose = .start) :
    ¬ s₀.moneyStart := fun h0 => by
  have := (h.money h0).readsOver.2.2 l hl
  rw [hp] at this
  cases this

theorem loaderWord (h : Kept false s₀ s) : Kept false s₀ s.loaderWord := by
  unfold State.loaderWord
  split
  · exact h
  · rename_i l hl
    extract_lets ws
    split
    · refine h.updLoad rfl fun h0 l' hl' => ?_
      rw [← Option.some.inj hl']
      exact (h.money h0).readsOver.2.2 l hl
    split
    · rename_i hp
      exact h.setupLoadDone (h.not_money_of_load hl hp) _
    · exact h.reloadDone _

theorem restoreWord (h : Kept false s₀ s) {got : List Word} (hr : s.cash.restore = some got) : Kept false s₀ (s.restoreWord got) := by
  have hm : ¬ s₀.moneyStart := fun h0 => by simpa [hr] using (h.money h0).readsOver.2.1
  simp only [State.restoreWord]
  split
  · exact h.updCashInStart hm _
  · exact h.restoreDone hm _

theorem beginWriteBack (h : Kept false s₀ s) : Kept false s₀ s.beginWriteBack := by
  unfold State.beginWriteBack
  exact (h.storeWord _ _).updCash ⟨rfl, rfl⟩

theorem endWriteBack (h : Kept false s₀ s) : Kept false s₀ s.endWriteBack := (h.storeWord _ _).updCash ⟨rfl, rfl⟩

theorem writeBackWord (h : Kept false s₀ s) : Kept false s₀ s.writeBackWord := by
  unfold State.writeBackWord
  split
  · exact h
  · exact h.beginWriteBack
  split
  · exact (h.storeWord _ _).updCash ⟨rfl, rfl⟩
  · exact h.endWriteBack

theorem cashWord (h : Kept false s₀ s) : Kept false s₀ s.cashWord := by
  unfold State.cashWord
  split
  · rename_i got hr
    exact h.restoreWord hr
  · exact h.writeBackWord

theorem recordWord (h : Kept false s₀ s) : Kept false s₀ s.recordWord := by
  unfold State.recordWord
  split
  · rename_i got hr
    have hm : ¬ s₀.moneyStart := fun h0 => by simpa [hr] using (h.money h0).readsOver.1
    extract_lets ws
    split
    · exact h.updRecordsInStart hm _
    · exact h.headerReadDone hm _
  split
  · exact h
  · exact h.recordJobWord _

theorem analyserWord (h : Kept false s₀ s) : Kept false s₀ s.analyserWord := by
  unfold State.analyserWord
  split
  · exact h
  · extract_lets addr ws
    split
    · exact h.updNumber rfl
    · have ht := h.updNumber (f := fun n => { n with reads := n.reads.tail }) rfl
      simp only [State.analyserDone]
      split
      · exact ht.prefixMatchDone _ _ _
      · exact ht.zoneEntryDone _ _

theorem ratingWord (h : Kept false s₀ s) : Kept false s₀ s.ratingWord := by
  unfold State.ratingWord
  split
  · exact h
  · extract_lets ws
    split
    · exact h.updRating _
    · exact (h.updRating _).snapshotDone _ _ _

theorem tallyWord (h : Kept false s₀ s) : Kept false s₀ s.tallyWord := by
  unfold State.tallyWord
  split
  · exact h
  · rename_i e rest he
    extract_lets addr old
    refine (h.updPath (f := fun p => { p with tallies := rest }) id (fun ht => ?_) rfl).storeWord _ _
    rw [he] at ht
    exact ⟨(List.nodup_cons.1 ht.1).2, fun x hx => ht.2 x (List.mem_cons_of_mem _ hx)⟩

theorem wordOperation (h : Kept false s₀ s) (r : Requester) : Kept false s₀ (s.wordOperation r) := by
  cases r
  case setupLoader => exact h.loaderWord
  case cashStore => exact h.cashWord
  case recordWriter => exact h.recordWord
  case numberAnalyser => exact h.analyserWord
  case ratingEngine => exact h.ratingWord
  case mailbox => exact h.mailboxWord
  case tallyLogic => exact h.tallyWord

theorem rejoin (h : Kept false s₀ s) (r : Requester) : Kept false s₀ (s.rejoin r) := by
  unfold State.rejoin
  split
  · exact h.join _
  · exact h

theorem partTurn (h : Kept false s₀ s) : Kept false s₀ s.partTurn := by
  unfold State.partTurn
  split
  · exact h
  split
  · exact h
  · exact (((h.wordOperation _).updPath (fun hq => hq.tail) id rfl).rejoin _).updPath id id rfl

theorem runTo {turn : State → State} (hturn : ∀ s, Kept false s₀ s → Kept false s₀ (turn s)) (ready : State → Bool)
    (fuel : Nat) (h : Kept false s₀ s) : Kept false s₀ ((Machine.runTo turn ready fuel s).getD s) := by
  have key : ∀ (fuel : Nat) (u : State), Kept false s₀ u → ∀ t, Machine.runTo turn ready fuel u = some t → Kept false s₀ t := by
    intro fuel
    induction fuel with
    | zero => intro u _ t ht; cases ht
    | succ fuel ih =>
      intro u hu t ht
      simp only [Machine.runTo] at ht
      split at ht
      · exact Option.some.inj ht ▸ hturn u hu
      split at ht
      · cases ht
      · exact ih _ (hturn u hu) t ht
  cases hr : Machine.runTo turn ready fuel s with
  | none => exact h
  | some t => exact key fuel s h t hr

/-! ### The host's accesses -/

theorem hostTurnEnds (h : Kept false s₀ s) : Kept false s₀ s.hostTurnEnds := h.updPath id id rfl

theorem passing {action turn : State → State} (ha : Kept false s₀ (action s))
    (ht : ∀ u, Kept false s₀ u → Kept false s₀ (turn u)) : Kept false s₀ (s.passing action turn) := by
  refine (ht _ ?_).hostTurnEnds
  unfold State.atHostTurn
  split
  · exact ha.partTurn
  · exact ha

theorem specialAction (h : Kept false s₀ s) (w : SpecialWord) (v : Word) : Kept false s₀ (s.specialAction w v) := by
  cases w <;> simp only [State.specialAction]
  case commandPost => exact h.postCommand _
  case dialPost => exact (h.postSymbol _).emitNext
  case eventClear => exact h.clearFlags _
  case consumerIndex =>
    split
    · exact h.takeIndex _
    · exact h.refuseIndex

theorem takeSpecial (h : Kept false s₀ s) (w : SpecialWord) (v : Word) : Kept false s₀ (s.takeSpecial w v) := by
  unfold State.takeSpecial
  split
  · exact passing (h.specialAction _ _) fun _ hu => hu.storeWord _ _
  · exact h.specialAction _ _

theorem passWrite (h : Kept false s₀ s) (addr : Nat) (size : AccessSize) (v : Word) : Kept false s₀ (s.passWrite addr size v) := by
  refine passing (action := id) h fun _ hu => ?_
  cases size with
  | word => exact hu.storeWord _ _
  | byte => exact hu.storeByte _ _

theorem hostWriteAt (h : Kept false s₀ s) (addr : Nat) (size : AccessSize) (v : Word) :
    Kept false s₀ (s.hostWriteAt addr size v) := by
  unfold State.hostWriteAt
  split
  · exact h.passWrite _ _ _
  · exact h
  · exact (h.occurrence _).tally _
  · exact h.takeSpecial _ _

theorem returnWord (h : Kept false s₀ s) (w : Word) : Kept false s₀ (s.returnWord w) := h.updPath id id rfl

theorem aliasRead (h : Kept false s₀ s) (offset : Nat) (lanes : Lanes) : Kept false s₀ (s.aliasRead offset lanes) := by
  unfold State.aliasRead
  exact passing (action := id) h fun _ hu => (hu.storeWord _ _).returnWord _

theorem takeResponse (h : Kept false s₀ s) (access : SpecialAccess) : Kept false s₀ (s.takeResponse access) := by
  unfold State.takeResponse
  exact passing (action := id) h fun _ hu => (hu.lower _).returnWord _

theorem writeArguments (h : Kept false s₀ s) (k : Nat) (args : List Word) : Kept false s₀ (s.writeArguments k args) := by
  induction args generalizing s k with
  | nil => exact h
  | cons a rest ih => exact ih (h.passWrite _ _ _) _

theorem mailboxCommand (h : Kept false s₀ s) (code : Word) (args : List Word) : Kept false s₀ (s.mailboxCommand code args) := by
  have hu := (h.writeArguments 1 args).takeSpecial .commandPost code
  simp only [State.mailboxCommand]
  split
  · exact hu
  · exact hu.runTo (fun _ h => h.partTurn) _ _

theorem hostAccess (h : Kept false s₀ s) (c : Instr) {f : State → State} (hf : Kept false s₀ (f s)) : Kept false s₀ (s.hostAccess c f) := by
  unfold State.hostAccess
  split
  · exact h.updBusWait fun w => w ++ [c]
  · exact hf

theorem madeAccess (h : Kept false s₀ s) (c : Instr) : Kept false s₀ (s.madeAccess c) := by
  cases c
  case dialPost | consumerIndexWrite | eventClear => exact h.takeSpecial _ _
  case takeResponse => exact h.takeResponse _
  case hostWrite | protectedWrite => exact h.hostWriteAt _ _ _
  case aliasRead => exact h.aliasRead _ _
  case setMask | setClock | endCall | reportNow | clearAlarm | reloadSetup | restartService | unknownCommand =>
    exact h.mailboxCommand _ _
  all_goals exact h

theorem releaseBus (h : Kept false s₀ s) : Kept false s₀ s.releaseBus := by
  unfold State.releaseBus
  split
  · exact h
  · exact Kept.foldl (fun _ c h => h.madeAccess c) _ (h.updBusWait fun _ => [])

theorem turnsUntil (h : Kept false s₀ s) (ready : State → Bool) : Kept false s₀ (s.turnsUntil ready) :=
  h.runTo (fun _ h => h.partTurn.releaseBus) _ _

end Kept
end Sys2Proof.Machine
end

section
/-! SUPPORT. Every command and every step keeps the six invariants. -/

namespace Sys2Proof.Machine

namespace Kept

variable {quiet : Bool} {s₀ s t : State}

theorem whenLive (h : Kept quiet s₀ s) {f : State → State} (hf : Kept quiet s₀ (f s)) : Kept quiet s₀ (s.whenLive f) := by
  unfold State.whenLive
  split
  · exact h
  · exact hf

/-- An expiry keeps the invariants when its effect does, whatever moment has been reached. -/
theorem onExpiry (h : Kept quiet s₀ s) (m : Timer) {f : State → State} (hf : ∀ n, Kept quiet s₀ (s.reach n) → Kept quiet s₀ (f (s.reach n))) :
    Kept quiet s₀ (s.onExpiry m f) := by
  cases m with
  | none => exact h
  | some n => exact hf n (h.reach n)

theorem of_next (h : Kept quiet s₀ s) (he : (.next s : Result) = .next t) : Kept quiet s₀ t := by
  cases he
  exact h

theorem slugLeaks (h : Kept quiet s₀ s) : Kept quiet s₀ s.slugLeaks := h.updCoin ⟨rfl, rfl, rfl⟩

theorem flapReturns (h : Kept quiet s₀ s) : Kept quiet s₀ s.flapReturns := by
  unfold State.flapReturns
  split
  · exact h.updCoin ⟨rfl, rfl, rfl⟩
  · exact h

theorem leverPressed (h : Kept quiet s₀ s) : Kept quiet s₀ s.leverPressed := by
  unfold State.leverPressed
  split
  · exact h
  · exact h.requestRefund

theorem settleAtOnce (h : Kept quiet s₀ s) (i : TamperInput) : Kept quiet s₀ (s.settleAtOnce i) := by
  unfold State.settleAtOnce
  split
  · exact h.settleLevel _
  · exact h

theorem afterMake (h : Kept quiet s₀ s) (digit left : Nat) (use : ItemUse) : Kept quiet s₀ (s.afterMake digit left use) := by
  unfold State.afterMake
  split
  · exact h.beginItem _ _
  · exact h.beginItem _ _

theorem retryExpired (h : Kept quiet s₀ s) : Kept quiet s₀ s.retryExpired := by
  simp only [State.retryExpired]
  split
  · exact (h.updReport _).resumeRun
  · exact (h.updReport _).endRun

theorem holdExpired (h : Kept quiet s₀ s) : Kept quiet s₀ s.holdExpired := by
  simp only [State.holdExpired]
  split
  · exact (h.updReport _).beginRun
  · exact (h.updReport _).endRun

theorem goTone (h : Kept quiet s₀ s) : Kept quiet s₀ s.goTone := (((h.updLine _).buildReport).updReport _).emitNext

theorem acknowledge (h : Kept quiet s₀ s) : Kept quiet s₀ s.acknowledge := by
  have ht := (h.updAlarms AlarmState.acknowledge_lawful).raise .alarm
  simp only [State.acknowledge]
  split
  · exact ht
  · exact ht.cashChanged

theorem ackTone (h : Kept quiet s₀ s) : Kept quiet s₀ s.ackTone := ((h.updReport _).acknowledge).endReport _

theorem meterAnswer (h : Kept quiet s₀ s) : Kept quiet s₀ s.meterAnswer :=
  Kept.thenTest (event := fun s => ((s.answerCall false).meterConnected).emitNext)
    ((h.answerCall _).meterConnected).emitNext

theorem answered (h : Kept quiet s₀ s) (assumed : Bool) : Kept quiet s₀ (s.answered fun s => s.answerCall assumed) :=
  Kept.thenTest (h.answerCall _).emitNext

theorem tickSecond (h : Kept false s₀ s) : Kept false s₀ s.tickSecond := (h.reach _).updClock _

end Kept

/-! ### The commands -/

/-- A strobe takes its coin only with room for it and within total credit (R2). -/
theorem execValidatorStrobe_kept (quiet : Bool) (code : Nat) (s : State) : Kept quiet s (s.whenLive fun s =>
    if s.takesCoin code then
      (s.takeCoin ⟨code, classValue s.setup.settings.classValues code⟩).closeTest
    else s.rejectCoin) := by
  refine (Kept.refl quiet s).whenLive ?_
  split
  · rename_i hc
    simp only [State.takesCoin, Bool.and_eq_true, decide_eq_true_eq] at hc
    obtain ⟨⟨-, hroom⟩, hcredit⟩ := hc
    exact ((Kept.refl quiet s).takeCoin hroom hcredit fun h0 => h0.2 code).closeTest
  · exact (Kept.refl quiet s).rejectCoin

/-- The invariants do not look at the pins. -/
theorem Kept.of_updPins {s t : State} {f : Pins → Pins} (h : Kept false (s.updPins f) t) : Kept false s t :=
  ⟨h.memory, h.alarms, h.credit, fun h0 => h.money ⟨⟨h0.1.balances, h0.1.readsOver, h0.1.fits⟩, h0.2⟩, h.queues,
    h.settings, h.pending, nofun⟩

/-- A change of a field input moves the pins and keeps the invariants from there on. -/
theorem exec_inputChange_kept (quiet : Bool) {c : Instr} {s t : State} (hc : c.commandClass = .inputChange)
    (he : exec c s = .next t) : ∃ f : Pins → Pins, Kept quiet (s.updPins f) t := by
  have h (f : Pins → Pins) := Kept.refl quiet (s.updPins f)
  cases c <;> try cases hc
  case flapHome =>
    cases he
    split
    · exact ⟨id, h id⟩
    · exact ⟨_, (h _).whenLive (h _).flapReturns⟩
  case flapLeavesRest =>
    cases he
    exact ⟨_, h _⟩
  case leverRawChange =>
    cases he
    split
    · exact ⟨id, h id⟩
    dsimp only
    split
    · exact ⟨_, (h _).updLever _⟩
    · exact ⟨_, h _⟩
  case tonePresentChange | polarityChange | linePresentChange =>
    cases he
    split
    · exact ⟨id, h id⟩
    · exact ⟨_, (h _).whenLive ((h _).updLine _)⟩
  case loopCurrentChange =>
    cases he
    split
    · exact ⟨id, h id⟩
    · refine ⟨_, (h _).whenLive ?_⟩
      split
      · exact (h _).updLine _
      · exact h _
  case hookRawChange =>
    cases he
    split
    · exact ⟨id, h id⟩
    dsimp only
    split
    · exact ⟨_, (h _).updHook _⟩
    · exact ⟨_, h _⟩
  case tamperRawChange =>
    cases he
    split
    · exact ⟨id, h id⟩
    dsimp only
    split
    · exact ⟨_, ((h _).updSwitch _ _).settleAtOnce _⟩
    · exact ⟨_, h _⟩

/-- A run of part work keeps the invariants. -/
theorem exec_portWork_kept {c : Instr} {s t : State} (hc : c.commandClass = .portWork)
    (he : exec c s = .next t) : Kept false s t := by
  have h := Kept.refl false s
  cases c <;> try cases hc
  case partWordTurn => exact h.partTurn.releaseBus.of_next he
  all_goals
    refine Kept.of_next (h.whenLive ?_) he
    exact h.turnsUntil _

/-- The check of an access lets its effect through or stops. -/
theorem checkAccess_next {addr : Nat} {size : AccessSize} {s t : State}
    (h : checkAccess addr size (.next s) = .next t) : t = s := by
  unfold checkAccess at h
  split at h
  · cases h
  split at h
  · cases h; rfl
  split at h
  · cases h; rfl
  · cases h

/-- An access of the host keeps the invariants. -/
theorem exec_hostAccess_kept {c : Instr} {s t : State} (hc : c.commandClass = .hostAccess)
    (he : exec c s = .next t) : Kept false s t := by
  have h := Kept.refl false s
  cases c <;> try cases hc
  case hostWrite | protectedWrite =>
    rw [checkAccess_next he]
    exact h.hostAccess _ (h.hostWriteAt _ _ _)
  case dialPost | consumerIndexWrite | eventClear => exact (h.hostAccess _ (h.takeSpecial _ _)).of_next he
  case aliasRead => exact (h.hostAccess _ (h.aliasRead _ _)).of_next he
  case takeResponse => exact (h.hostAccess _ (h.takeResponse _)).of_next he
  all_goals exact (h.hostAccess _ (h.mailboxCommand _ _)).of_next he

/-- An event keeps the invariants. -/
theorem exec_event_kept (quiet : Bool) {c : Instr} {s t : State} (hc : c.commandClass = .event)
    (he : exec c s = .next t) : Kept quiet s t := by
  have h := Kept.refl quiet s
  cases c <;> try cases hc
  case validatorStrobe code => exact (execValidatorStrobe_kept quiet code s).of_next he
  case rejectPulse => exact (h.whenLive h.rejectCoin).of_next he
  case slugLeakExpiry => exact (h.whenLive (h.onExpiry _ fun _ h => h.slugLeaks)).of_next he
  case slugCooloffExpiry => exact (h.whenLive (h.onExpiry _ fun _ h => h.updCoin ⟨rfl, rfl, rfl⟩)).of_next he
  case chutePulse =>
    refine (h.whenLive ?_).of_next he
    split
    · exact h.updCoin ⟨rfl, rfl, rfl⟩
    · exact h
  case settleWindowEnd =>
    refine (h.whenLive (h.onExpiry _ fun _ h => ?_)).of_next he
    split
    · exact h.settleCollect
    · exact h.settleRefund
    · exact h
  case flapHomeTimeout =>
    refine (h.whenLive (h.onExpiry _ fun _ h => ?_)).of_next he
    split
    · exact h.jamCollect
    · exact h.jamRefund
    · exact h
  case returnLeverPress =>
    refine (h.whenLive ?_).of_next he
    split
    · exact h.onExpiry _ fun _ h => (h.updLever _).leverPressed
    · exact h
  case leverRelease | leverFirstLevel =>
    refine (h.whenLive ?_).of_next he
    split
    · exact h.onExpiry _ fun _ h => h.updLever _
    · exact h
  case interDigitTimeout => exact (h.whenLive (h.onExpiry _ fun _ h => h.interDigitExpired)).of_next he
  case depositWaitExpiry => exact (h.whenLive (h.onExpiry _ fun _ h => h.refuseNumber _)).of_next he
  case toneOnTimeExpiry | pulseBreakEnd =>
    refine (h.whenLive ?_).of_next he
    split
    · exact h.onExpiry _ fun _ h => h.beginItem _ _
    · exact h
  case toneOffTimeExpiry | pulsePauseEnd =>
    refine (h.whenLive ?_).of_next he
    split
    · exact h.onExpiry _ fun _ h => h.endItem _
    · exact h
  case pulseMakeEnd =>
    refine (h.whenLive ?_).of_next he
    split
    · exact h.onExpiry _ fun _ h => h.afterMake _ _ _
    · exact h
  case pipDue =>
    refine (h.whenLive ?_).of_next he
    split
    · exact (h.reach _).pipFallsDue _
    · exact h
  case pipEnd =>
    refine (h.whenLive ?_).of_next he
    split
    · exact h.onExpiry _ fun _ h => h.clearItem.emitNext
    · exact h
  case guardExpiry => exact (h.whenLive (h.onExpiry _ fun _ h => h.guardEnds)).of_next he
  case dialToneFound =>
    refine (h.whenLive ?_).of_next he
    split
    · exact h.onExpiry _ fun _ h => h.dialToneReady
    · exact h
  case dialToneTimeout => exact (h.whenLive (h.onExpiry _ fun _ h => h.tryFails)).of_next he
  case reversalAnswer =>
    refine (h.whenLive ?_).of_next he
    split
    · exact (h.reach _).answered _
    · exact h
  case meteringPulse =>
    refine (h.whenLive ?_).of_next he
    split
    · exact Kept.thenTest h.meterConnected
    split
    · exact h.meterAnswer
    · exact h
  case timedAnswerExpiry =>
    refine (h.whenLive ?_).of_next he
    split
    · exact h.onExpiry _ fun _ h => h.answered _
    · exact h
  case answerWaitExpiry | clearTimerExpiry =>
    refine (h.whenLive ?_).of_next he
    split
    · exact h.onExpiry _ fun _ h => h.endCall _
    · exact h
  case polarityReturnClear =>
    refine (h.whenLive ?_).of_next he
    split
    · exact (h.reach _).endCall _
    · exact h
  case hookDebouncedChange =>
    refine (h.whenLive ?_).of_next he
    split
    · refine h.onExpiry _ fun _ h => ?_
      split
      · exact Kept.hookOn (h.updHook _)
      · exact Kept.hookOff (h.updHook _)
    · exact h
  case hookFlashTimerExpiry => exact (h.whenLive (h.onExpiry _ fun _ h => h.hookClear)).of_next he
  case hookFirstLevel =>
    refine (h.whenLive ?_).of_next he
    split
    · exact h.onExpiry _ fun _ h => (h.updHook _).updHook _
    · exact h
  case lineQualifyExpiry =>
    refine (h.whenLive (h.onExpiry _ fun _ h => ?_)).of_next he
    split
    · exact h.lineLost
    · exact h.lineFound
  case unitTimerExpiry => exact (h.whenLive (h.onExpiry _ fun _ h => Kept.thenTest h.unitExpired)).of_next he
  case graceTimerExpiry => exact (h.whenLive (h.onExpiry _ fun _ h => h.graceExpired)).of_next he
  case tamperEdge =>
    refine (h.whenLive ?_).of_next he
    split
    · exact h.onExpiry _ fun _ h => h.settleLevel _
    · exact h
  case tamperFirstLevels => exact (h.whenLive (h.onExpiry _ fun _ h => h.firstStatuses)).of_next he
  case cordOnsetExpiry =>
    exact (h.whenLive (h.onExpiry _ fun _ h => (h.updTamper _).occurrence _)).of_next he
  case retryTimerExpiry => exact (h.whenLive (h.onExpiry _ fun _ h => h.retryExpired)).of_next he
  case holdTimerExpiry => exact (h.whenLive (h.onExpiry _ fun _ h => h.holdExpired)).of_next he
  case goToneFound =>
    refine (h.whenLive ?_).of_next he
    split
    · exact h.onExpiry _ fun _ h => h.goTone
    · exact h
  case ackToneFound =>
    refine (h.whenLive ?_).of_next he
    split
    · exact h.onExpiry _ fun _ h => h.ackTone
    · exact h
  case goTimerExpiry | ackTimerExpiry => exact (h.whenLive (h.onExpiry _ fun _ h => h.endReport _)).of_next he

/-- Every command keeps the invariants but one of the supply or the reset line, whose start loses the read that the
balances ask about. -/
theorem exec_kept {c : Instr} {s t : State} (hc : c.commandClass ≠ .supply) (he : exec c s = .next t) : Kept false s t := by
  cases hcl : c.commandClass with
  | supply => exact absurd hcl hc
  | hostAccess => exact exec_hostAccess_kept hcl he
  | portWork => exact exec_portWork_kept hcl he
  | inputChange =>
    obtain ⟨f, h⟩ := exec_inputChange_kept false hcl he
    exact h.of_updPins
  | event => exact exec_event_kept false hcl he
  | clock =>
    cases c <;> try cases hcl
    refine Kept.of_next ?_ he
    split
    · exact (Kept.refl false s).tickSecond
    · exact Kept.refl false s

/-! ### The step -/

/-- The parts that the invariants look at are in their start condition, and memory stays. -/
def State.startsFrom (s t : State) : Prop :=
  t.mem = s.mem ∧ t.setup.settings = builtInSettings ∧ t.coin = coinAtStart ∧ t.number = numberAtStart ∧
    t.alarms = alarmsAtStart ∧ t.cash = cashAtStart ∧ t.path.tallies = [] ∧
    (t.path.partQueue = [] ∨ t.path.partQueue = [.setupLoader])

/-- A command of the supply or the reset line leaves every block in its start condition, or changes nothing that the
invariants look at. -/
theorem exec_supply {c : Instr} {s t : State} (hc : c.commandClass = .supply) (he : exec c s = .next t) :
    s.startsFrom t ∨ Kept false s t := by
  cases c <;> try cases hc
  case powerOn =>
    cases he
    left
    split
    · exact ⟨rfl, rfl, rfl, rfl, rfl, rfl, rfl, .inl rfl⟩
    · exact ⟨rfl, rfl, rfl, rfl, rfl, rfl, rfl, .inr rfl⟩
  case powerFail | resetLineAssert =>
    cases he
    exact .inl ⟨rfl, rfl, rfl, rfl, rfl, rfl, rfl, .inl rfl⟩
  case resetLine =>
    cases he
    split
    · exact .inl ⟨rfl, rfl, rfl, rfl, rfl, rfl, rfl, .inr rfl⟩
    · exact .inr ((Kept.refl false s).updPower _)

/-- A step keeps the invariants from the state whose front command is taken off the queue, or leaves every block in
its start condition. -/
theorem step_kept_or_start {s t : State} (he : step s = .next t) :
    (∃ f : List Instr → List Instr, Kept false (s.updPending f) t) ∨ s.startsFrom t := by
  unfold step at he
  split at he
  · exact .inl ⟨id, ((Kept.refl false _).updNow _).of_next he⟩
  · rename_i c rest _
    by_cases hc : c.commandClass = .supply
    · exact (exec_supply hc he).symm.imp (fun h => ⟨_, h⟩) id
    · exact .inl ⟨_, exec_kept hc he⟩

end Sys2Proof.Machine

open Sys2Proof Sys2Proof.Machine

/-- Settles O8, by the writes at the memory port, each of which keeps the canonical form. -/
theorem stepKeepsMemoryForm : Obligations.StepKeepsMemoryForm := fun s t hwf he => by
  rcases step_kept_or_start he with ⟨f, h⟩ | ⟨hmem, -⟩
  · exact h.memory hwf
  · rwa [hmem]

/-- Settles O9, by the laws of each operation on the alarm table. -/
theorem stepKeepsAlarmLaws : Obligations.StepKeepsAlarmLaws := fun s t hl he => by
  rcases step_kept_or_start he with ⟨f, h⟩ | ⟨-, -, -, -, halarms, -⟩
  · exact h.alarms hl
  · exact halarms ▸ alarmsAtStart_lawful

/-- Settles O10: a coin is taken within the limit alone, and every other move of money keeps or lowers total
credit. -/
theorem stepKeepsCreditLimit : Obligations.StepKeepsCreditLimit := fun s t hl he => by
  rcases step_kept_or_start he with ⟨f, h⟩ | ⟨-, hset, hcoin, -⟩
  · exact h.credit hl
  · refine ⟨hset ▸ builtInSettings_inRange.2.2.1, ?_⟩
    rw [hcoin]
    decide

/-- Settles O11: each move of money between the purse and the totals keeps both balances, and a start leaves an empty
purse beside totals of 0. -/
theorem stepKeepsMoneyBalances : Obligations.StepKeepsMoneyBalances := fun s t hb hr hroom he => by
  rcases step_kept_or_start he with ⟨f, h⟩ | ⟨-, -, hcoin, -, -, hcash, -⟩
  · exact (h.money ⟨⟨hb, hr, (Nat.le_add_right _ _).trans_lt (hroom 0)⟩, hroom⟩).balances
  · rw [State.moneyBalances, hcoin, hcash]
    decide

/-- Settles O12: joining, an increment and a posting each keep their list lawful. -/
theorem stepKeepsQueueLaws : Obligations.StepKeepsQueueLaws := fun s t hl he => by
  rcases step_kept_or_start he with ⟨f, h⟩ | ⟨-, -, -, hnumber, -, -, htal, hqueue⟩
  · exact h.queues hl
  · refine (State.queuesLawful_iff t).2 ⟨?_, ?_, ?_⟩
    · rcases hqueue with hq | hq <;> simp [hq]
    · simp [htal, talliesLawful]
    · simp [hnumber, numberAtStart]

/-- Settles O13: the settings change at a load alone, to those of a clamped block or to the built-in ones. -/
theorem stepKeepsSettingsInRange : Obligations.StepKeepsSettingsInRange := fun s t hl he => by
  rcases step_kept_or_start he with ⟨f, h⟩ | ⟨-, hset, -⟩
  · exact h.settings hl
  · exact hset ▸ builtInSettings_inRange

/-- Settles O14. -/
theorem resetHasTheInvariants : Obligations.ResetHasTheInvariants := by
  refine ⟨State.reset_mem_wf, alarmsAtStart_lawful, ⟨builtInSettings_inRange.2.2.1, by decide⟩, by
    rw [State.moneyBalances]; decide, ?_, builtInSettings_inRange⟩
  refine (State.queuesLawful_iff _).2 ⟨?_, ?_, ?_⟩ <;> simp [State.reset, talliesLawful, numberAtStart]
end

section
/-! SUPPORT. The machine and its queue: every well-formed command goes on, a held part acts on nothing, and a command
of part work without work leaves the state. -/

namespace Sys2Proof.Machine

variable {s t : State} {c : Instr}

/-! ### Going on -/

theorem next_congr (h : s = t) : (.next s : Result) = .next t := congrArg _ h

theorem checkAccess_of_wellFormed {addr : Nat} {size : AccessSize} (h : accessWellFormed addr size = true) (r : Result) :
    checkAccess addr size r = r := by
  simp only [accessWellFormed, Bool.and_eq_true, decide_eq_true_eq] at h
  obtain ⟨haddr, heven⟩ := h
  unfold checkAccess
  rw [if_neg (by omega)]
  cases size with
  | byte => rfl
  | word => exact if_pos (by simpa using heven)

/-- A well-formed command never stops. -/
theorem exec_goes (hc : c.wellFormed = true) (s : State) : ∃ t, exec c s = .next t := by
  cases c
  case hostWrite addr size v => exact ⟨_, checkAccess_of_wellFormed hc _⟩
  case protectedWrite addr size v => exact ⟨_, checkAccess_of_wellFormed hc _⟩
  all_goals exact ⟨_, rfl⟩

theorem exec_supply_pending (hc : c.commandClass = .supply) (he : exec c s = .next t) : t.pending = s.pending := by
  cases c <;> try cases hc
  case powerFail | resetLineAssert => cases he; rfl
  case powerOn | resetLine => cases he; split <;> rfl

/-- No command changes the queue of commands. -/
theorem exec_pending (he : exec c s = .next t) : t.pending = s.pending := by
  by_cases hc : c.commandClass = .supply
  · exact exec_supply_pending hc he
  · exact (exec_kept hc he).pending

/-- A step over a queue of well-formed commands goes on, and takes the front command off the queue. -/
theorem step_goes (h : s.queueWellFormed) :
    ∃ t, step s = .next t ∧ t.queueWellFormed ∧ t.pending = s.pending.tail := by
  unfold step
  split
  · rename_i hq
    exact ⟨_, rfl, h, by simp [hq]⟩
  · rename_i c rest hq
    rw [State.queueWellFormed, hq] at h
    obtain ⟨hc, hrest⟩ := List.forall_mem_cons.1 h
    obtain ⟨t, ht⟩ := exec_goes hc (s.updPending fun _ => rest)
    have hp : t.pending = rest := exec_pending ht
    exact ⟨t, ht, by rwa [State.queueWellFormed, hp], by rw [hp, hq]; rfl⟩

theorem run_goes (n : Nat) (h : s.queueWellFormed) : ∃ t, Host.Core.run core n s = .next t := by
  induction n generalizing s with
  | zero => exact ⟨s, rfl⟩
  | succ n ih =>
    obtain ⟨t, ht, htq, -⟩ := step_goes h
    obtain ⟨u, hu⟩ := ih htq
    refine ⟨u, ?_⟩
    have hstep : core.step s = .next t := ht
    simp only [Host.Core.run, hstep, hu]

/-! ### A held part -/

theorem State.whenLive_of_held (h : s.isHeld = true) (f : State → State) : s.whenLive f = s := if_pos h

theorem State.holdsHost_of_held (h : s.isHeld = true) : s.holdsHost = true := by simp [State.holdsHost, h]

theorem State.holdsHost_of_not_restored (h : s.restored = false) : s.holdsHost = true := by
  simp [State.holdsHost, h]

theorem State.hostAccess_of_holds (h : s.holdsHost = true) (c : Instr) (f : State → State) :
    s.hostAccess c f = { s with path := { s.path with busWait := s.path.busWait ++ [c] } } := if_pos h

theorem State.partTurn_of_held (h : s.isHeld = true) : s.partTurn = s := if_pos h

theorem State.releaseBus_of_holds (h : s.holdsHost = true) : s.releaseBus = s := if_pos h

theorem State.debounces_of_held (h : s.isHeld = true) : s.debounces = false := by simp [State.debounces, h]

/-- A held access of the host waits on the bus, whatever it is. -/
theorem exec_hostAccess_of_holds (h : s.holdsHost = true) (hw : c.wellFormed = true)
    (hc : c.commandClass = .hostAccess) :
    exec c s = .next { s with path := { s.path with busWait := s.path.busWait ++ [c] } } := by
  cases c <;> try cases hc
  case hostWrite addr size v =>
    exact (checkAccess_of_wellFormed hw _).trans (next_congr (s.hostAccess_of_holds h _ _))
  case protectedWrite addr size v =>
    exact (checkAccess_of_wellFormed hw _).trans (next_congr (s.hostAccess_of_holds h _ _))
  all_goals exact next_congr (s.hostAccess_of_holds h _ _)

theorem exec_event_of_held (h : s.isHeld = true) (hc : c.commandClass = .event) : exec c s = .next s := by
  cases c <;> try cases hc
  all_goals exact next_congr (s.whenLive_of_held h _)

theorem exec_portWork_of_held (h : s.isHeld = true) (hc : c.commandClass = .portWork) : exec c s = .next s := by
  cases c <;> try cases hc
  case partWordTurn =>
    refine next_congr (?_ : s.partTurn.releaseBus = s)
    rw [State.partTurn_of_held h, State.releaseBus_of_holds (State.holdsHost_of_held h)]
  all_goals exact next_congr (s.whenLive_of_held h _)

/-! ### A run without work -/

theorem State.isNext_of_no_work (h : s.path.partQueue = []) (r : Requester) : s.isNext r = false := by
  simp [State.isNext, h]

theorem State.partTurn_of_no_work (h : s.path.partQueue = []) : s.partTurn = s := by
  simp only [State.partTurn, h]
  split <;> rfl

theorem State.whenLive_of_id {f : State → State} (h : f s = s) : s.whenLive f = s := by
  unfold State.whenLive
  split
  · rfl
  · exact h

theorem exec_portWork_of_no_work (hc : c.commandClass = .portWork) (hq : s.path.partQueue = [])
    (hb : s.path.busWait = []) : exec c s = .next s := by
  have hrun : ∀ {ready : State → Bool}, ready s = false → s.turnsUntil ready = s := fun h =>
    s.turnsUntil_of_no_work h hq
  have hnext := s.isNext_of_no_work hq
  cases c <;> try cases hc
  case partWordTurn =>
    refine next_congr (?_ : s.partTurn.releaseBus = s)
    rw [State.partTurn_of_no_work hq, State.releaseBus_of_empty hb]
  case prefixMatchEnd => exact next_congr (State.whenLive_of_id (hrun (by simp [State.atMatchEnd, hnext])))
  case zoneEntryReadEnd => exact next_congr (State.whenLive_of_id (hrun (by simp [State.atEntryEnd, hnext])))
  case snapshotReadEnd => exact next_congr (State.whenLive_of_id (hrun (by simp [State.atSnapshotEnd, hnext])))
  case recordPublish => exact next_congr (State.whenLive_of_id (hrun (by simp [State.atPublish, hnext])))
  case writeBackEnd => exact next_congr (State.whenLive_of_id (hrun (by simp [State.atWriteBackEnd, hnext])))
  case commandResponseWritten =>
    exact next_congr (State.whenLive_of_id (hrun (by simp [State.atResponseEnd, hnext])))
  case ringHeaderReadEnd => exact next_congr (State.whenLive_of_id (hrun (by simp [State.atHeaderEnd, hnext])))
  case restoreReadEnd => exact next_congr (State.whenLive_of_id (hrun (by simp [State.atRestoreEnd, hnext])))
  case setupLoadEnd | reloadSetupReadEnd =>
    exact next_congr (State.whenLive_of_id (hrun (by simp [State.atLoadEnd, hnext])))

end Sys2Proof.Machine

open Sys2Proof Sys2Proof.Machine

/-- Settles O1. -/
theorem frontCommandRuns : Obligations.FrontCommandRuns := by
  intro c rest s hq
  rw [step, hq]
  rfl

/-- Settles O2: each run waits for a requester at the front of the part queue. -/
theorem ticksAndRunsWithoutWork : Obligations.TicksAndRunsWithoutWork := by
  refine ⟨fun s hq => ?_, fun c s hc hq hb => exec_portWork_of_no_work hc hq hb⟩
  unfold step
  split
  · rfl
  · rename_i h
    cases hq.symm.trans h

/-- Settles O3, by induction over the run: a step takes a well-formed command off the queue and adds none. -/
theorem wellFormedRunsNeverStop : Obligations.WellFormedRunsNeverStop := by
  refine ⟨⟨fun s h => step_goes h, fun n s h => run_goes n h⟩, fun addr size v s h => ?_, fun addr v s h hodd => ?_,
    fun c s hc => ?_⟩
  · exact ⟨if_pos h, if_pos h⟩
  · have hstop (r : Result) : checkAccess addr .word r = .refused (.oddWordAccess addr) := by
      rw [checkAccess, if_neg (show ¬ addressSpace ≤ addr by simp only [addressSpace]; omega)]
      exact if_neg (by omega)
    exact ⟨hstop _, hstop _⟩
  · obtain ⟨t, ht⟩ := exec_goes hc s
    exact ⟨t, ht, exec_pending ht⟩

/-- Settles O4: no event acts while the part is held, and every access of the host waits during the hold. -/
theorem heldPartActsOnNothing : Obligations.HeldPartActsOnNothing := by
  refine ⟨fun c s h hw => ⟨?_, fun hc => exec_hostAccess_of_holds (State.holdsHost_of_held h) hw hc⟩, fun s h => ?_,
    fun c s h hw hc => exec_hostAccess_of_holds (State.holdsHost_of_not_restored h) hw hc⟩
  · rintro (hc | hc)
    · exact exec_event_of_held h hc
    · exact exec_portWork_of_held h hc
  · have hlive (f : Pins → Pins) (g : State → State) : (s.updPins f).whenLive g = s.updPins f :=
      State.whenLive_of_held (s := s.updPins f) h g
    have hstays (f : Pins → Pins) : (s.updPins f).debounces = false := State.debounces_of_held (s := s.updPins f) h
    have hpin {p : Prop} [Decidable p] {f : Pins → Pins} {t : State} (hsame : p → f s.pins = s.pins)
        (hmove : t = s.updPins f) : (if p then s else t) = { s with pins := f s.pins } := by
      split
      · rename_i hp
        rw [hsame hp]
      · exact hmove
    refine ⟨next_congr (hpin (fun hp => ?_) (hlive _ _)), rfl, fun b => ⟨?_, ?_, ?_, ?_, ?_, ?_, fun i => ?_⟩⟩
    · rw [← hp]
    · exact next_congr (hpin (f := fun p => { p with leverPressed := b }) (fun hp => by rw [← hp]) (if_neg (by simp [hstays])))
    · exact next_congr (hpin (f := fun p => { p with onHook := b }) (fun hp => by rw [← hp]) (if_neg (by simp [hstays])))
    · exact next_congr (hpin (fun hp => by rw [← hp]) (hlive _ _))
    · exact next_congr (hpin (fun hp => by rw [← hp]) (hlive _ _))
    · exact next_congr (hpin (fun hp => by rw [← hp]) (hlive _ _))
    · exact next_congr (hpin (fun hp => by rw [← hp]) (hlive _ _))
    · exact next_congr (hpin (f := fun p => { p with tamper := p.tamper.set i b })
        (fun hp => by rw [← hp]; cases i <;> rfl) (if_neg (by simp [hstays])))

/-- Settles O5, by the operations of the events, each of which leaves what no event changes. -/
theorem eventsLeaveMemoryAndSettings : Obligations.EventsLeaveMemoryAndSettings := by
  intro c s t hc he
  have hsplit {u : State} (h : t.still = u.still) : t.mem = u.mem ∧ t.setup = u.setup ∧ t.clock = u.clock ∧
      t.pins = u.pins ∧ t.status.mask = u.status.mask ∧ t.mailbox = u.mailbox ∧ t.path.busWait = u.path.busWait := by
    simpa only [State.still, Still.mk.injEq] using h
  rcases hc with hc | hc
  · have h := exec_event_kept true hc he
    obtain ⟨hmem, hsetup, hclock, hpins, hmask, hmailbox, hbus⟩ := hsplit (h.still rfl)
    exact ⟨hmem, hclock, hsetup, hmask, hmailbox, hbus, h.pending, fun _ => hpins⟩
  · obtain ⟨f, h⟩ := exec_inputChange_kept true hc he
    obtain ⟨hmem, hsetup, hclock, -, hmask, hmailbox, hbus⟩ := hsplit (h.still rfl)
    exact ⟨hmem, hclock, hsetup, hmask, hmailbox, hbus, h.pending, fun hev => by simp [hc] at hev⟩

/-- Settles O6. -/
theorem resetIsAPowerOn : Obligations.ResetIsAPowerOn := by
  unfold Obligations.ResetIsAPowerOn
  decide

/-- Settles O7, by the start condition of each block, for each level of the supply and the reset line. -/
theorem supplyAndResetLine : Obligations.SupplyAndResetLine := by
  intro s
  have hwith {p q : PowerState} (hp : p = q) (clock : Clock) (load : Option SetupLoad) (queue : List Requester) :
      s.inStartCondition p clock load queue = s.inStartCondition q clock load queue := by rw [hp]
  refine ⟨fun h => ?_, fun h => ?_, rfl, rfl, fun h => ?_, fun h => ?_⟩
  · exact next_congr ((if_neg (by simp [h])).trans
      (hwith (p := ⟨true, s.power.resetAsserted, .setupLoad, .powerOn⟩) (by rw [h]) _ _ _))
  · exact next_congr ((if_pos h).trans
      (hwith (p := ⟨true, s.power.resetAsserted, .setupLoad, s.power.cause⟩) (by rw [h]) _ _ _))
  · exact next_congr ((if_pos h).trans
      (hwith (p := ⟨s.power.supplyOn, false, .setupLoad, .resetLine⟩) (by rw [h]) _ _ _))
  · exact next_congr (if_neg (by simp [h]))
end

section
/-! SUPPORT. The outputs (R5, R167), the match of a number (R30, R31), the band, the unit and the clock (R67, R70 to R72). -/

namespace Sys2Proof.Machine

/-! ### Outputs -/

theorem ServiceReasons.unavailable_iff (r : ServiceReasons) : r.unavailable = true ↔ r ≠ noReasons := by
  obtain ⟨a, b, c, d, e⟩ := r
  cases a <;> cases b <;> cases c <;> cases d <;> cases e <;> decide

theorem CoinState.inFlight_iff (c : CoinState) : c.inFlight = true ↔ c.op = .collecting ∨ c.op = .refunding := by
  simp [CoinState.inFlight]

theorem InhibitReasons.toNat_ne_zero (r : InhibitReasons) : r.toNat ≠ 0 ↔ r.onHook = true ∨ r.escrowBusy = true ∨
    r.escrowNearFull = true ∨ r.creditCap = true ∨ r.slugCooloff = true ∨ r.service = true := by
  obtain ⟨a, b, c, d, e, f⟩ := r
  cases a <;> cases b <;> cases c <;> cases d <;> cases e <;> cases f <;> decide

/-- Each bit of a set of event flags is the bit of a flag. -/
theorem EventFlag.exists_bit {i : Nat} (h : i < 16) : ∃ f : EventFlag, f.bit = i := by
  have hlist : ([.hook, .coinIn, .coinReject, .number, .call, .creditLow, .dialLow, .dialRefused, .mailboxDone,
      .mailboxRefused, .record, .indexRefused, .alarm, .report, .service, .cash] : List EventFlag).map EventFlag.bit
      = List.range 16 := by decide
  obtain ⟨f, -, hf⟩ := List.mem_map.1 (hlist ▸ List.mem_range.2 h)
  exact ⟨f, hf⟩

theorem EventFlag.bit_lt (f : EventFlag) : f.bit < 16 := by
  cases f <;> decide

/-- A set of event flags is empty when no flag stands in it. -/
theorem eventSet_ne_zero_iff (set : EventSet) : set ≠ 0#16 ↔ ∃ f : EventFlag, f.isIn set = true := by
  constructor
  · intro h
    by_contra hnone
    refine h (BitVec.eq_of_getLsbD_eq fun i hi => ?_)
    obtain ⟨f, rfl⟩ := EventFlag.exists_bit hi
    simpa [EventFlag.isIn] using fun hf => hnone ⟨f, hf⟩
  · rintro ⟨f, hf⟩ rfl
    simp [EventFlag.isIn] at hf

theorem State.acceptInhibit_iff {s : State} (h : s.isHeld = false) : s.acceptInhibit = true ↔
    s.hook.phase ≠ .offHook ∨ s.coin.inFlight = true ∨ 7 ≤ s.coin.escrow.length ∨
      s.setup.settings.creditCap ≤ s.coin.totalCredit ∨ s.coin.cooloffTimer ≠ none ∨
      s.coin.reasons.unavailable = true := by
  rw [State.acceptInhibit, h, Bool.false_or, bne_iff_ne, InhibitReasons.toNat_ne_zero]
  simp only [State.inhibitReasons, bne_iff_ne, decide_eq_true_eq, ← Option.isSome_iff_ne_none]
  rfl

theorem State.nattAsserted_iff {s : State} (h : s.isHeld = false) : s.nattAsserted = true ↔
    ∃ f : EventFlag, f.isIn s.status.flags = true ∧ f.isIn s.status.mask = true := by
  rw [State.nattAsserted, h, Bool.not_false, Bool.true_and, bne_iff_ne, eventSet_ne_zero_iff]
  simp only [EventFlag.isIn, State.maskedFlags, BitVec.getLsbD_and, Bool.and_eq_true]

/-! ### The match of a number (R31) -/

theorem field_eq (w : Word) (low width : Nat) : field w low width = w.toNat / 2 ^ low % 2 ^ width := rfl

theorem field_high (w : Word) : field w 12 4 = w.toNat / 4096 := by
  have := w.isLt
  rw [field_eq]
  omega

theorem nibblesOf_eq (w : Word) :
    nibblesOf w = [w.toNat % 16, w.toNat / 16 % 16, w.toNat / 256 % 16, w.toNat / 4096] := by
  rw [nibblesOf, field_high]
  simp only [field_eq, Nat.pow_zero, Nat.div_one]
  rfl

theorem PrefixEntry.fits_iff (p : PrefixEntry) (digits : List Nat) : p.fits digits = true ↔
    1 ≤ p.length ∧ p.length ≤ digits.length ∧ (∀ c ∈ p.symbols.take p.length, c ≤ 11) ∧
      p.symbols.take p.length = digits.take p.length := by
  simp only [PrefixEntry.fits, Bool.and_eq_true, decide_eq_true_eq, List.all_eq_true, beq_iff_eq, Nat.lt_succ_iff,
    and_assoc, Nat.pos_iff_ne_zero, Nat.one_le_iff_ne_zero]

/-- Among the first `n` entries the best is one that fits, is the longest, and has the lowest index of those as
long; there is none when no entry fits. -/
def bestAmong (ws : List Word) (digits : List Nat) (n : Nat) (best : Option Nat) : Prop :=
  (∀ e, best = some e → e < n ∧ (prefixEntry ws e).fits digits = true ∧
    ∀ j, j < n → (prefixEntry ws j).fits digits = true →
      (prefixEntry ws j).length ≤ (prefixEntry ws e).length ∧
        ((prefixEntry ws j).length = (prefixEntry ws e).length → e ≤ j)) ∧
  (best = none ↔ ∀ j, j < n → (prefixEntry ws j).fits digits = false)

/-- One entry more is compared with the best so far (R31). -/
theorem bestAmong_succ {ws : List Word} {digits : List Nat} {n : Nat} {best : Option Nat}
    (h : bestAmong ws digits n best) : bestAmong ws digits (n + 1) (betterMatch ws digits best n) := by
  obtain ⟨hsome, hnone⟩ := h
  unfold betterMatch
  split
  · rename_i hfit
    split
    · have hall := hnone.1 rfl
      refine ⟨?_, by simpa using ⟨n, by omega, hfit⟩⟩
      rintro e ⟨⟩
      refine ⟨by omega, hfit, fun j hj hjfit => ?_⟩
      rcases Nat.lt_succ_iff_lt_or_eq.1 hj with hlt | rfl
      · simp [hall j hlt] at hjfit
      · simp
    · rename_i b
      obtain ⟨hb, hbfit, hbbest⟩ := hsome b rfl
      split
      · rename_i hlonger
        refine ⟨?_, by simpa using ⟨n, by omega, hfit⟩⟩
        rintro e ⟨⟩
        refine ⟨by omega, hfit, fun j hj hjfit => ?_⟩
        rcases Nat.lt_succ_iff_lt_or_eq.1 hj with hlt | rfl
        · have := (hbbest j hlt hjfit).1
          omega
        · simp
      · rename_i hshorter
        refine ⟨?_, by simpa using ⟨b, by omega, hbfit⟩⟩
        rintro e ⟨⟩
        refine ⟨by omega, hbfit, fun j hj hjfit => ?_⟩
        rcases Nat.lt_succ_iff_lt_or_eq.1 hj with hlt | rfl
        · exact hbbest j hlt hjfit
        · omega
  · rename_i hfit
    refine ⟨fun e he => ?_, hnone.trans ⟨fun hall j hj => ?_, fun hall j hj => hall j (by omega)⟩⟩
    · obtain ⟨hlt, hefit, hbest⟩ := hsome e he
      refine ⟨by omega, hefit, fun j hj hjfit => ?_⟩
      rcases Nat.lt_succ_iff_lt_or_eq.1 hj with hlt | rfl
      · exact hbest j hlt hjfit
      · exact absurd hjfit hfit
    · rcases Nat.lt_succ_iff_lt_or_eq.1 hj with hlt | rfl
      · exact hall j hlt
      · simpa using hfit

theorem bestAmong_foldl (ws : List Word) (digits : List Nat) (n : Nat) :
    bestAmong ws digits n ((List.range n).foldl (betterMatch ws digits) none) := by
  induction n with
  | zero => exact ⟨by simp, by simp⟩
  | succ n ih =>
    rw [List.range_succ, List.foldl_append]
    exact bestAmong_succ ih

/-! ### The band and the unit -/

theorem byteAt_eq (ws : List Word) (k : Nat) : byteAt ws k =
    if k % 2 = 0 then (ws.getD (k / 2) 0#16).toNat % 256 else (ws.getD (k / 2) 0#16).toNat / 256 := by
  unfold byteAt
  rw [lowByte_toNat, highByte_toNat]
  rfl

theorem bandLookup_unset {snap : Snapshot} {c : Clock} (h : c.isSet = false) :
    bandLookup snap c = (.day, RatingFlag.clockUnset.only) := by
  simp [bandLookup, h]

theorem bandLookup_set {snap : Snapshot} {c : Clock} (h : c.isSet = true) : bandLookup snap c =
    match Band.ofCode (byteAt snap.bandMap (48 * (dayType snap c).row + slotOf c)) with
    | some b => (b, 0#8)
    | none => (.day, RatingFlag.fallbackRate.only) := by
  simp only [bandLookup, h, if_true] <;> rfl

theorem Band.ofCode_none {n : Nat} (h : 4 ≤ n) : Band.ofCode n = none := by
  obtain ⟨k, rfl⟩ := Nat.exists_eq_add_of_le' h
  rfl

/-- The unit of a moment takes its band's charge and length, with the flags of the lookup and of the clamp. -/
theorem ratedUnit_of_lookup {snap : Snapshot} {c : Clock} {b : Band} {flags : RatingFlags}
    (h : bandLookup snap c = (b, flags)) :
    ratedUnit snap c = (⟨b, (snap.effective b).1, (snap.terms b).length⟩, flags ||| (snap.effective b).2) := by
  simp only [ratedUnit, h]

theorem effectiveCharge_range (base m : Nat) (a : Int) :
    1 ≤ (effectiveCharge base m a).1 ∧ (effectiveCharge base m a).1 ≤ 9999 := by
  simp only [effectiveCharge]
  split
  · decide
  split
  · decide
  · dsimp only
    omega

theorem effectiveCharge_between {base m : Nat} {a : Int} (hlow : 1 ≤ (multiplied base m : Int) + a)
    (hhigh : (multiplied base m : Int) + a ≤ 9999) :
    effectiveCharge base m a = (((multiplied base m : Int) + a).toNat, 0#8) := by
  simp only [effectiveCharge]
  rw [if_neg (by omega), if_neg (by omega)]

theorem ratedUnit_charge_range (snap : Snapshot) (c : Clock) :
    1 ≤ (ratedUnit snap c).1.charge ∧ (ratedUnit snap c).1.charge ≤ 9999 :=
  effectiveCharge_range _ _ _

/-! ### The clock -/

/-- A clock in range: a date that exists, or 29 February as SET_CLOCK may leave it (R67, R68). -/
def Clock.inRange (c : Clock) : Prop :=
  (1 ≤ c.month ∧ c.month ≤ 12) ∧ (1 ≤ c.day ∧ c.day ≤ (if c.month = 2 then 29 else monthLength c.month)) ∧
    (1 ≤ c.weekday ∧ c.weekday ≤ 7) ∧ c.hour ≤ 23 ∧ c.minute ≤ 59 ∧ c.second ≤ 59

theorem monthLength_range (m : Nat) : 28 ≤ monthLength m ∧ monthLength m ≤ 31 := by
  unfold monthLength
  split <;> omega

/-- The day after a day in range is in range; the date moves on by R67. -/
theorem Clock.nextDay_spec {c : Clock} (h : c.inRange) :
    c.nextDay.inRange ∧ c.nextDay.isSet = c.isSet ∧ c.nextDay.hour = c.hour ∧ c.nextDay.minute = c.minute ∧
      c.nextDay.second = c.second ∧ c.nextDay.weekday = c.weekday % 7 + 1 ∧
      (c.day < monthLength c.month → c.nextDay.day = c.day + 1 ∧ c.nextDay.month = c.month) ∧
      (monthLength c.month ≤ c.day → c.nextDay.day = 1 ∧ c.nextDay.month = c.month % 12 + 1) := by
  obtain ⟨⟨hm1, hm2⟩, ⟨hd1, hd2⟩, ⟨hw1, hw2⟩, htime⟩ := h
  have hweekday : (if c.weekday = 7 then 1 else c.weekday + 1) = c.weekday % 7 + 1 := by split <;> omega
  have hmonth : (if c.month = 12 then 1 else c.month + 1) = c.month % 12 + 1 := by split <;> omega
  have hwnext : 1 ≤ c.weekday % 7 + 1 ∧ c.weekday % 7 + 1 ≤ 7 := by omega
  have hmnext : 1 ≤ c.month % 12 + 1 ∧ c.month % 12 + 1 ≤ 12 := by omega
  simp only [Clock.nextDay, hweekday, hmonth]
  split
  · rename_i hend
    have hnext := monthLength_range (c.month % 12 + 1)
    refine ⟨⟨hmnext, ⟨le_refl _, ?_⟩, hwnext, htime⟩, rfl, rfl, rfl, rfl, rfl, fun _ => by omega, fun _ => ⟨rfl, rfl⟩⟩
    dsimp only
    split <;> omega
  · rename_i hend
    refine ⟨⟨⟨hm1, hm2⟩, ⟨Nat.le_add_left _ _, ?_⟩, hwnext, htime⟩, rfl, rfl, rfl, rfl, rfl, fun _ => ⟨rfl, rfl⟩, fun _ => by omega⟩
    dsimp only
    split
    · rename_i h2
      rw [h2] at hend
      simp only [monthLength] at hend
      omega
    · omega

end Sys2Proof.Machine

open Sys2Proof Sys2Proof.Machine

/-- Settles O15: each output by its own reasons, one bit for each. -/
theorem outputsFollowTheirConditions : Obligations.OutputsFollowTheirConditions := by
  intro s
  refine ⟨fun h => ⟨?_, State.nattAsserted_iff h⟩, fun h => by simp [State.acceptInhibit, State.nattAsserted, h]⟩
  rw [State.acceptInhibit_iff h, CoinState.inFlight_iff, ServiceReasons.unavailable_iff, or_assoc]

/-- Settles O17, by induction over the entries compared. -/
theorem longestPrefixWins : Obligations.LongestPrefixWins := by
  refine ⟨fun ws e => ?_, PrefixEntry.fits_iff, fun ws digits => ?_⟩
  · refine ⟨?_, rfl, ?_, ?_, ?_⟩
    · simp only [prefixEntry, field_eq, wordAt, Nat.pow_zero, Nat.div_one, Nat.add_zero, Nat.lt_iff_add_one_le]
      rfl
    · simp only [prefixEntry, field_eq, Nat.pow_zero, Nat.div_one]
      rfl
    · simp only [prefixEntry, field_eq, Nat.pow_zero, Nat.div_one]
      rfl
    · simp only [prefixEntry, nibblesAt, nibblesOf_eq, List.append_nil, List.cons_append, List.nil_append]
      rfl
  · exact bestAmong_foldl ws digits 64

/-- Settles O19: the lookup by the byte of the map, the charge by its clamps. -/
theorem effectiveUnitCharge : Obligations.EffectiveUnitCharge := by
  refine ⟨fun snap c => ?_, fun snap c hs hp1 hp4 => ?_, fun base m a => ?_⟩
  · intro row place pair code found
    have hcode : byteAt snap.bandMap (48 * (dayType snap c).row + slotOf c) = code := byteAt_eq _ _
    refine ⟨fun h => ratedUnit_of_lookup (bandLookup_unset h), fun h => ?_⟩
    have hlookup := bandLookup_set (snap := snap) h
    rw [hcode] at hlookup
    refine ⟨fun hc => ?_, fun hc => ?_, fun hc => ?_, fun hc => ?_, fun hc => ?_⟩
    · exact ratedUnit_of_lookup (hlookup.trans (by rw [hc]; rfl))
    · exact ratedUnit_of_lookup (hlookup.trans (by rw [hc]; rfl))
    · exact ratedUnit_of_lookup (hlookup.trans (by rw [hc]; rfl))
    · exact ratedUnit_of_lookup (hlookup.trans (by rw [hc]; rfl))
    · exact ratedUnit_of_lookup (hlookup.trans (by rw [Band.ofCode_none hc]))
  · obtain ⟨h1, h2⟩ := ratedUnit_charge_range snap c
    have hlow : 1 * 1 ≤ snap.depositUnits * (ratedUnit snap c).1.charge := Nat.mul_le_mul hp1 h1
    have hhigh : snap.depositUnits * (ratedUnit snap c).1.charge ≤ 4 * 9999 := Nat.mul_le_mul hp4 h2
    exact ⟨rfl, by simp only [requiredDeposit]; omega, by simp only [requiredDeposit]; omega⟩
  · intro q
    have hq : q = multiplied base m := rfl
    refine ⟨?_, fun h => if_pos h, fun h => ?_, fun h1 h2 => ?_, effectiveCharge_range _ _ _⟩
    · have hassoc : 2 * base * m = 2 * (base * m) := mul_assoc _ _ _
      omega
    · rw [hq] at h
      simp only [effectiveCharge]
      rw [if_neg (by omega), if_pos h]
    · rw [effectiveCharge_between h1 h2]
      exact ⟨Int.toNat_of_nonneg (by omega), rfl⟩

/-- Settles O20, by the place at which the carry of a second stops. -/
theorem clockCountsSeconds : Obligations.ClockCountsSeconds := by
  refine ⟨fun c h => ?_, fun s => ⟨fun h => next_congr (if_pos h), fun h => next_congr (if_neg (by simp [h]))⟩⟩
  obtain ⟨hmonth, hday, hweekday, hhour, hminute, hsecond⟩ := h
  intro n
  unfold n Clock.nextSecond
  split
  · exact ⟨hmonth, hday, hweekday, hhour, hminute, by dsimp only; omega, rfl, by dsimp only; omega,
      fun _ => ⟨rfl, rfl, rfl⟩, fun _ => by omega⟩
  split
  · exact ⟨hmonth, hday, hweekday, hhour, by dsimp only; omega, by dsimp only; omega, rfl, by dsimp only; omega,
      fun _ => ⟨rfl, rfl, rfl⟩, fun _ => by omega⟩
  split
  · exact ⟨hmonth, hday, hweekday, by dsimp only; omega, by dsimp only; omega, by dsimp only; omega, rfl,
      by dsimp only; omega, fun _ => ⟨rfl, rfl, rfl⟩, fun _ => by omega⟩
  · have hmidnight : Clock.inRange { c with second := 0, minute := 0, hour := 0 } :=
      ⟨hmonth, hday, hweekday, Nat.zero_le _, Nat.zero_le _, Nat.zero_le _⟩
    obtain ⟨⟨hm, hd, hw, hh, hmin, hsec⟩, hset, h0, h1, h2, hweek, hin, hend⟩ := Clock.nextDay_spec hmidnight
    refine ⟨hm, hd, hw, hh, hmin, hsec, hset, ?_, fun _ => by omega, fun _ => ⟨hweek, hin, hend⟩⟩
    rw [h0, h1, h2]
    dsimp only
    omega
end

section
/-! SUPPORT. The operations on the whole alarm table (R117 to R119), the report message (R130), and the words of a
write-back as a restore reads them (R149, R190). -/

namespace Sys2Proof.Machine

/-! ### An operation on each kind of a list -/

section Fold

variable {op : AlarmState → AlarmKind → AlarmState} {f : AlarmEntry → AlarmEntry}

/-- An operation that changes the entry of its kind alone, done once for each kind of a list. -/
theorem AlarmState.get_foldl (hsame : ∀ a k, (op a k).get k = f (a.get k))
    (hother : ∀ a j k, j ≠ k → (op a k).get j = a.get j) {l : List AlarmKind} (hl : l.Nodup) (a : AlarmState)
    (k : AlarmKind) : (l.foldl op a).get k = if k ∈ l then f (a.get k) else a.get k := by
  induction l generalizing a with
  | nil => rfl
  | cons j l ih =>
    obtain ⟨hj, hl⟩ := List.nodup_cons.1 hl
    rw [List.foldl_cons, ih hl]
    by_cases hk : k = j
    · subst hk
      simp [hj, hsame]
    · simp [hk, hother _ _ _ hk]

theorem AlarmState.queue_foldl (hqueue : ∀ a k, (op a k).queue = a.queue) (l : List AlarmKind) (a : AlarmState) :
    (l.foldl op a).queue = a.queue := by
  induction l generalizing a with
  | nil => rfl
  | cons j l ih => rw [List.foldl_cons, ih, hqueue]

end Fold

theorem AlarmState.fail_get (a : AlarmState) (k : AlarmKind) : a.fail.get k = (a.get k).unreported := by
  rw [AlarmState.fail, AlarmState.get_foldl (f := AlarmEntry.unreported) (fun a k => by simp)
    (fun a j k h => AlarmState.get_put_other a _ h) AlarmKind.all_nodup, if_pos (AlarmKind.mem_all k)]

theorem AlarmState.fail_queue (a : AlarmState) : a.fail.queue = a.queue :=
  AlarmState.queue_foldl (fun _ _ => AlarmState.put_queue _ _ _) _ _

theorem AlarmEntry.unreported_eq (e : AlarmEntry) :
    e.unreported = if e.phase = .reporting then { e with phase := .raised, carried := 0 } else e := by
  obtain ⟨phase, count, carried, first, last⟩ := e
  cases phase <;> rfl

/-- What a clear leaves of an entry (R119). -/
def AlarmEntry.cleared (e : AlarmEntry) : AlarmEntry := if e.phase.clearable then quietEntry else e

theorem AlarmState.clear_get_same (a : AlarmState) (k : AlarmKind) : (a.clear k).get k = (a.get k).cleared := by
  simp only [AlarmState.clear, AlarmEntry.cleared]
  split <;> simp

theorem AlarmState.clear_get_other (a : AlarmState) (j k : AlarmKind) (h : j ≠ k) : (a.clear k).get j = a.get j := by
  simp only [AlarmState.clear]
  split
  · exact AlarmState.get_put_other a _ h
  · rfl

theorem AlarmState.clear_queue (a : AlarmState) (k : AlarmKind) : (a.clear k).queue = a.queue := by
  simp only [AlarmState.clear]
  split <;> simp

theorem AlarmState.clearAll_get (a : AlarmState) (k : AlarmKind) : a.clearAll.get k = (a.get k).cleared := by
  rw [AlarmState.clearAll, AlarmState.get_foldl AlarmState.clear_get_same AlarmState.clear_get_other
    AlarmKind.all_nodup, if_pos (AlarmKind.mem_all k)]

theorem AlarmState.clearAll_queue (a : AlarmState) : a.clearAll.queue = a.queue :=
  AlarmState.queue_foldl AlarmState.clear_queue _ _

theorem AlarmEntry.cleared_eq (e : AlarmEntry) :
    e.cleared = if e.phase = .reported ∨ e.phase = .noted then ⟨.quiet, 0, 0, none, none⟩ else e := by
  obtain ⟨phase, count, carried, first, last⟩ := e
  cases phase <;> rfl

/-! ### The acknowledgement (R117) -/

/-- What an acknowledgement leaves of an entry. -/
def AlarmEntry.settled (e : AlarmEntry) : AlarmEntry :=
  if e.phase = .reporting then
    if e.count ≤ e.carried then { e with phase := .reported, count := 0, carried := 0 }
    else { e with phase := .raised, count := e.count - e.carried, carried := 0 }
  else e

/-- An acknowledgement leaves the kind something to report. -/
def AlarmEntry.leftOver (e : AlarmEntry) : Bool := e.phase == .reporting && decide (e.carried < e.count)

theorem AlarmState.settle_get_same (a : AlarmState) (k : AlarmKind) : (a.settle k).get k = (a.get k).settled := by
  simp only [AlarmState.settle, AlarmEntry.settled, Nat.sub_eq_zero_iff_le]
  split
  · split <;> simp
  · rfl

theorem AlarmState.settle_get_other (a : AlarmState) (j k : AlarmKind) (h : j ≠ k) : (a.settle k).get j = a.get j := by
  simp only [AlarmState.settle]
  split
  · split <;> simp [AlarmState.get_put_other a _ h]
  · rfl

theorem AlarmState.settle_queue (a : AlarmState) (k : AlarmKind) : (a.settle k).queue =
    (a.queue.filter fun j => !(decide (j = k) && (a.get j).phase == .reporting)) ++ [k].filter fun j => (a.get j).leftOver := by
  have hkeep (h : (a.get k).phase = .reporting) : (a.queue.filter fun j => j != k) =
      a.queue.filter fun j => !(decide (j = k) && (a.get j).phase == .reporting) := by
    refine List.filter_congr fun j _ => ?_
    by_cases hj : j = k
    · simp [hj, h]
    · simp [hj, bne, beq_false_of_ne hj]
  simp only [AlarmState.settle, Nat.sub_eq_zero_iff_le]
  split
  · rename_i h
    split
    · rename_i hc
      simp [AlarmEntry.leftOver, h, hkeep h, Nat.not_lt.2 hc]
    · rename_i hc
      simp [AlarmEntry.leftOver, h, hkeep h, Nat.lt_of_not_le hc]
  · rename_i h
    have hall : (a.queue.filter fun j => !(decide (j = k) && (a.get j).phase == .reporting)) = a.queue := by
      refine List.filter_eq_self.2 fun j _ => ?_
      by_cases hj : j = k
      · simp [hj, h]
      · simp [hj]
    rw [hall]
    simp [AlarmEntry.leftOver, h]

/-- Settling the kinds of a list: the REPORTING ones of them leave the queue, and those with something left join its
newest end in the order of the list. -/
theorem AlarmState.settle_foldl_queue {l : List AlarmKind} (hl : l.Nodup) (a : AlarmState) :
    (l.foldl AlarmState.settle a).queue =
      (a.queue.filter fun j => !(decide (j ∈ l) && (a.get j).phase == .reporting)) ++
        l.filter fun j => (a.get j).leftOver := by
  induction l generalizing a with
  | nil => simp
  | cons k l ih =>
    obtain ⟨hk, hl⟩ := List.nodup_cons.1 hl
    have hget : ∀ j ∈ l, (a.settle k).get j = a.get j := fun j hj =>
      AlarmState.settle_get_other a j k fun h => hk (h ▸ hj)
    have htail : (l.filter fun j => ((a.settle k).get j).leftOver) = l.filter fun j => (a.get j).leftOver :=
      List.filter_congr fun j hj => by rw [hget j hj]
    have hmem (j : AlarmKind) : (!(decide (j ∈ l) && ((a.settle k).get j).phase == .reporting)) =
        !(decide (j ∈ l) && (a.get j).phase == .reporting) := by
      by_cases hj : j ∈ l
      · rw [hget j hj]
      · simp [hj]
    simp only [List.foldl_cons, ih hl, htail, hmem, AlarmState.settle_queue, List.filter_append, List.filter_filter,
      List.filter_cons (xs := l), List.append_assoc]
    congr 1
    · refine List.filter_congr fun j _ => ?_
      by_cases hj : j = k
      · simp [hj, hk]
      · simp [hj]
    · by_cases hleft : (a.get k).leftOver = true
      · simp [hleft, hk]
      · simp [hleft]

theorem AlarmState.acknowledge_get {a : AlarmState} (h : a.lawful) (k : AlarmKind) :
    a.acknowledge.get k = (a.get k).settled := by
  rw [AlarmState.acknowledge, AlarmState.get_foldl AlarmState.settle_get_same AlarmState.settle_get_other h.2.1]
  split
  · rfl
  · rename_i hk
    rw [AlarmEntry.settled, if_neg fun hp => hk ((h.2.2 k).2 (.inr hp))]

theorem AlarmState.acknowledge_queue {a : AlarmState} (h : a.lawful) : a.acknowledge.queue =
    (a.queue.filter fun k => (a.get k).phase != .reporting) ++ a.queue.filter fun k => (a.get k).leftOver := by
  rw [AlarmState.acknowledge, AlarmState.settle_foldl_queue h.2.1]
  congr 1
  refine List.filter_congr fun j hj => ?_
  simp only [hj, decide_true, Bool.true_and]
  rfl

/-! ### The message -/

theorem decimalDigits_two {n : Nat} (h : n ≤ 99) : decimalDigits 2 n = [n / 10, n % 10] := by
  have : n / 10 % 10 = n / 10 := Nat.mod_eq_of_lt (by omega)
  simp [decimalDigits, this]

theorem AlarmKind.code_le (k : AlarmKind) : k.code ≤ 12 := by
  cases k <;> decide

theorem AlarmState.group_eq {a : AlarmState} {k : AlarmKind} (h : (a.get k).carried ≤ 99) :
    a.group k = [k.code / 10, k.code % 10, (a.get k).carried / 10, (a.get k).carried % 10] := by
  rw [AlarmState.group, decimalDigits_two (by have := k.code_le; omega), decimalDigits_two h]
  rfl

theorem vaultDigits_eq (collected : Nat) : vaultDigits collected =
    [min collected 999999 / 100000, min collected 999999 / 10000 % 10, min collected 999999 / 1000 % 10,
      min collected 999999 / 100 % 10, min collected 999999 / 10 % 10, min collected 999999 % 10] := by
  have htop : min collected 999999 / 100000 % 10 = min collected 999999 / 100000 :=
    Nat.mod_eq_of_lt (by omega)
  simp [vaultDigits, decimalDigits, Nat.div_div_eq_div_mul, htop]

theorem flatMap_congr {α β : Type} {f g : α → List β} {l : List α} (h : ∀ x ∈ l, f x = g x) :
    l.flatMap f = l.flatMap g := by
  induction l with
  | nil => rfl
  | cons x l ih =>
    obtain ⟨hx, hl⟩ := List.forall_mem_cons.1 h
    rw [List.flatMap_cons, List.flatMap_cons, hx, ih hl]

theorem length_flatMap_four {α : Type} {f : α → List Nat} (h : ∀ x, (f x).length = 4) (l : List α) :
    (l.flatMap f).length = 4 * l.length := by
  induction l with
  | nil => rfl
  | cons x l ih => rw [List.flatMap_cons, List.length_append, h, ih, List.length_cons]; omega

end Sys2Proof.Machine

open Sys2Proof Sys2Proof.Machine

/-- Settles O22, entry by entry and by the queue that each operation leaves. -/
theorem alarmTableRules : Obligations.AlarmTableRules := by
  refine ⟨fun a k enabled t => ⟨fun h => ?_, fun h => ?_, fun j hj => ?_⟩, fun a h => ⟨?_, ?_⟩,
    fun a => ⟨fun k => ?_, a.fail_queue, fun k => ?_, a.clearAll_queue⟩⟩
  · have hout : (a.get k).phase.outOfCycle = true := by rcases h with h | h <;> rw [h] <;> rfl
    cases enabled <;> simp [AlarmState.occur, hout, cycleEntry]
  · have hin : (a.get k).phase.outOfCycle = false := by rcases h with h | h | h <;> rw [h] <;> rfl
    simp [AlarmState.occur, hin, AlarmEntry.again, saturate99, Config.alarmCountLimit]
  · simp only [AlarmState.occur]
    split
    · split
      · rw [AlarmState.requeue_get, AlarmState.get_put_other a _ hj]
      · exact AlarmState.get_put_other a _ hj
    · exact AlarmState.get_put_other a _ hj
  · exact fun k => AlarmState.acknowledge_get h k
  · exact AlarmState.acknowledge_queue h
  · rw [AlarmState.fail_get, AlarmEntry.unreported_eq]
  · rw [AlarmState.clearAll_get, AlarmEntry.cleared_eq]

/-- Settles O23, by the digits of each group and of the vault value. -/
theorem reportMessageShape : Obligations.ReportMessageShape := by
  intro identity a collected hid hcarried groups v vault
  have hgroups : a.queue.flatMap a.group = groups :=
    flatMap_congr fun k hk => AlarmState.group_eq (hcarried k hk)
  have hmessage : reportMessage identity a collected = [10] ++ identity ++ [12] ++ groups ++ [12] ++ vault ++
      [(identity.sum + groups.sum + vault.sum) % 10, 15] := by
    simp only [reportMessage, hgroups, vaultDigits_eq, List.append_assoc, List.cons_append, List.nil_append]
    rfl
  refine ⟨hmessage, ?_⟩
  have hlen : groups.length = 4 * a.queue.length := length_flatMap_four (fun _ => rfl) _
  rw [hmessage]
  simp only [List.length_append, List.length_cons, List.length_nil, hid, hlen, vault]
  omega
end

section
/-! SUPPORT. The words of a write-back as a restore reads them (R144, R147, R149, R190): the first 36 field words one
by one, the length of the whole, and its check. -/

namespace Sys2Proof.Machine

/-! ### Words and their numbers -/

theorem wordOf_toNat {n : Nat} (h : n < 65536) : (wordOf n).toNat = n := by
  rw [wordOf, BitVec.toNat_ofNat]
  exact Nat.mod_eq_of_lt h

/-- A 32-bit amount is read back from its two words (R188). -/
theorem words32_toNat {n : Nat} (h : n < 2 ^ 32) :
    (wordOf (n % 65536)).toNat + 65536 * (wordOf (n / 65536)).toNat = n := by
  rw [wordOf_toNat (by omega), wordOf_toNat (by omega)]
  omega

/-! ### A block of words inside a list -/

section Block

variable {pre blk post : List Word} {k j : Nat}

theorem wordAt_block (hpre : pre.length = k) (hj : j < blk.length) :
    wordAt (pre ++ (blk ++ post)) (k + j) = wordAt blk j := by
  subst hpre
  rw [wordAt, List.getD_append_right _ _ _ _ (Nat.le_add_right _ _), Nat.add_sub_cancel_left,
    List.getD_append _ _ _ _ hj]
  rfl

theorem natAt_block (hpre : pre.length = k) (hj : j < blk.length) :
    natAt (pre ++ (blk ++ post)) (k + j) = natAt blk j := congrArg BitVec.toNat (wordAt_block hpre hj)

theorem natAt32_block (hpre : pre.length = k) (hj : j + 1 < blk.length) :
    natAt32 (pre ++ (blk ++ post)) (k + j) = natAt32 blk j := by
  rw [natAt32, natAt_block hpre (by omega), Nat.add_assoc, natAt_block hpre hj, natAt32]

theorem totalsAt_block (hpre : pre.length = k) (hblk : blk.length = 14) :
    totalsAt (pre ++ (blk ++ post)) k = totalsAt blk 0 := by
  have h (j : Nat) (hj : j + 1 < 14) : natAt32 (pre ++ (blk ++ post)) (k + j) = natAt32 blk j :=
    natAt32_block hpre (by omega)
  have h0 := h 0 (by omega)
  rw [Nat.add_zero] at h0
  simp only [totalsAt, h0, h 2 (by omega), h 4 (by omega), h 6 (by omega), h 8 (by omega), h 10 (by omega),
    h 12 (by omega), Nat.zero_add]

theorem countsAt_block (hpre : pre.length = k) (hblk : blk.length = 8) :
    countsAt (pre ++ (blk ++ post)) k = countsAt blk 0 := by
  refine List.map_congr_left fun j hj => ?_
  rw [natAt_block hpre (by have := List.mem_range.1 hj; omega), Nat.zero_add]

end Block

theorem map_getD_range {n : Nat} {l : List Nat} (h : l.length = n) : (List.range n).map (fun k => l.getD k 0) = l := by
  refine List.ext_getElem (by simp [h]) fun i h1 h2 => ?_
  simp only [List.getElem_map, List.getElem_range, List.getD_eq_getElem?_getD, List.getElem?_eq_getElem h2,
    Option.getD_some]

/-- The eight counts are read back from their words. -/
theorem countsAt_countWords {counts : List Nat} (hlen : counts.length = 8) (hfit : ∀ n ∈ counts, n < 65536) :
    countsAt (countWords counts) 0 = counts := by
  refine Eq.trans (List.map_congr_left fun k hk => ?_) (map_getD_range hlen)
  have hk8 : k < 8 := List.mem_range.1 hk
  have hk : k < counts.length := by omega
  rw [natAt, wordAt, Nat.zero_add, countWords, List.getD_eq_getElem?_getD, List.getElem?_map,
    List.getElem?_range hk8, Option.map_some, Option.getD_some]
  refine wordOf_toNat (hfit _ ?_)
  rw [List.getD_eq_getElem?_getD, List.getElem?_eq_getElem hk]
  exact List.getElem_mem hk

/-- The seven totals are read back from their words. -/
theorem totalsAt_totalsWords {t : MoneyTotals} (h1 : t.accepted < 2 ^ 32) (h2 : t.collected < 2 ^ 32)
    (h3 : t.jammed < 2 ^ 32) (h4 : t.refunded < 2 ^ 32) (h5 : t.unconfirmed < 2 ^ 32) (h6 : t.revenue < 2 ^ 32)
    (h7 : t.forfeited < 2 ^ 32) : totalsAt (totalsWords t) 0 = t := by
  have hread {n : Nat} (k : Nat) (hn : n < 2 ^ 32) (hl : wordAt (totalsWords t) k = wordOf (n % 65536))
      (hh : wordAt (totalsWords t) (k + 1) = wordOf (n / 65536)) : natAt32 (totalsWords t) k = n := by
    rw [natAt32, natAt, natAt, hl, hh, words32_toNat hn]
  rw [totalsAt, hread 0 h1 rfl rfl, hread (0 + 2) h2 rfl rfl, hread (0 + 4) h3 rfl rfl, hread (0 + 6) h4 rfl rfl,
    hread (0 + 8) h5 rfl rfl, hread (0 + 10) h6 rfl rfl, hread (0 + 12) h7 rfl rfl]

theorem nibblesOf_nibbleWord (a b c d : Nat) : nibblesOf (nibbleWord a b c d) = [a % 16, b % 16, c % 16, d % 16] := by
  have h : (nibbleWord a b c d).toNat = a % 16 + 16 * (b % 16) + 256 * (c % 16) + 4096 * (d % 16) :=
    wordOf_toNat (by omega)
  rw [nibblesOf_eq, h]
  congr 1
  · omega
  congr 1
  · omega
  congr 1
  · omega
  congr 1
  omega

/-- The codes of at most eight symbols are read back from two packed words. -/
theorem take_packed {codes : List Nat} (hlen : codes.length ≤ 8) (hcodes : ∀ c ∈ codes, c < 16) :
    (nibblesOf (wordAt (packNibbles 0 2 codes) 0) ++ nibblesOf (wordAt (packNibbles 0 2 codes) 1)).take codes.length
      = codes := by
  have hdrop (k : Nat) : (codes.drop 4).getD k 0 = codes.getD (4 + k) 0 := by
    simp only [List.getD_eq_getElem?_getD, List.getElem?_drop]
  have hrange : nibblesOf (wordAt (packNibbles 0 2 codes) 0) ++ nibblesOf (wordAt (packNibbles 0 2 codes) 1) =
      (List.range 8).map fun k => codes.getD k 0 % 16 := by
    simp only [packNibbles, wordAt, List.getD_cons_zero, List.getD_cons_succ, nibblesOf_nibbleWord, hdrop]
    rfl
  rw [hrange, ← List.map_take, List.take_range, min_eq_left hlen]
  refine Eq.trans (List.map_congr_left fun k hk => ?_) (map_getD_range rfl)
  have hk : k < codes.length := by simpa using hk
  rw [List.getD_eq_getElem?_getD, List.getElem?_eq_getElem hk]
  exact Nat.mod_eq_of_lt (hcodes _ (List.getElem_mem hk))

/-! ### The length of the field words -/

theorem packNibbles_length (filler count : Nat) (codes : List Nat) :
    (packNibbles filler count codes).length = count := by
  induction count generalizing codes with
  | zero => rfl
  | succ count ih => rw [packNibbles, List.length_cons, ih]

theorem optTimeWords_length (t : Option CalTime) : (optTimeWords t).length = 2 := by
  cases t <;> rfl

theorem alarmEntryWords_length (e : AlarmEntry) : (alarmEntryWords e).length = 5 := by
  rw [alarmEntryWords, List.length_cons]
  split
  · rfl
  · rw [List.length_append, optTimeWords_length, optTimeWords_length]

theorem alarmWords_length (a : AlarmState) : (alarmWords a).length = 66 := by
  simp only [alarmWords, List.length_append, packNibbles_length, AlarmKind.all, List.flatMap_cons, List.flatMap_nil,
    alarmEntryWords_length, List.length_nil]

theorem openCallWords_length (c : Option OpenCall) : (openCallWords c).length = 5 := by
  cases c with
  | none => rfl
  | some o => simp [openCallWords, optTimeWords_length]

theorem closeTimeWords_length (l : LastCollection) : (closeTimeWords l).length = 2 := by
  rw [closeTimeWords]
  split
  · exact optTimeWords_length _
  · rfl

theorem totalsWords_length (t : MoneyTotals) : (totalsWords t).length = 14 := rfl

theorem countWords_length (counts : List Nat) : (countWords counts).length = 8 := by
  simp [countWords]

theorem cashFields_length (s : State) : (cashFields s).length = 126 := by
  simp only [cashFields, List.length_append, totalsWords_length, countWords_length, packNibbles_length,
    openCallWords_length, alarmWords_length, closeTimeWords_length, words32, List.length_cons, List.length_nil]

/-! ### The write-back and its check -/

/-- The 128 words of a whole write-back of the image. -/
def State.writtenBack (s : State) : List Word := s.cash.sequence :: cashFields s ++ [sumWords (cashFields s)]

/-- The field words from the open-call mirror on. -/
def State.laterFields (s : State) : List Word :=
  openCallWords s.cash.openCall ++ alarmWords s.alarms ++ [wordOf s.cash.summary.toNat]
    ++ closeTimeWords s.cash.lastCollection ++ totalsWords s.cash.lastCollection.totals
    ++ [wordOf s.cash.lastCollection.vaultCoins,
        wordOf (bitNat s.cash.closeOwed + 2 * bitNat s.cash.suspect)]

/-- The classes of the escrow items, oldest first. -/
def CoinState.classes (c : CoinState) : List Nat := c.escrow.map Coin.cls

/-- The blocks of words, from the sequence to the check word. -/
theorem State.writtenBack_eq (s : State) : s.writtenBack = [s.cash.sequence] ++
    (totalsWords s.cash.totals ++ (countWords s.cash.acceptedCounts ++ ([wordOf s.cash.vaultCoins] ++
      (countWords s.cash.vaultCounts ++ (words32 s.coin.banked ++ (packNibbles 0 2 s.coin.classes ++
      ([bytesWord (gateClass s.coin.gate) s.coin.escrow.length] ++
      (s.laterFields ++ [sumWords (cashFields s)])))))))) := by
  simp only [State.writtenBack, cashFields, State.laterFields, CoinState.classes, List.append_assoc, List.cons_append,
    List.nil_append]

theorem State.writtenBack_length (s : State) : s.writtenBack.length = 128 := by
  simp only [State.writtenBack, List.length_append, List.length_cons, cashFields_length, List.length_nil]

theorem sequence_even {w : Word} (h : w.toNat % 2 = 0) : w.getLsbD 0 = false := by
  rw [BitVec.getLsbD, Nat.testBit_zero, h]
  rfl

theorem State.writtenBack_checks {s : State} (heven : s.cash.sequence.toNat % 2 = 0) :
    restoreChecks s.writtenBack = true := by
  have hsum : wordAt s.writtenBack 127 = sumWords (cashFields s) := by
    rw [wordAt, State.writtenBack, List.getD_append_right _ _ _ _ (by simp [cashFields_length])]
    simp [cashFields_length]
  have hfields : (s.writtenBack.drop 1).take 126 = cashFields s := by
    rw [State.writtenBack, List.cons_append, List.drop_succ_cons, List.drop_zero,
      List.take_append_of_le_length (by rw [cashFields_length]), List.take_of_length_le (by rw [cashFields_length])]
  rw [restoreChecks, hsum, hfields, Bool.and_eq_true]
  have hseq : wordAt s.writtenBack 0 = s.cash.sequence := rfl
  rw [hseq, sequence_even heven]
  exact ⟨rfl, beq_self_eq_true _⟩

theorem restoredCash_vaultCoins (ws : List Word) : (restoredCash ws).vaultCoins = natAt ws 23 := rfl

theorem State.writtenBack_sequence {s : State} (heven : s.cash.sequence.toNat % 2 = 0) :
    restoredSequence s.writtenBack = s.cash.sequence := by
  have hseq : wordAt s.writtenBack 0 = s.cash.sequence := rfl
  rw [restoredSequence, hseq, sequence_even heven]
  rfl

/-- Each turn writes the word that stands at its place (R147). -/
theorem CashState.copyWord_eq {c : CashState} {s : State} (hc : c.copyWords = cashFields s) {k : Nat} (hlow : 1 ≤ k)
    (hhigh : k ≤ 127) : c.copyWord k = s.writtenBack.getD k 0#16 := by
  obtain ⟨j, rfl⟩ := Nat.exists_eq_add_of_le' hlow
  have hlen := cashFields_length s
  rw [CashState.copyWord, hc, State.writtenBack, List.cons_append, List.getD_cons_succ]
  by_cases hj : j < 126
  · rw [if_pos (show j + 1 < Config.cashWords - 1 by simp only [Config.cashWords]; omega), Nat.add_sub_cancel,
      List.getD_append _ _ _ _ (by omega)]
    rfl
  · rw [if_neg (show ¬ j + 1 < Config.cashWords - 1 by simp only [Config.cashWords]; omega),
      List.getD_append_right _ _ _ _ (by omega), show j - (cashFields s).length = 0 by omega]
    rfl

/-! ### What the restore reads -/

theorem State.writtenBack_totals (s : State) :
    totalsAt s.writtenBack 1 = totalsAt (totalsWords s.cash.totals) 0 := by
  rw [s.writtenBack_eq, totalsAt_block (k := 1) rfl (totalsWords_length _)]

theorem State.writtenBack_accepted (s : State) :
    countsAt s.writtenBack 15 = countsAt (countWords s.cash.acceptedCounts) 0 := by
  rw [s.writtenBack_eq, ← List.append_assoc, countsAt_block (by simp [totalsWords_length]) (countWords_length _)]

theorem State.writtenBack_vaultCoins (s : State) : wordAt s.writtenBack 23 = wordOf s.cash.vaultCoins := by
  rw [s.writtenBack_eq, ← List.append_assoc, ← List.append_assoc]
  exact wordAt_block (j := 0) (by simp [totalsWords_length, countWords_length]) (by simp)

theorem State.writtenBack_vault (s : State) :
    countsAt s.writtenBack 24 = countsAt (countWords s.cash.vaultCounts) 0 := by
  rw [s.writtenBack_eq, ← List.append_assoc, ← List.append_assoc, ← List.append_assoc,
    countsAt_block (by simp [totalsWords_length, countWords_length]) (countWords_length _)]

theorem State.writtenBack_banked (s : State) : natAt32 s.writtenBack 32 = natAt32 (words32 s.coin.banked) 0 := by
  rw [s.writtenBack_eq, ← List.append_assoc, ← List.append_assoc, ← List.append_assoc, ← List.append_assoc]
  exact natAt32_block (j := 0) (by simp [totalsWords_length, countWords_length]) (by simp [words32])

theorem State.writtenBack_nibbles (s : State) {j : Nat} (hj : j < 2) :
    wordAt s.writtenBack (34 + j) = wordAt (packNibbles 0 2 s.coin.classes) j := by
  rw [s.writtenBack_eq, ← List.append_assoc, ← List.append_assoc, ← List.append_assoc, ← List.append_assoc,
    ← List.append_assoc]
  exact wordAt_block (by simp [totalsWords_length, countWords_length, words32]) (by rwa [packNibbles_length])

theorem State.writtenBack_gateWord (s : State) :
    wordAt s.writtenBack 36 = bytesWord (gateClass s.coin.gate) s.coin.escrow.length := by
  rw [s.writtenBack_eq, ← List.append_assoc, ← List.append_assoc, ← List.append_assoc, ← List.append_assoc,
    ← List.append_assoc, ← List.append_assoc]
  exact wordAt_block (j := 0) (by simp [totalsWords_length, countWords_length, words32, packNibbles_length])
    (by simp)

theorem gateClass_le {g : Option Coin} (h : ∀ c, g = some c → isClass c.cls = true) : gateClass g ≤ 8 := by
  cases g with
  | none => exact Nat.zero_le _
  | some c =>
    have := h c rfl
    simp only [isClass, Bool.and_eq_true, decide_eq_true_eq] at this
    exact this.2

theorem bytesWord_toNat {high low : Nat} (hh : high < 256) (hl : low < 256) :
    (bytesWord high low).toNat = high * 256 + low := by
  rw [bytesWord, wordOf_toNat (by omega)]
  omega

theorem State.writtenBack_classes {s : State} (hlen : s.coin.escrow.length ≤ 8)
    (hcls : ∀ c ∈ s.coin.escrow, isClass c.cls = true) (hgate : gateClass s.coin.gate ≤ 8) :
    mirroredClasses s.writtenBack = s.coin.escrow.map Coin.cls := by
  have hcount : mirroredCount s.writtenBack = s.coin.classes.length := by
    rw [mirroredCount, s.writtenBack_gateWord, lowByte_toNat, bytesWord_toNat (by omega) (by omega), CoinState.classes,
      List.length_map]
    omega
  have hle : s.coin.classes.length ≤ 8 := by rwa [CoinState.classes, List.length_map]
  have hsmall : ∀ c ∈ s.coin.classes, c < 16 := by
    intro c hc
    obtain ⟨coin, hcoin, rfl⟩ := List.mem_map.1 hc
    have := hcls coin hcoin
    simp only [isClass, Bool.and_eq_true, decide_eq_true_eq] at this
    omega
  have hwords : nibblesAt s.writtenBack 34 2 = nibblesOf (wordAt (packNibbles 0 2 s.coin.classes) 0) ++
      nibblesOf (wordAt (packNibbles 0 2 s.coin.classes) 1) := by
    rw [← s.writtenBack_nibbles (j := 0) (by omega), ← s.writtenBack_nibbles (j := 1) (by omega)]
    simp only [nibblesAt, List.append_nil]
  rw [mirroredClasses, hcount, min_eq_left hle, hwords]
  exact take_packed hle hsmall

end Sys2Proof.Machine

open Sys2Proof Sys2Proof.Machine

/-- Settles O24: each item of the image is read back from its own words, and the sum of the field words is the check
word. -/
theorem writeBackRestores : Obligations.WriteBackRestores := by
  intro s heven h1 h2 h3 h4 h5 h6 h7 hacc haccfit hvault hvaultfit hcoins hbanked hescrow hcls hgate
  have hgateClass := gateClass_le hgate
  have htotals := s.writtenBack_totals.trans (totalsAt_totalsWords h1 h2 h3 h4 h5 h6 h7)
  have haccepted := s.writtenBack_accepted.trans (countsAt_countWords hacc haccfit)
  have hvaultCounts := s.writtenBack_vault.trans (countsAt_countWords hvault hvaultfit)
  have hvaultCoins : natAt s.writtenBack 23 = s.cash.vaultCoins := by
    rw [natAt, s.writtenBack_vaultCoins, wordOf_toNat hcoins]
  have hbankedBack : natAt32 s.writtenBack 32 = s.coin.banked :=
    s.writtenBack_banked.trans (words32_toNat hbanked)
  have hgateBack : mirroredGate s.writtenBack = gateClass s.coin.gate := by
    rw [mirroredGate, s.writtenBack_gateWord, highByte_toNat, bytesWord_toNat (by omega) (by omega)]
    omega
  have hseq : restoredSequence s.writtenBack = s.cash.sequence := State.writtenBack_sequence heven
  exact ⟨fun c hc k hlow hhigh => CashState.copyWord_eq hc hlow hhigh,
    s.writtenBack_length, State.writtenBack_checks heven, htotals, haccepted, hvaultCounts,
    (restoredCash_vaultCoins _).trans hvaultCoins, hseq, hbankedBack,
    State.writtenBack_classes hescrow hcls hgateClass, hgateBack.trans (by unfold gateClass; rfl)⟩
end

section
/-! SUPPORT. What the operations that every block uses leave in the fields they do change: the items of the cash image
but the open-call mirror, the purse beside the operation in flight, and the flags that stand. -/

namespace Sys2Proof.Machine

/-! ### Live events and their timers -/

theorem State.whenLive_of_live {s : State} {f : State → State} (h : s.isHeld = false) : s.whenLive f = f s := by
  simp [State.whenLive, h]

theorem State.onExpiry_of_running {s : State} {t : Timer} {f : State → State} {m : Nat} (h : t = some m) :
    s.onExpiry t f = f (s.reach m) := by
  simp [State.onExpiry, h]

@[simp] theorem State.reach_now (s : State) (m : Nat) : (s.reach m).now = max s.now m := rfl

@[simp] theorem State.reach_calendar (s : State) (m : Nat) : (s.reach m).calendar = s.calendar := rfl

@[simp] theorem State.reach_restored (s : State) (m : Nat) : (s.reach m).restored = s.restored := rfl

/-- The calendar is that of the clock. -/
theorem State.calendar_congr {s t : State} (h : t.clock = s.clock) : t.calendar = s.calendar := by
  simp only [State.calendar, h]

/-- An increment of a tally changes the path alone. -/
theorem State.tally_eq (s : State) (t : TallyName) : s.tally t = { s with path := (s.tally t).path } := rfl

/-- An increment of a tally leaves in the path what follows from the path alone. -/
theorem State.tally_path_congr {s t : State} (name : TallyName) (h : t.path = s.path) :
    (t.tally name).path = (s.tally name).path := by
  unfold State.tally State.join State.updPath
  dsimp only
  rw [h]

/-! ### The items of the cash image -/

/-- The items of the cash image without the open-call mirror, and without the state of the write-back. -/
def CashState.kept (c : CashState) : CashState := { c with phase := .idle, again := false, openCall := none }

/-- Each item is one of those kept. -/
theorem CashState.kept_fields {c d : CashState} (h : d.kept = c.kept) :
    d.totals = c.totals ∧ d.acceptedCounts = c.acceptedCounts ∧ d.vaultCoins = c.vaultCoins ∧
      d.vaultCounts = c.vaultCounts ∧ d.summary = c.summary ∧ d.lastCollection = c.lastCollection ∧
      d.closeOwed = c.closeOwed ∧ d.suspect = c.suspect ∧ d.sequence = c.sequence ∧ d.restore = c.restore :=
  ⟨(congrArg CashState.totals h :), (congrArg CashState.acceptedCounts h :), (congrArg CashState.vaultCoins h :),
    (congrArg CashState.vaultCounts h :), (congrArg CashState.summary h :), (congrArg CashState.lastCollection h :),
    (congrArg CashState.closeOwed h :), (congrArg CashState.suspect h :), (congrArg CashState.sequence h :),
    (congrArg CashState.restore h :)⟩

@[simp] theorem CashState.changed_kept (c : CashState) : c.changed.kept = c.kept := by
  cases c with
  | mk => rename_i phase _ _ _ _ _; cases phase <;> rfl

@[simp] theorem State.cashChanged_kept (s : State) : s.cashChanged.cash.kept = s.cash.kept := by
  simp only [State.cashChanged]
  split <;> simp

@[simp] theorem State.openMirror_kept (s : State) (k : ZoneKind) : (s.openMirror k).cash.kept = s.cash.kept := by
  simp only [State.openMirror, State.cashChanged_kept]
  rfl

@[simp] theorem State.grantCustomer_kept (s : State) : s.grantCustomer.cash.kept = s.cash.kept := by
  simp only [State.grantCustomer]
  split
  · rename_i k _
    cases k <;> simp [State.tallyGrant]
  · simp

@[simp] theorem State.grantWaiting_kept (s : State) : s.grantWaiting.cash.kept = s.cash.kept := by
  simp only [State.grantWaiting]
  (repeat' split) <;> simp

@[simp] theorem State.placeReport_kept (s : State) (n : Nat) : (s.placeReport n).cash.kept = s.cash.kept := by
  simp [State.placeReport]

@[simp] theorem State.beginRun_kept (s : State) : s.beginRun.cash.kept = s.cash.kept := by
  simp [State.beginRun]

@[simp] theorem State.checkQueue_kept (s : State) : s.checkQueue.cash.kept = s.cash.kept := by
  simp only [State.checkQueue]
  split <;> simp

@[simp] theorem State.noticeNewKind_kept (s : State) : s.noticeNewKind.cash.kept = s.cash.kept := by
  simp only [State.noticeNewKind]
  split <;> simp

@[simp] theorem State.occurrence_kept (s : State) (k : AlarmKind) : (s.occurrence k).cash.kept = s.cash.kept := by
  simp only [State.occurrence]
  split <;> simp

@[simp] theorem State.failReporting_kept (s : State) : s.failReporting.cash.kept = s.cash.kept := by
  simp only [State.failReporting]
  split <;> simp

@[simp] theorem State.attemptOutcome_kept (s : State) (c : EndCause) :
    (s.attemptOutcome c).cash.kept = s.cash.kept := by
  cases c <;> simp [State.attemptOutcome, State.resumeRun]

@[simp] theorem State.closeAttempt_kept (s : State) (c : EndCause) (t : CalTime) :
    (s.closeAttempt c t).cash.kept = s.cash.kept := by
  simp only [State.closeAttempt]
  split <;> simp

@[simp] theorem State.endReport_kept (s : State) (c : EndCause) : (s.endReport c).cash.kept = s.cash.kept := by
  simp [State.endReport]

@[simp] theorem State.preemptReport_kept (s : State) : s.preemptReport.cash.kept = s.cash.kept := by
  simp only [State.preemptReport]
  split <;> simp

@[simp] theorem State.placeCustomer_kept (s : State) (c : RequestClass) :
    (s.placeCustomer c).cash.kept = s.cash.kept := by
  cases c <;> simp [State.placeCustomer]

@[simp] theorem State.toWaitLine_kept (s : State) : s.toWaitLine.cash.kept = s.cash.kept := by
  simp [State.toWaitLine]

@[simp] theorem State.recheckDeposit_kept (s : State) : s.recheckDeposit.cash.kept = s.cash.kept := by
  simp only [State.recheckDeposit]
  (repeat' split) <;> simp

@[simp] theorem State.creditChanged_kept (s : State) : s.creditChanged.cash.kept = s.cash.kept := by
  simp [State.creditChanged]

@[simp] theorem State.mirrorCall_kept (s : State) (c : RatingContext) : (s.mirrorCall c).cash.kept = s.cash.kept := by
  simp only [State.mirrorCall]
  split
  · split
    · rfl
    · simp
      rfl
  · rfl

@[simp] theorem State.addStatus_kept (s : State) (f : RatingFlags) : (s.addStatus f).cash.kept = s.cash.kept := by
  simp only [State.addStatus]
  split <;> simp

@[simp] theorem State.clearMirror_kept (s : State) : s.clearMirror.cash.kept = s.cash.kept := by
  simp only [State.clearMirror]
  split <;> simp
  rfl

/-! ### The purse beside the operation in flight -/

/-- The coin handler without the operation in flight and the pending request. -/
def CoinState.still (c : CoinState) : CoinState :=
  { c with op := .idle, opItems := 0, chuteCount := 0, actuator := .released, flapTimer := none,
           settleTimer := none, request := .none }

theorem CoinState.still_fields {c d : CoinState} (h : d.still = c.still) :
    d.escrow = c.escrow ∧ d.gate = c.gate ∧ d.banked = c.banked ∧ d.slug = c.slug ∧ d.leakTimer = c.leakTimer ∧
      d.cooloffTimer = c.cooloffTimer ∧ d.fillWarned = c.fillWarned ∧ d.reasons = c.reasons :=
  ⟨(congrArg CoinState.escrow h :), (congrArg CoinState.gate h :), (congrArg CoinState.banked h :),
    (congrArg CoinState.slug h :), (congrArg CoinState.leakTimer h :), (congrArg CoinState.cooloffTimer h :),
    (congrArg CoinState.fillWarned h :), (congrArg CoinState.reasons h :)⟩

@[simp] theorem State.startOp_still (s : State) (op : EscrowOp) (a : Actuator) :
    (s.startOp op a).coin.still = s.coin.still := rfl

@[simp] theorem State.startCollect_still (s : State) : s.startCollect.coin.still = s.coin.still := rfl

@[simp] theorem State.startRefund_still (s : State) : s.startRefund.coin.still = s.coin.still := rfl

@[simp] theorem State.requestCollect_still (s : State) : s.requestCollect.coin.still = s.coin.still := by
  simp only [State.requestCollect]
  (repeat' split) <;> rfl

@[simp] theorem State.requestRefund_still (s : State) : s.requestRefund.coin.still = s.coin.still := by
  simp only [State.requestRefund]
  (repeat' split) <;> rfl

@[simp] theorem State.graceArrival_still (s : State) : s.graceArrival.coin.still = s.coin.still := by
  simp only [State.graceArrival]
  (repeat' split) <;> simp

@[simp] theorem State.arrivalConditions_still (s : State) : s.arrivalConditions.coin.still = s.coin.still := by
  simp only [State.arrivalConditions]
  (repeat' split) <;> simp

@[simp] theorem State.nextOperation_still (s : State) : s.nextOperation.coin.still = s.coin.still := by
  simp only [State.nextOperation]
  (repeat' split) <;> rfl

@[simp] theorem State.collectAtAnswer_still (s : State) : s.collectAtAnswer.coin.still = s.coin.still := by
  simp only [State.collectAtAnswer]
  split <;> simp

@[simp] theorem State.enterGrace_coin (s : State) : s.enterGrace.coin = s.coin := by
  simp [State.enterGrace]

@[simp] theorem State.awaitCredit_still (s : State) : s.awaitCredit.coin.still = s.coin.still := by
  simp only [State.awaitCredit]
  split <;> simp

/-! ### Flags that stand -/

/-- Every flag but DIAL_LOW that stands in the one state stands in the other. -/
def State.flagsStay (s t : State) : Prop :=
  ∀ f : EventFlag, f ≠ .dialLow → f.isIn s.status.flags = true → f.isIn t.status.flags = true

@[simp] theorem State.raise_self (s : State) (f : EventFlag) : f.isIn (s.raise f).status.flags = true := by
  simp [State.raise_isIn]

theorem State.flagsStay_self (s : State) : s.flagsStay s := fun _ _ h => h

namespace State.flagsStay

variable {s₀ s : State}

theorem of_eq {t : State} (h : s₀.flagsStay s) (e : t.status = s.status) : s₀.flagsStay t := by
  intro f hf hs
  rw [e]
  exact h f hf hs

theorem trans {t : State} (h : s₀.flagsStay s) (h' : s.flagsStay t) : s₀.flagsStay t :=
  fun f hf hs => h' f hf (h f hf hs)

theorem raise (h : s₀.flagsStay s) (f : EventFlag) : s₀.flagsStay (s.raise f) := by
  intro g hg hs
  simp [State.raise_isIn, h g hg hs]

theorem lowerDialLow (h : s₀.flagsStay s) : s₀.flagsStay (s.lower .dialLow) := by
  intro g hg hs
  simp [State.lower_isIn, h g hg hs, hg]

theorem tally (h : s₀.flagsStay s) (n : TallyName) : s₀.flagsStay (s.tally n) := h.of_eq (by simp)

theorem cashChanged (h : s₀.flagsStay s) : s₀.flagsStay s.cashChanged := h.of_eq (by simp)

theorem setNumberPhase (h : s₀.flagsStay s) (p : NumberPhase) : s₀.flagsStay (s.setNumberPhase p) := by
  simp only [State.setNumberPhase]
  split
  · exact h
  · exact flagsStay.raise (s := s.updNumber _) h _

theorem setFifo (h : s₀.flagsStay s) (q : List Nat) : s₀.flagsStay (s.setFifo q) := by
  simp only [State.setFifo]
  split
  · exact flagsStay.lowerDialLow (s := (s.updNumber _).updNumber _) h
  split
  · exact flagsStay.lowerDialLow (s := (s.updNumber _).updNumber _) h
  split
  · exact flagsStay.raise (s := (s.updNumber _).updNumber _) h _
  · exact h

theorem tallyRefusal (h : s₀.flagsStay s) (c : RefusalCause) : s₀.flagsStay (s.tallyRefusal c) :=
  h.of_eq (by cases c <;> simp [State.tallyRefusal])

theorem refuseNumber (h : s₀.flagsStay s) (c : RefusalCause) : s₀.flagsStay (s.refuseNumber c) := by
  have h1 := (h.of_eq (State.updNumber_status s fun n => { n with cause := some c })).setNumberPhase .refused
  exact flagsStay.tallyRefusal ((h1.setFifo []).of_eq (by simp)) c

theorem endNumber (h : s₀.flagsStay s) : s₀.flagsStay s.endNumber := by
  have h1 := (h.setNumberPhase .empty).of_eq (State.updNumber_status _ NumberState.blank)
  exact (h1.setFifo []).of_eq (by simp [State.endNumber])

theorem grantCustomer (h : s₀.flagsStay s) : s₀.flagsStay s.grantCustomer := by
  have h1 := (h.of_eq (t := s.takeLine .customer) (by simp)).raise .call
  simp only [State.grantCustomer]
  split
  · rename_i k _
    exact h1.of_eq (by cases k <;> simp [State.tallyGrant, State.openMirror])
  · exact h1

theorem grantWaiting (h : s₀.flagsStay s) : s₀.flagsStay s.grantWaiting := by
  simp only [State.grantWaiting]
  (repeat' split)
  · exact h.grantCustomer
  · exact h.of_eq (by simp)
  · exact h
  · exact h

theorem placeReport (h : s₀.flagsStay s) (n : Nat) : s₀.flagsStay (s.placeReport n) :=
  flagsStay.grantWaiting (s := s.updLine _) h

theorem beginRun (h : s₀.flagsStay s) : s₀.flagsStay s.beginRun :=
  flagsStay.placeReport (s := s.updReport _) h _

theorem checkQueue (h : s₀.flagsStay s) : s₀.flagsStay s.checkQueue := by
  simp only [State.checkQueue]
  split
  · exact h.beginRun
  · exact h

theorem noticeNewKind (h : s₀.flagsStay s) : s₀.flagsStay s.noticeNewKind := by
  simp only [State.noticeNewKind]
  split
  · exact h.checkQueue
  · exact h.beginRun
  · exact h.beginRun
  · exact h

end State.flagsStay

/-- An occurrence keeps the flags and sets ALARM (R114). -/
theorem State.occurrence_flags (s : State) (k : AlarmKind) :
    s.flagsStay (s.occurrence k) ∧ EventFlag.alarm.isIn (s.occurrence k).status.flags = true := by
  have hset := (State.flagsStay_self s).of_eq
    (s.updAlarms_status fun a => a.occur k (k.isIn s.setup.settings.reportEnables) s.calendar)
  have hraise := (hset.raise .alarm).cashChanged
  have halarm : EventFlag.alarm.isIn
      (((s.updAlarms fun a => a.occur k (k.isIn s.setup.settings.reportEnables) s.calendar).raise
        .alarm).cashChanged).status.flags = true := by simp
  simp only [State.occurrence]
  split
  · exact ⟨hraise.noticeNewKind, (State.flagsStay_self _).noticeNewKind _ (by decide) halarm⟩
  · exact ⟨hraise, halarm⟩

@[simp] theorem State.occurrence_alarmFlag (s : State) (k : AlarmKind) :
    EventFlag.alarm.isIn (s.occurrence k).status.flags = true := (s.occurrence_flags k).2

namespace State.flagsStay

variable {s₀ s : State}

theorem occurrence (h : s₀.flagsStay s) (k : AlarmKind) : s₀.flagsStay (s.occurrence k) :=
  h.trans (s.occurrence_flags k).1

theorem offerRecord (h : s₀.flagsStay s) (r : CallRecord) : s₀.flagsStay (s.offerRecord r) := by
  simp only [State.offerRecord]
  split
  · exact h.of_eq (by simp)
  split
  · exact flagsStay.raise (h.of_eq (by simp)) _
  · exact h.of_eq (by simp)

theorem serviceLost (h : s₀.flagsStay s) : s₀.flagsStay s.serviceLost := by
  simp only [State.serviceLost]
  split
  · exact h.refuseNumber _
  · exact h

theorem addReason (h : s₀.flagsStay s) (r : ServiceReason) : s₀.flagsStay (s.addReason r) := by
  simp only [State.addReason]
  split
  · exact h
  · exact flagsStay.serviceLost (flagsStay.raise (h.of_eq (by simp)) _)

theorem removeReason (h : s₀.flagsStay s) (r : ServiceReason) : s₀.flagsStay (s.removeReason r) := by
  simp only [State.removeReason]
  split
  · exact flagsStay.raise (h.of_eq (by simp)) _
  · exact h

theorem failReporting (h : s₀.flagsStay s) : s₀.flagsStay s.failReporting := by
  simp only [State.failReporting]
  split
  · exact h
  · exact h.of_eq (by simp)

theorem resumeRun (h : s₀.flagsStay s) : s₀.flagsStay s.resumeRun :=
  flagsStay.placeReport (s := s.updReport _) h _

theorem attemptOutcome (h : s₀.flagsStay s) (c : EndCause) : s₀.flagsStay (s.attemptOutcome c) := by
  have hfailed : s₀.flagsStay s.failedAttempt := h.of_eq (by simp)
  cases c
  case ok => exact flagsStay.checkQueue (h.of_eq (by simp))
  case preempted => exact h.resumeRun
  case restart => exact h.resumeRun
  all_goals exact hfailed

theorem clearAttempt (h : s₀.flagsStay s) : s₀.flagsStay s.clearAttempt :=
  flagsStay.raise (s := s.updReport _) h _

theorem closeAttempt (h : s₀.flagsStay s) (c : EndCause) (t : CalTime) : s₀.flagsStay (s.closeAttempt c t) := by
  have hfail : s₀.flagsStay (if c = .ok then s else s.failReporting) := by
    split
    · exact h
    · exact h.failReporting
  exact ((hfail.offerRecord _).clearAttempt).attemptOutcome c

theorem endReport (h : s₀.flagsStay s) (c : EndCause) : s₀.flagsStay (s.endReport c) :=
  flagsStay.closeAttempt (h.of_eq (by simp)) c _

theorem placeCustomer (h : s₀.flagsStay s) (c : RequestClass) : s₀.flagsStay (s.placeCustomer c) := by
  have hset : s₀.flagsStay (s.updLine fun l => { l with customerRequest := some c }) := h
  cases c
  case paidFree => exact hset.grantWaiting
  case emergency =>
    simp only [State.placeCustomer, State.preemptReport]
    split
    · exact (hset.endReport _).grantWaiting
    · exact hset.grantWaiting

theorem toWaitLine (h : s₀.flagsStay s) : s₀.flagsStay s.toWaitLine :=
  (flagsStay.setNumberPhase (s := s.stopNumberTimers) h .waitLine).placeCustomer _

theorem toWaitDeposit (h : s₀.flagsStay s) : s₀.flagsStay s.toWaitDeposit :=
  (flagsStay.setNumberPhase (s := s.stopNumberTimers) h .waitDeposit).of_eq rfl

theorem recheckDeposit (h : s₀.flagsStay s) : s₀.flagsStay s.recheckDeposit := by
  simp only [State.recheckDeposit]
  split
  · exact h
  split
  · split
    · exact h.toWaitLine
    · exact h
  split
  · exact flagsStay.toWaitDeposit (s := s.withdrawCustomer) h
  · exact h

theorem creditChanged (h : s₀.flagsStay s) : s₀.flagsStay s.creditChanged := h.cashChanged.recheckDeposit

theorem forfeit (h : s₀.flagsStay s) : s₀.flagsStay s.forfeit := by
  simp only [State.forfeit]
  split
  · exact h
  · exact flagsStay.creditChanged (h.of_eq (by simp))

theorem trapCheck (h : s₀.flagsStay s) (f : RatingFlags) : s₀.flagsStay (s.trapCheck f) := by
  simp only [State.trapCheck]
  split
  · split
    · exact h
    · exact h.of_eq (by simp)
  · split
    · exact h.occurrence _
    · exact (h.occurrence .ratingAnomaly).of_eq (by simp)

theorem numberAfterCall (h : s₀.flagsStay s) (c : EndCause) : s₀.flagsStay (s.numberAfterCall c) := by
  cases c
  case noDialTone => exact h.refuseNumber _
  all_goals exact h.endNumber

theorem endCall (h : s₀.flagsStay s) (c : EndCause) : s₀.flagsStay (s.endCall c) := by
  have hrelease : s₀.flagsStay s.releaseLine.endPips := h.of_eq (by simp)
  have hmirror : s₀.flagsStay ((s.releaseLine.endPips.trapCheck s.callStatus).clearMirror) :=
    (hrelease.trapCheck s.callStatus).of_eq (by simp)
  exact ((hmirror.offerRecord _).numberAfterCall c).raise .call

theorem closeTest (h : s₀.flagsStay s) : s₀.flagsStay s.closeTest := by
  simp only [State.closeTest, State.collectionClose]
  split
  · exact (((flagsStay.removeReason (h.of_eq (by simp)) _)).raise .cash).cashChanged
  · exact h

theorem thenTest {f : State → State} (h : s₀.flagsStay (f s)) : s₀.flagsStay (s.thenTest f) := by
  simp only [State.thenTest]
  split
  · exact h
  · exact h.closeTest

theorem shiftFifo (h : s₀.flagsStay s) : s₀.flagsStay s.shiftFifo := h.setFifo _

theorem emitNext (h : s₀.flagsStay s) : s₀.flagsStay s.emitNext := by
  simp only [State.emitNext]
  split
  · exact h
  split
  · simp only [State.nextCustomerItem]
    split
    · exact h.of_eq (by simp)
    split
    · exact h
    split
    · exact h.shiftFifo.of_eq (by simp)
    split
    · exact h.shiftFifo.of_eq (by simp)
    · exact h
  · simp only [State.nextReportItem]
    (repeat' split) <;> exact h.of_eq (by simp)
  · exact h

end State.flagsStay

@[simp] theorem State.endReport_reportFlag (s : State) (c : EndCause) :
    EventFlag.report.isIn (s.endReport c).status.flags = true := by
  have hclear (u : State) : EventFlag.report.isIn u.clearAttempt.status.flags = true := State.raise_self _ _
  exact (State.flagsStay_self _).attemptOutcome c _ (by decide) (hclear _)

@[simp] theorem State.endCall_callFlag (s : State) (c : EndCause) :
    EventFlag.call.isIn (s.endCall c).status.flags = true := State.raise_self _ _

end Sys2Proof.Machine
end

section
/-! The reject pulse, the slug counter, a coin taken, the flap and chute inputs, and the return lever (chapter 1). -/

namespace Sys2Proof.Machine

/-! ### Reject pulses -/

theorem exec_rejectPulse {s : State} (h : s.isHeld = false) : exec .rejectPulse s = .next s.rejectCoin :=
  congrArg Host.Outcome.next (State.whenLive_of_live h)

/-- Below the threshold a reject pulse counts (R4, R21). -/
theorem State.rejectCoin_of_below {s : State} (h : s.coin.slug + 1 < s.setup.settings.slugThreshold) :
    s.rejectCoin = ((s.tally .rejects).raise .coinReject).updCoin fun c =>
      { c with slug := c.slug + 1, leakTimer := if c.slug = 0 then s.later Config.slugLeakMs else c.leakTimer } :=
  if_neg (Nat.not_le.2 h)

/-- The pulse that reaches the threshold is a slug attack (R21). -/
theorem State.rejectCoin_of_threshold {s : State} (h : s.setup.settings.slugThreshold ≤ s.coin.slug + 1) :
    s.rejectCoin = ((s.tally .rejects).raise .coinReject).slugAttack := if_pos h

/-- A strobe that is not taken is a reject pulse (R3). -/
theorem exec_validatorStrobe_of_not_taken {s : State} {code : Nat} (h : s.takesCoin code = false) :
    exec (.validatorStrobe code) s = exec .rejectPulse s := by
  refine congrArg Host.Outcome.next ?_
  simp [State.whenLive, h]

theorem State.takesCoin_iff {s : State} {code : Nat} : s.takesCoin code = true ↔
    (1 ≤ code ∧ code ≤ 8) ∧ s.restored = true ∧
      (if s.coin.inFlight then s.coin.gate = none else s.coin.escrow.length < 8) ∧
      s.coin.totalCredit + classValue s.setup.settings.classValues code ≤ 64999 := by
  have hroom : s.coin.hasRoom = true ↔
      (if s.coin.inFlight then s.coin.gate = none else s.coin.escrow.length < 8) := by
    simp only [CoinState.hasRoom]
    split
    · simp
    · exact decide_eq_true_iff
  simp only [State.takesCoin, Bool.and_eq_true, decide_eq_true_eq, hroom, isClass, and_assoc]
  exact Iff.rfl

/-- The settings of a threshold not reached and the conditions of a strobe that cannot be taken exclude each other. -/
theorem State.takesCoin_of_refused {s : State} {code : Nat}
    (h : code < 1 ∨ 8 < code ∨ (s.coin.inFlight = false ∧ 8 ≤ s.coin.escrow.length) ∨
      (s.coin.inFlight = true ∧ s.coin.gate ≠ none) ∨
      64999 < s.coin.totalCredit + classValue s.setup.settings.classValues code ∨ s.restored = false) :
    s.takesCoin code = false := by
  rw [Bool.eq_false_iff, Ne, State.takesCoin_iff]
  rintro ⟨⟨hlow, hhigh⟩, hrestored, hroom, hcredit⟩
  rcases h with h | h | ⟨hidle, h⟩ | ⟨hflight, h⟩ | h | h
  · omega
  · omega
  · rw [hidle, if_neg (by decide)] at hroom
    omega
  · rw [hflight, if_pos rfl] at hroom
    exact h hroom
  · omega
  · simp [hrestored] at h

/-! ### A coin taken (R2) -/

theorem CoinState.place_of_inFlight {c : CoinState} {coin : Coin} (h : c.inFlight = true) :
    c.place coin = { c with gate := some coin } := if_pos h

theorem CoinState.place_of_idle {c : CoinState} {coin : Coin} (h : c.inFlight = false) :
    c.place coin = { c with escrow := c.escrow ++ [coin] } := if_neg (by simp [h])

@[simp] theorem State.countCoin_status (s : State) (coin : Coin) :
    EventFlag.coinIn.isIn (s.countCoin coin).status.flags = true := State.raise_self _ _

@[simp] theorem State.countCoin_cash (s : State) (coin : Coin) : (s.countCoin coin).cash = s.cash := by
  simp only [State.countCoin]
  split <;> simp

/-- A coin taken is placed, its value and its count are accepted, and nothing else of the purse or of the cash image's
items changes (R2). -/
theorem State.takeCoin_effect (s : State) (coin : Coin) :
    (s.takeCoin coin).coin.still = (s.coin.place coin).still ∧
      (s.takeCoin coin).cash.kept = (s.cash.accept coin).kept ∧
      EventFlag.coinIn.isIn (s.takeCoin coin).status.flags = true ∧
      (s.coin.inFlight = true → (s.takeCoin coin).coin = s.coin.place coin) := by
  simp only [State.takeCoin]
  have hflag := (State.flagsStay_self ((((s.updCash fun c => c.accept coin).updCoin fun c =>
    c.place coin).cashChanged.countCoin coin))).recheckDeposit .coinIn (by decide) (State.countCoin_status _ _)
  split
  · exact ⟨by simp, by simp, hflag, fun _ => by simp⟩
  · exact ⟨by simp, by simp, by simpa using hflag, fun h => by simp_all⟩

/-- A purse with a coin in it is not settled, so no close follows (R142). -/
theorem State.closeTest_of_coin {s : State} (h : s.coin.escrow ≠ [] ∨ s.coin.gate ≠ none) : s.closeTest = s := by
  have : s.coin.settled = false := by
    rcases h with h | h
    · simp [CoinState.settled, h]
    · cases hg : s.coin.gate <;> simp_all [CoinState.settled]
  simp [State.closeTest, this]

/-! ### The settle window and the lever -/

theorem chuteMatches_iff {chute : Chute} {op : EscrowOp} : chuteMatches chute op = true ↔
    (chute = .vault ∧ op = .collecting) ∨ (chute = .ret ∧ op = .refunding) := by
  cases chute <;> cases op <;> simp [chuteMatches]

theorem EscrowOp.settleMs_eq (op : EscrowOp) : op.settleMs = if op = .refunding then 1000 else 500 := by
  cases op <;> rfl

end Sys2Proof.Machine

open Sys2Proof Sys2Proof.Machine

/-- Settles O26: a pulse below the threshold is counted, and a strobe that is not taken is dispatched as a pulse. -/
theorem rejectPulseCounts : Obligations.RejectPulseCounts := by
  refine ⟨fun s hlive hbelow => ?_, fun code s h => ?_⟩
  · rw [exec_rejectPulse hlive, State.rejectCoin_of_below hbelow]
    rfl
  · exact exec_validatorStrobe_of_not_taken (State.takesCoin_of_refused h)

/-- Settles O27: the attack resets the counter and is one occurrence, and each timer's expiry changes its own fields. -/
theorem slugAttackAndItsTimers : Obligations.SlugAttackAndItsTimers := by
  refine ⟨fun s hlive hreached => ?_, fun s m hlive => ⟨fun hleak => ?_, fun hcool => ?_⟩⟩
  · refine ⟨_, exec_rejectPulse hlive, ?_⟩
    rw [State.rejectCoin_of_threshold hreached]
    have hraised : EventFlag.coinReject.isIn ((s.tally .rejects).raise .coinReject).status.flags = true :=
      State.raise_self _ _
    have hreject : EventFlag.coinReject.isIn ((s.tally .rejects).raise .coinReject).slugAttack.status.flags = true :=
      ((State.flagsStay_self _).of_eq (State.updCoin_status _ _)).occurrence .slugAttack _ (by decide) hraised
    have hkept : ((s.tally .rejects).raise .coinReject).slugAttack.cash.kept = s.cash.kept := by
      simp [State.slugAttack]
    refine ⟨?_, ?_, ?_, hreject, (CashState.kept_fields hkept).1, ?_⟩
    · simp [State.slugAttack]
      rfl
    · simp [State.slugAttack]
      rfl
    · simp [State.slugAttack]
    · simp [State.slugAttack]
  · refine congrArg Host.Outcome.next ?_
    rw [State.whenLive_of_live hlive, State.onExpiry_of_running hleak]
    rfl
  · refine congrArg Host.Outcome.next ?_
    rw [State.whenLive_of_live hlive, State.onExpiry_of_running hcool]
    rfl

/-- Settles O28: the coin is placed and accepted; its arrival conditions leave the purse but for an operation. -/
theorem coinTaken : Obligations.CoinTaken := by
  intro code s hlive hrestored hlow hhigh hcredit hroom
  set coin : Coin := ⟨code, classValue s.setup.settings.classValues code⟩ with hcoin
  have htakes : s.takesCoin code = true := State.takesCoin_iff.2 ⟨⟨hlow, hhigh⟩, hrestored, hroom, hcredit⟩
  obtain ⟨hstill, hkept, hflag, hflight⟩ := s.takeCoin_effect coin
  obtain ⟨hescrow, hgate, hbanked, hslug, -, -, -, hreasons⟩ := CoinState.still_fields hstill
  obtain ⟨htotals, hcounts, hvault, -⟩ := CashState.kept_fields hkept
  have hplaced : (s.takeCoin coin).coin.escrow ≠ [] ∨ (s.takeCoin coin).coin.gate ≠ none := by
    rw [hescrow, hgate]
    cases hop : s.coin.inFlight
    · simp [CoinState.place_of_idle hop]
    · simp [CoinState.place_of_inFlight hop]
  have hexec : exec (.validatorStrobe code) s = .next (s.takeCoin coin) := by
    refine congrArg Host.Outcome.next ?_
    rw [State.whenLive_of_live hlive, if_pos htakes, State.closeTest_of_coin hplaced]
  refine ⟨s.takeCoin coin, hexec, fun hop => ?_, fun hop => ?_, by simp [hbanked], by simp [hslug],
    by simp [hreasons], by rw [htotals]; rfl, by rw [hcounts]; rfl, by rw [hvault]; rfl, hflag, by simp⟩
  · rw [hescrow, hgate, CoinState.place_of_idle hop]
    exact ⟨rfl, rfl⟩
  · rw [hflight hop, CoinState.place_of_inFlight hop]
    exact ⟨rfl, rfl, rfl, rfl⟩

/-- Settles O29, by the state of the flap input and of the settle window. -/
theorem flapAndChuteInputs : Obligations.FlapAndChuteInputs := by
  intro s hlive
  refine ⟨fun hhome => congrArg Host.Outcome.next (if_pos hhome), fun haway => ?_, rfl, fun chute => ?_⟩
  · refine (congrArg Host.Outcome.next (if_neg (by simp [haway]))).trans (congrArg Host.Outcome.next ?_)
    rw [State.whenLive_of_live (show (s.updPins fun p => { p with flapHome := true }).isHeld = false from hlive),
      State.flapReturns]
    by_cases hop : s.coin.inFlight = true ∧ s.coin.flapTimer ≠ none
    · rw [if_pos hop, if_pos (by simpa [Option.isSome_iff_ne_none] using hop)]
      simp only [EscrowOp.settleMs_eq]
      rfl
    · rw [if_neg hop, if_neg (by simpa [Option.isSome_iff_ne_none] using hop)]
      rfl
  · refine congrArg Host.Outcome.next ?_
    rw [State.whenLive_of_live hlive]
    by_cases hcount : s.coin.settleTimer ≠ none ∧
        ((chute = .vault ∧ s.coin.op = .collecting) ∨ (chute = .ret ∧ s.coin.op = .refunding))
    · rw [if_pos hcount, if_pos (by simpa [Option.isSome_iff_ne_none, chuteMatches_iff] using hcount)]
      rfl
    · rw [if_neg hcount, if_neg (by simpa [Option.isSome_iff_ne_none, chuteMatches_iff] using hcount)]

/-- Settles O32: each debounced change sets the level, and a press that is honoured is a refund request. -/
theorem returnLever : Obligations.ReturnLever := by
  refine ⟨fun s m hlive => ⟨fun pressed => ?_, fun hlever hpin => ?_, fun hlever => ?_⟩,
    fun s m hlive hlever hpin => ?_⟩
  · refine congrArg Host.Outcome.next ?_
    by_cases hsame : s.pins.leverPressed = pressed
    · rw [if_pos hsame, if_pos hsame]
    · rw [if_neg hsame, if_neg hsame]
      have hdeb : (s.updPins fun p => { p with leverPressed := pressed }).debounces = s.restored := by
        simp only [State.debounces, State.isHeld, State.restored] at hlive ⊢
        simp [hlive]
      cases hr : s.restored
      · simp [hdeb, hr]
        rfl
      · simp [hdeb, hr]
        rfl
  · refine congrArg Host.Outcome.next ?_
    rw [State.whenLive_of_live hlive, if_pos (by simp [hlever, hpin]),
      State.onExpiry_of_running (by rw [hlever])]
    simp [State.settleLever, State.reach, State.updNow, State.updLever, hpin]
  · refine congrArg Host.Outcome.next ?_
    rw [State.whenLive_of_live hlive, if_pos (by rw [hlever]), State.onExpiry_of_running (by rw [hlever])]
    rfl
  · have hexec : exec .returnLeverPress s = .next ((s.reach m).settleLever.leverPressed) := by
      refine congrArg Host.Outcome.next ?_
      rw [State.whenLive_of_live hlive, if_pos (by simp [hlever, hpin]),
        State.onExpiry_of_running (by rw [hlever])]
    have hsettled : (s.reach m).settleLever = { s with now := max s.now m, lever := ⟨some true, none⟩ } := by
      simp [State.settleLever, State.reach, State.updNow, State.updLever, hpin]
    have howns : s.customerOwns = true ↔ s.line.owner = some .customer := by simp [State.customerOwns]
    rw [hexec, hsettled]
    refine ⟨fun hbusy => ?_, fun hidle hfree hcoins => ?_, fun hidle hfree hempty => ?_⟩
    · refine congrArg Host.Outcome.next (if_pos ?_)
      rw [← howns] at hbusy
      exact Bool.or_eq_true_iff.2 hbusy
    · refine congrArg Host.Outcome.next ((if_neg ?_).trans ?_)
      · rw [Bool.or_eq_true, not_or]
        exact ⟨by simpa using hidle, fun h => hfree (howns.1 h)⟩
      · exact (if_neg (by simpa using hidle)).trans (if_neg hcoins)
    · refine congrArg Host.Outcome.next ((if_neg ?_).trans ?_)
      · rw [Bool.or_eq_true, not_or]
        exact ⟨by simpa using hidle, fun h => hfree (howns.1 h)⟩
      · exact (if_neg (by simpa using hidle)).trans (if_pos hempty)
end

section
/-! SUPPORT. What a payment, a re-check, a call's end and the grants they lead to leave: the coins held, the operation
in flight, the takings, the counts of every other alarm, and the tallies that no call raises. -/

namespace Sys2Proof.Machine

/-- The coins held and the marks of the coin handler: all but banked credit, the operation and the request. -/
def CoinState.holdings (c : CoinState) : CoinState := { c.still with banked := 0 }

/-- The operation in flight with its counts and timers (R9). -/
def CoinState.operation (c : CoinState) : EscrowOp × Nat × Nat × Actuator × Timer × Timer :=
  (c.op, c.opItems, c.chuteCount, c.actuator, c.flapTimer, c.settleTimer)

/-- The items of the cash image that neither a payment nor a forfeiture nor a call's end changes. -/
def CashState.takings (c : CashState) : CashState :=
  { c.kept with totals := { c.totals with revenue := 0, forfeited := 0 }, summary := 0#8 }

/-- The tallies that the course of a call or of a report raises. -/
def TallyName.byCalls : TallyName → Bool
  | .paidSeized | .free | .emergency | .merges | .barred | .noTariff | .depositTimeouts | .reportAttempts
  | .reportsAcknowledged | .graceEntries | .creditCuts => true
  | _ => false

/-- What an occurrence of a kind reads and writes of its entry, beside the phase within a cycle. -/
def AlarmEntry.standing (e : AlarmEntry) : Nat × Bool × Option CalTime := (e.count, e.phase.outOfCycle, e.lastTime)

theorem CoinState.holdings_fields {c d : CoinState} (h : d.holdings = c.holdings) :
    d.escrow = c.escrow ∧ d.gate = c.gate ∧ d.fillWarned = c.fillWarned ∧ d.reasons = c.reasons :=
  ⟨(congrArg CoinState.escrow h :), (congrArg CoinState.gate h :), (congrArg CoinState.fillWarned h :),
    (congrArg CoinState.reasons h :)⟩

theorem CoinState.holdings_of_still {c d : CoinState} (h : d.still = c.still) : d.holdings = c.holdings :=
  congrArg (fun c : CoinState => { c with banked := 0 }) h

theorem CashState.takings_of_kept {c d : CashState} (h : d.kept = c.kept) : d.takings = c.takings :=
  congrArg (fun c : CashState =>
    { c with totals := { c.totals with revenue := 0, forfeited := 0 }, summary := 0#8 }) h

theorem CashState.takings_fields {c d : CashState} (h : d.takings = c.takings) :
    d.totals.accepted = c.totals.accepted ∧ d.totals.collected = c.totals.collected ∧
      d.totals.jammed = c.totals.jammed ∧ d.totals.refunded = c.totals.refunded ∧
      d.totals.unconfirmed = c.totals.unconfirmed ∧ d.vaultCoins = c.vaultCoins ∧ d.closeOwed = c.closeOwed :=
  ⟨(congrArg (fun c => c.totals.accepted) h :), (congrArg (fun c => c.totals.collected) h :),
    (congrArg (fun c => c.totals.jammed) h :), (congrArg (fun c => c.totals.refunded) h :),
    (congrArg (fun c => c.totals.unconfirmed) h :), (congrArg CashState.vaultCoins h :),
    (congrArg CashState.closeOwed h :)⟩

/-! ### Entries through an occurrence and a failure -/

theorem AlarmState.occur_get_other (a : AlarmState) {j k : AlarmKind} (h : k ≠ j) (enabled : Bool) (t : CalTime) :
    (a.occur j enabled t).get k = a.get k := (alarmTableRules.1 a j enabled t).2.2 k h

theorem AlarmState.fail_standing (a : AlarmState) (k : AlarmKind) : (a.fail.get k).standing = (a.get k).standing := by
  rw [AlarmState.fail_get]
  simp only [AlarmEntry.unreported]
  split
  · rename_i h
    simp only [AlarmEntry.standing, h]
    rfl
  · rfl

/-- The entry that an occurrence leaves depends on the standing of the entry, but for the phase and what is carried. -/
theorem AlarmState.occur_standing_congr {a b : AlarmState} {k : AlarmKind}
    (h : (a.get k).standing = (b.get k).standing) (enabled : Bool) (t : CalTime) :
    ((a.occur k enabled t).get k).standing = ((b.occur k enabled t).get k).standing := by
  simp only [AlarmEntry.standing, Prod.mk.injEq] at h
  obtain ⟨hcount, hcycle, -⟩ := h
  cases hp : (b.get k).phase.outOfCycle with
  | true =>
    rw [AlarmState.occur, AlarmState.occur, hcycle, hp]
    cases enabled <;> simp [AlarmEntry.standing, cycleEntry, AlarmPhase.outOfCycle]
  | false =>
    rw [AlarmState.occur, AlarmState.occur, hcycle, hp]
    simp [AlarmEntry.standing, AlarmEntry.again, hcount, hcycle, hp]

theorem AlarmState.occur_count_congr {a b : AlarmState} {k : AlarmKind}
    (h : (a.get k).standing = (b.get k).standing) (enabled : Bool) (t : CalTime) :
    ((a.occur k enabled t).get k).count = ((b.occur k enabled t).get k).count :=
  congrArg Prod.fst (AlarmState.occur_standing_congr h enabled t)

/-! ### The relation -/

/-- From the one state to the other the coins held, the operation in flight, the takings, the standing of every kind
but those listed and the tallies that no call raises have stayed; a pending request has stayed unless there was a coin
or an operation. -/
structure State.incidental (kinds : List AlarmKind) (s t : State) : Prop where
  holdings : t.coin.holdings = s.coin.holdings
  operation : s.coin.inFlight = true ∨ s.coin.escrow = [] → t.coin.operation = s.coin.operation
  request : s.coin.inFlight = false → s.coin.escrow = [] → t.coin.request = s.coin.request
  settle : s.coin.settleTimer = none → t.coin.settleTimer = none
  takings : t.cash.takings = s.cash.takings
  standing : ∀ k, k ∉ kinds → (t.alarms.get k).standing = (s.alarms.get k).standing
  tallies : ∀ name : TallyName, name.byCalls = false → t.pendingTally name = s.pendingTally name

theorem CoinState.inFlight_congr {c d : CoinState} (h : d.operation = c.operation) : d.inFlight = c.inFlight := by
  have : d.op = c.op := congrArg Prod.fst h
  simp only [CoinState.inFlight, this]

theorem State.incidental_self (kinds : List AlarmKind) (s : State) : s.incidental kinds s :=
  ⟨rfl, fun _ => rfl, fun _ _ => rfl, id, rfl, fun _ _ => rfl, fun _ _ => rfl⟩

/-- The state's part that the relation speaks of has stayed. -/
theorem State.incidental_of_same {kinds : List AlarmKind} {s t : State} (hcoin : t.coin = s.coin)
    (hcash : t.cash.takings = s.cash.takings) (halarms : t.alarms = s.alarms)
    (htallies : t.path.tallies = s.path.tallies) : s.incidental kinds t :=
  ⟨by rw [hcoin], fun _ => by rw [hcoin], fun _ _ => by rw [hcoin], fun h => by rw [hcoin, h], hcash, fun _ _ => by rw [halarms],
    fun name _ => State.pendingTally_congr htallies name⟩

namespace State.incidental

variable {kinds : List AlarmKind} {s₀ s : State}

theorem trans {t : State} (h : s₀.incidental kinds s) (h' : s.incidental kinds t) : s₀.incidental kinds t where
  holdings := h'.holdings.trans h.holdings
  operation := by
    intro hop
    refine (h'.operation ?_).trans (h.operation hop)
    rw [CoinState.inFlight_congr (h.operation hop), (CoinState.holdings_fields h.holdings).1]
    exact hop
  request := by
    intro hidle hempty
    refine (h'.request ?_ ?_).trans (h.request hidle hempty)
    · rw [CoinState.inFlight_congr (h.operation (.inr hempty)), hidle]
    · rw [(CoinState.holdings_fields h.holdings).1, hempty]
  settle := h'.settle ∘ h.settle
  takings := h'.takings.trans h.takings
  standing := fun k hk => (h'.standing k hk).trans (h.standing k hk)
  tallies := fun name hn => (h'.tallies name hn).trans (h.tallies name hn)

theorem same {t : State} (h : s₀.incidental kinds s) (hcoin : t.coin = s.coin)
    (hcash : t.cash.takings = s.cash.takings) (halarms : t.alarms = s.alarms)
    (htallies : t.path.tallies = s.path.tallies) : s₀.incidental kinds t :=
  h.trans (State.incidental_of_same hcoin hcash halarms htallies)

theorem updLine (h : s₀.incidental kinds s) (f : LineState → LineState) : s₀.incidental kinds (s.updLine f) :=
  h.same rfl rfl rfl rfl

theorem updReport (h : s₀.incidental kinds s) (f : ReportState → ReportState) :
    s₀.incidental kinds (s.updReport f) := h.same rfl rfl rfl rfl

theorem updRecords (h : s₀.incidental kinds s) (f : RecordState → RecordState) :
    s₀.incidental kinds (s.updRecords f) := h.same rfl rfl rfl rfl

theorem updContext (h : s₀.incidental kinds s) (f : RatingContext → RatingContext) :
    s₀.incidental kinds (s.updContext f) := h.same rfl rfl rfl rfl

/-- Changes of the alarm table are followed kind by kind. -/
theorem updAlarms (h : s₀.incidental kinds s) {f : AlarmState → AlarmState}
    (hf : ∀ k, k ∉ kinds → ((f s.alarms).get k).standing = (s.alarms.get k).standing) :
    s₀.incidental kinds (s.updAlarms f) :=
  h.trans ⟨rfl, fun _ => rfl, fun _ _ => rfl, id, rfl, hf, fun _ _ => rfl⟩

theorem raise (h : s₀.incidental kinds s) (f : EventFlag) : s₀.incidental kinds (s.raise f) :=
  h.same rfl rfl rfl rfl

theorem tally (h : s₀.incidental kinds s) {name : TallyName} (hname : name.byCalls = true) :
    s₀.incidental kinds (s.tally name) := by
  refine h.trans ⟨rfl, fun _ => rfl, fun _ _ => rfl, id, rfl, fun _ _ => rfl, fun other hother => ?_⟩
  refine s.tally_pendingTally ?_
  rintro rfl
  simp [hother] at hname

theorem cashChanged (h : s₀.incidental kinds s) : s₀.incidental kinds s.cashChanged :=
  h.same (by simp) (CashState.takings_of_kept (by simp)) (by simp) (by simp)

theorem setNumberPhase (h : s₀.incidental kinds s) (p : NumberPhase) :
    s₀.incidental kinds (s.setNumberPhase p) := h.same (by simp) (by simp) (by simp) (by simp)

theorem refuseNumber (h : s₀.incidental kinds s) (c : RefusalCause) : s₀.incidental kinds (s.refuseNumber c) := by
  have hbefore (u : State) (hu : s₀.incidental kinds u) : s₀.incidental kinds (u.tallyRefusal c) := by
    cases c
    case barred => exact hu.tally rfl
    case noTariff => exact hu.tally rfl
    case depositTimeout => exact hu.tally rfl
    all_goals exact hu
  exact hbefore _ (h.same (by simp) (by simp) (by simp) (by simp))

theorem endNumber (h : s₀.incidental kinds s) : s₀.incidental kinds s.endNumber :=
  h.same (by simp) (by simp) (by simp) (by simp)

theorem openMirror (h : s₀.incidental kinds s) (k : ZoneKind) : s₀.incidental kinds (s.openMirror k) :=
  h.same (by simp) (CashState.takings_of_kept (by simp)) (by simp) (by simp [State.openMirror])

theorem grantCustomer (h : s₀.incidental kinds s) : s₀.incidental kinds s.grantCustomer := by
  have htake : s₀.incidental kinds ((s.takeLine .customer).raise .call) :=
    h.same (by simp) (by simp) (by simp) (by simp)
  simp only [State.grantCustomer]
  split
  · rename_i k _
    refine State.incidental.openMirror ?_ k
    cases k
    case barred => exact htake
    all_goals exact htake.tally rfl
  · exact htake

theorem grantWaiting (h : s₀.incidental kinds s) : s₀.incidental kinds s.grantWaiting := by
  simp only [State.grantWaiting]
  (repeat' split)
  · exact h.grantCustomer
  · exact h.same (by simp) (by simp) (by simp) (by simp)
  · exact h
  · exact h

theorem placeReport (h : s₀.incidental kinds s) (n : Nat) : s₀.incidental kinds (s.placeReport n) :=
  (h.updLine _).grantWaiting

theorem beginRun (h : s₀.incidental kinds s) : s₀.incidental kinds s.beginRun :=
  (h.updReport _).placeReport _

theorem checkQueue (h : s₀.incidental kinds s) : s₀.incidental kinds s.checkQueue := by
  simp only [State.checkQueue]
  split
  · exact h.beginRun
  · exact h

theorem noticeNewKind (h : s₀.incidental kinds s) : s₀.incidental kinds s.noticeNewKind := by
  simp only [State.noticeNewKind]
  split
  · exact h.checkQueue
  · exact h.beginRun
  · exact h.beginRun
  · exact h

theorem occurrence (h : s₀.incidental kinds s) {k : AlarmKind} (hk : k ∈ kinds) :
    s₀.incidental kinds (s.occurrence k) := by
  have hoccur : s₀.incidental kinds
      (((s.updAlarms fun a => a.occur k (k.isIn s.setup.settings.reportEnables) s.calendar).raise
        .alarm).cashChanged) := by
    refine ((h.updAlarms fun j hj => ?_).raise _).cashChanged
    exact congrArg AlarmEntry.standing (s.alarms.occur_get_other (fun e : j = k => hj (e ▸ hk)) _ _)
  simp only [State.occurrence]
  split
  · exact hoccur.noticeNewKind
  · exact hoccur

theorem offerRecord (h : s₀.incidental kinds s) (r : CallRecord) : s₀.incidental kinds (s.offerRecord r) := by
  simp only [State.offerRecord]
  split
  · exact (h.updRecords _).tally rfl
  split
  · exact h.same (by simp) (by simp) (by simp) (by simp)
  · exact h.same (by simp) (by simp) (by simp) (by simp)

theorem failReporting (h : s₀.incidental kinds s) : s₀.incidental kinds s.failReporting := by
  simp only [State.failReporting]
  split
  · exact h
  · exact (h.updAlarms fun k _ => s.alarms.fail_standing k).cashChanged

theorem attemptOutcome (h : s₀.incidental kinds s) (c : EndCause) : s₀.incidental kinds (s.attemptOutcome c) := by
  have hfailed : s₀.incidental kinds s.failedAttempt := (h.updReport _).tally rfl
  have hresume : s₀.incidental kinds s.resumeRun := (h.updReport _).placeReport _
  cases c
  case ok =>
    have hended : s₀.incidental kinds (s.endRun.updReport fun r => { r with statusMark := false }) :=
      (h.updReport _).updReport _
    exact ((hended.tally rfl).tally rfl).checkQueue
  case preempted => exact hresume
  case restart => exact hresume
  all_goals exact hfailed

theorem closeAttempt (h : s₀.incidental kinds s) (c : EndCause) (t : CalTime) :
    s₀.incidental kinds (s.closeAttempt c t) := by
  have hfail : s₀.incidental kinds (if c = .ok then s else s.failReporting) := by
    split
    · exact h
    · exact h.failReporting
  exact (((hfail.offerRecord _).updReport _).raise _).attemptOutcome c

theorem endReport (h : s₀.incidental kinds s) (c : EndCause) : s₀.incidental kinds (s.endReport c) :=
  closeAttempt (h.same (by simp) (by simp) (by simp) (by simp)) c _

theorem placeCustomer (h : s₀.incidental kinds s) (c : RequestClass) : s₀.incidental kinds (s.placeCustomer c) := by
  have hset : s₀.incidental kinds (s.updLine fun l => { l with customerRequest := some c }) :=
    h.same rfl rfl rfl rfl
  cases c
  case paidFree => exact hset.grantWaiting
  case emergency =>
    simp only [State.placeCustomer, State.preemptReport]
    split
    · exact (hset.endReport _).grantWaiting
    · exact hset.grantWaiting

theorem toWaitLine (h : s₀.incidental kinds s) : s₀.incidental kinds s.toWaitLine :=
  placeCustomer (setNumberPhase (s := s.stopNumberTimers) (h.same rfl rfl rfl rfl) .waitLine) _

theorem toWaitDeposit (h : s₀.incidental kinds s) : s₀.incidental kinds s.toWaitDeposit :=
  (setNumberPhase (s := s.stopNumberTimers) (h.same rfl rfl rfl rfl) .waitDeposit).same rfl rfl rfl rfl

theorem recheckDeposit (h : s₀.incidental kinds s) : s₀.incidental kinds s.recheckDeposit := by
  simp only [State.recheckDeposit]
  split
  · exact h
  split
  · split
    · exact h.toWaitLine
    · exact h
  split
  · exact toWaitDeposit (s := s.withdrawCustomer) (h.same rfl rfl rfl rfl)
  · exact h

theorem creditChanged (h : s₀.incidental kinds s) : s₀.incidental kinds s.creditChanged := h.cashChanged.recheckDeposit

/-- Banked credit and the totals of revenue and forfeiture are no part of the relation. -/
theorem updMoney (h : s₀.incidental kinds s) {f : CashState → CashState} {g : CoinState → CoinState}
    (hf : (f s.cash).takings = s.cash.takings) (hg : ∃ n, g s.coin = { s.coin with banked := n }) :
    s₀.incidental kinds ((s.updCash f).updCoin g) := by
  obtain ⟨n, hn⟩ := hg
  refine h.trans ⟨?_, fun _ => ?_, fun _ _ => ?_, fun hnone => ?_, hf, fun _ _ => rfl, fun _ _ => rfl⟩ <;>
    simp only [State.updCoin_coin, State.updCash_coin, hn]
  · rfl
  · rfl
  · exact hnone

theorem forfeit (h : s₀.incidental kinds s) : s₀.incidental kinds s.forfeit := by
  simp only [State.forfeit]
  split
  · exact h
  · exact (h.updMoney (by rfl) ⟨0, rfl⟩).creditChanged

theorem trapCheck (h : s₀.incidental kinds s) (hk : .ratingAnomaly ∈ kinds) (f : RatingFlags) :
    s₀.incidental kinds (s.trapCheck f) := by
  simp only [State.trapCheck]
  split
  · split
    · exact h
    · exact cashChanged (h.same rfl rfl rfl rfl)
  · split
    · exact h.occurrence hk
    · exact cashChanged ((h.occurrence hk).same rfl rfl rfl rfl)

theorem clearMirror (h : s₀.incidental kinds s) : s₀.incidental kinds s.clearMirror :=
  h.same (by simp) (CashState.takings_of_kept (by simp)) (by simp) (by
    simp only [State.clearMirror]
    split <;> simp)

theorem numberAfterCall (h : s₀.incidental kinds s) (c : EndCause) : s₀.incidental kinds (s.numberAfterCall c) := by
  cases c
  case noDialTone => exact h.refuseNumber _
  all_goals exact h.endNumber

theorem endCall (h : s₀.incidental kinds s) (hk : .ratingAnomaly ∈ kinds) (c : EndCause) :
    s₀.incidental kinds (s.endCall c) := by
  have hrelease : s₀.incidental kinds s.releaseLine.endPips := h.same (by simp) (by simp) (by simp) (by simp)
  exact (((((hrelease.trapCheck hk s.callStatus).clearMirror).offerRecord _).numberAfterCall c).raise .call)

theorem mirrorCall (h : s₀.incidental kinds s) (c : RatingContext) : s₀.incidental kinds (s.mirrorCall c) :=
  h.same (by simp) (CashState.takings_of_kept (by simp)) (by simp) (by
    simp only [State.mirrorCall]
    (repeat' split) <;> simp)

theorem addStatus (h : s₀.incidental kinds s) (f : RatingFlags) : s₀.incidental kinds (s.addStatus f) := by
  simp only [State.addStatus]
  split
  · exact (h.updContext _).mirrorCall _
  · exact h

theorem cutCall (h : s₀.incidental kinds s) (hk : .ratingAnomaly ∈ kinds) : s₀.incidental kinds s.cutCall := by
  have hcut : s₀.incidental kinds ((s.addStatus RatingFlag.graceCut.only).tally .creditCuts) :=
    (h.addStatus _).tally rfl
  simp only [State.cutCall, State.endCustomerCall]
  split
  · exact hcut.endCall hk _
  · exact hcut

theorem payCharge (h : s₀.incidental kinds s) (c : RatingContext) (p : Charge) :
    s₀.incidental kinds (s.payCharge c p) := by
  have hdraw : s₀.incidental kinds (s.drawBanked p.amount) := by
    refine creditChanged (h.trans (t := (s.updCoin _).updCash _)
      ⟨rfl, fun _ => rfl, fun _ _ => rfl, id, rfl, fun _ _ => rfl, fun _ _ => rfl⟩)
  exact ((hdraw.updContext _).mirrorCall _).same rfl rfl rfl rfl

theorem requestCollect (h : s₀.incidental kinds s) : s₀.incidental kinds s.requestCollect := by
  refine h.trans ⟨CoinState.holdings_of_still (by simp), fun hop => ?_, fun hidle hempty => ?_, fun hnone => ?_,
    by simp, fun _ _ => by simp, fun name _ => State.pendingTally_congr (by simp) name⟩
  · simp only [State.requestCollect]
    split
    · rfl
    split
    · rfl
    · rename_i hidle hcoins
      exact absurd (hop.resolve_left hidle) hcoins
  · simp [State.requestCollect, hidle, hempty]
  · simp only [State.requestCollect]
    (repeat' split)
    · exact hnone
    · exact hnone
    · rfl

theorem pipFallsDue (h : s₀.incidental kinds s) (n : Nat) : s₀.incidental kinds (s.pipFallsDue n) :=
  h.same (by simp [State.pipFallsDue]) (by simp [State.pipFallsDue]) (by simp [State.pipFallsDue])
    (by simp [State.pipFallsDue])

theorem awaitCredit (h : s₀.incidental kinds s) : s₀.incidental kinds s.awaitCredit := by
  simp only [State.awaitCredit]
  split
  · exact (h.updContext _).requestCollect
  · exact ((((h.updContext _).raise _).tally rfl).pipFallsDue _)

theorem checkCharge (h : s₀.incidental kinds s) : s₀.incidental kinds s.checkCharge := by
  simp only [State.checkCharge]
  (repeat' split)
  · exact h.payCharge _ _
  · exact h.awaitCredit
  · exact h
  · exact h

theorem raiseCharge (h : s₀.incidental kinds s) (a u : Nat) (o : ChargeOrigin) :
    s₀.incidental kinds (s.raiseCharge a u o) := h.same rfl rfl rfl rfl

theorem unitEnds (h : s₀.incidental kinds s) : s₀.incidental kinds s.unitEnds := by
  simp only [State.unitEnds]
  (repeat' split)
  · exact (((h.updContext _).addStatus _).raiseCharge _ _ _).checkCharge
  · exact h
  · exact h

theorem payAndGoOn (h : s₀.incidental kinds s) (c : RatingContext) (p : Charge) :
    s₀.incidental kinds (s.payAndGoOn c p) := by
  simp only [State.payAndGoOn]
  split
  · exact (h.payCharge c p).unitEnds
  · exact h.payCharge c p

theorem paymentCheck (h : s₀.incidental kinds s) : s₀.incidental kinds s.paymentCheck := by
  simp only [State.paymentCheck]
  (repeat' split)
  · exact h.payAndGoOn _ _
  · exact h.awaitCredit
  · exact h
  · exact h

theorem graceRecheck (h : s₀.incidental kinds s) (hk : .ratingAnomaly ∈ kinds) (c : RatingContext) :
    s₀.incidental kinds (s.graceRecheck c) := by
  simp only [State.graceRecheck]
  (repeat' split)
  · exact h
  · exact h.payAndGoOn _ _
  · exact h.cutCall hk
  · exact h.requestCollect
  · exact h

theorem collectCompletion (h : s₀.incidental kinds s) (hk : .ratingAnomaly ∈ kinds) (v : Nat) :
    s₀.incidental kinds (s.collectCompletion v) := by
  have hcoins : s₀.incidental kinds (s.countCoins v) := h.same rfl rfl rfl rfl
  simp only [State.collectCompletion, State.recheckPayment]
  (repeat' split)
  · exact h
  · exact hcoins
  · exact hcoins.paymentCheck
  · exact hcoins.graceRecheck hk _
  · exact hcoins
  · exact h

theorem graceArrival (h : s₀.incidental kinds s) : s₀.incidental kinds s.graceArrival := by
  simp only [State.graceArrival]
  (repeat' split)
  · exact h.requestCollect
  · exact h
  · exact h

end State.incidental

end Sys2Proof.Machine
end

section
/-! The end of an escrow operation: its result, the fill level of the vault, and what follows every end (chapter 1). -/

namespace Sys2Proof.Machine

/-! ### What follows every end (R14) -/

/-- The operation over `n` items that has just started at `now` (R9). -/
def startedOperation (op : EscrowOp) (drive : Actuator) (n now : Nat) :
    EscrowOp × Nat × Nat × Actuator × Timer × Timer := (op, n, 0, drive, some (now + 1500), none)

/-- The pending request, or with none the standing refund condition, starts over a non-empty escrow (R14). -/
theorem State.nextOperation_cases (s : State) :
    (s.coin.escrow = [] → s.nextOperation.coin = { s.coin with request := .none }) ∧
    (s.coin.escrow ≠ [] → s.coin.request = .collect →
      s.nextOperation.coin.operation = startedOperation .collecting .collect s.coin.escrow.length s.now) ∧
    (s.coin.escrow ≠ [] → s.coin.request = .refund ∨ (s.coin.request = .none ∧ s.standingRefund = true) →
      s.nextOperation.coin.operation = startedOperation .refunding .refund s.coin.escrow.length s.now) ∧
    (s.coin.request = .none → s.standingRefund = false →
      s.nextOperation.coin = { s.coin with request := .none }) := by
  refine ⟨fun hempty => ?_, fun hcoins hreq => ?_, fun hcoins hreq => ?_, fun hreq hstand => ?_⟩
  · simp only [State.nextOperation]
    split <;> simp [hempty]
  · simp only [State.nextOperation, hreq, if_neg hcoins]
    rfl
  · rcases hreq with hreq | ⟨hreq, hstand⟩
    · simp only [State.nextOperation, hreq, if_neg hcoins]
      rfl
    · simp only [State.nextOperation, hreq, if_pos (And.intro hcoins hstand)]
      rfl
  · simp only [State.nextOperation, hreq, hstand]
    simp

@[simp] theorem State.moveGate_kept (s : State) : s.moveGate.cash.kept = s.cash.kept := by
  simp only [State.moveGate]
  split <;> simp

@[simp] theorem State.moveGate_tallies (s : State) : s.moveGate.path.tallies = s.path.tallies := by
  simp only [State.moveGate]
  split <;> simp

/-- The move of the gate coin touches the escrow and the gate alone. -/
theorem State.moveGate_coin (s : State) :
    s.moveGate.coin = { s.coin with escrow := s.coin.gate.toList ++ s.coin.escrow, gate := none } := by
  simp only [State.moveGate]
  split
  · rename_i g hg
    simp [hg]
  · rename_i hg
    generalize s.coin = c at hg ⊢
    cases c
    cases hg
    rfl

/-- A collection close changes of the coin handler the fill-warned flag and the reason VAULT_FULL (R143). -/
theorem State.closeTest_coin (s : State) : ∃ w r, s.closeTest.coin =
    { s.coin with fillWarned := w, reasons := { s.coin.reasons with vaultFull := r } } := by
  have hsame : s.coin = { s.coin with fillWarned := s.coin.fillWarned,
                                      reasons := { s.coin.reasons with vaultFull := s.coin.reasons.vaultFull } } := rfl
  simp only [State.closeTest]
  split
  · simp only [State.collectionClose, State.removeReason]
    split
    · exact ⟨false, false, by simp [ServiceReasons.put]⟩
    · exact ⟨false, s.coin.reasons.vaultFull, by simp⟩
  · exact ⟨_, _, hsame⟩

@[simp] theorem State.closeTest_tallies (s : State) : s.closeTest.path.tallies = s.path.tallies := by
  simp only [State.closeTest, State.collectionClose, State.removeReason]
  (repeat' split) <;> simp

/-- The next operation runs no settle window before its flap is home (R9). -/
theorem State.nextOperation_settleTimer {s : State} (h : s.coin.settleTimer = none) :
    s.nextOperation.coin.settleTimer = none := by
  simp only [State.nextOperation]
  (repeat' split)
  · exact h
  · rfl
  · exact h
  · rfl
  · rfl
  · exact h

/-- The purse, the alarms and the tallies after what follows an end, whatever the rating engine did (R14). -/
theorem State.endOperation_effect {s t : State} {name : TallyName} {kinds : List AlarmKind}
    (h : ((s.tally name).moveGate.nextOperation).incidental kinds t) :
    t.closeTest.coin.escrow = s.coin.gate.toList ++ s.coin.escrow ∧ t.closeTest.coin.gate = none ∧
      (s.coin.settleTimer = none → t.closeTest.coin.settleTimer = none) ∧
      t.closeTest.coin.reasons.escrowJammed = s.coin.reasons.escrowJammed ∧
      (∀ k, k ∉ kinds → (t.closeTest.alarms.get k).standing = (s.alarms.get k).standing) ∧
      (∀ n : TallyName, n ≠ name → n.byCalls = false → t.closeTest.pendingTally n = s.pendingTally n) ∧
      (s.cash.closeOwed = false → t.closeTest = t ∧ t.cash.takings = s.cash.takings ∧
        t.coin.fillWarned = s.coin.fillWarned ∧ t.coin.reasons = s.coin.reasons) := by
  have hstill := State.nextOperation_still (s.tally name).moveGate
  have hhold := h.holdings.trans (CoinState.holdings_of_still hstill)
  rw [State.moveGate_coin] at hhold
  obtain ⟨hescrow, hgate, hwarned, hreasons⟩ := CoinState.holdings_fields hhold
  obtain ⟨w, r, hcoin⟩ := t.closeTest_coin
  have htake : t.cash.takings = s.cash.takings := h.takings.trans (CashState.takings_of_kept (by simp))
  rw [hcoin]
  refine ⟨hescrow, hgate, fun hnone => h.settle ?_, (congrArg ServiceReasons.escrowJammed hreasons :), fun k hk => ?_,
    fun n hn hcalls => ?_, fun howed => ⟨?_, htake, hwarned, hreasons⟩⟩
  · refine State.nextOperation_settleTimer ?_
    rw [State.moveGate_coin]
    exact hnone
  · have := h.standing k hk
    simpa using this
  · refine (State.pendingTally_congr t.closeTest_tallies n).trans ((h.tallies n hcalls).trans ?_)
    exact (State.pendingTally_congr (by simp) n).trans (s.tally_pendingTally hn)
  · refine State.closeTest_of_not_owed ?_
    exact (CashState.takings_fields htake).2.2.2.2.2.2.trans howed

/-- The operation after what follows an end: what the pending request or the standing refund condition starts (R14). -/
theorem State.endOperation_operation {s t : State} {name : TallyName} {kinds : List AlarmKind}
    (h : ((s.tally name).moveGate.nextOperation).incidental kinds t) (hidle : s.coin.inFlight = false) :
    (s.coin.gate.toList ++ s.coin.escrow = [] →
      t.closeTest.coin.operation = s.coin.operation ∧ t.closeTest.coin.request = .none) ∧
    (s.coin.gate.toList ++ s.coin.escrow ≠ [] → s.coin.request = .collect → t.closeTest.coin.operation =
      startedOperation .collecting .collect (s.coin.gate.toList ++ s.coin.escrow).length s.now) ∧
    (s.coin.gate.toList ++ s.coin.escrow ≠ [] →
      s.coin.request = .refund ∨ (s.coin.request = .none ∧ s.standingRefund = true) → t.closeTest.coin.operation =
      startedOperation .refunding .refund (s.coin.gate.toList ++ s.coin.escrow).length s.now) := by
  obtain ⟨w, r, hcoin⟩ := t.closeTest_coin
  have hop : t.closeTest.coin.operation = t.coin.operation := by rw [hcoin]; rfl
  have hreq : t.closeTest.coin.request = t.coin.request := by rw [hcoin]
  rw [hop, hreq]
  obtain ⟨hnone, hcollect, hrefund, -⟩ := (s.tally name).moveGate.nextOperation_cases
  have hstand : (s.tally name).moveGate.standingRefund = s.standingRefund := by simp [State.standingRefund]
  simp only [State.tally_frame, hstand, State.moveGate_frame,
    State.moveGate_coin] at hnone hcollect hrefund
  have hflight {op : EscrowOp} {drive : Actuator} {n m : Nat} (hop : op = .collecting ∨ op = .refunding)
      (hs : (s.tally name).moveGate.nextOperation.coin.operation = startedOperation op drive n m) :
      t.coin.operation = startedOperation op drive n m := by
    refine (h.operation (.inl ?_)).trans hs
    have : (s.tally name).moveGate.nextOperation.coin.op = op := congrArg Prod.fst hs
    rcases hop with rfl | rfl <;> simp [CoinState.inFlight, this]
  refine ⟨fun hleft => ?_, fun hleft hr => hflight (.inl rfl) (hcollect hleft hr),
    fun hleft hr => hflight (.inr rfl) (hrefund hleft hr)⟩
  have hstart := hnone hleft
  have hescrow : (s.tally name).moveGate.nextOperation.coin.escrow = [] := by rw [hstart]; exact hleft
  have hfree : (s.tally name).moveGate.nextOperation.coin.inFlight = false := by rw [hstart]; exact hidle
  refine ⟨(h.operation (.inr hescrow)).trans ?_, (h.request hfree hescrow).trans ?_⟩
  · rw [hstart]
    rfl
  · rw [hstart]

/-! ### Forfeiture and the end of a collect -/

theorem State.forfeit_coin (s : State) : s.forfeit.coin = { s.coin with banked := 0 } := by
  simp only [State.forfeit]
  split
  · rename_i h
    rw [← h]
  · simp

theorem State.collectCompletion_of_no_call {s : State} (h : s.rating.context = none) (v : Nat) :
    s.collectCompletion v = s := by
  simp [State.collectCompletion, h]

/-- The state that the rating engine leaves at the end of a collect of value `v`, before the test of an owed close. -/
def State.collectHanded (s : State) (v : Nat) : State :=
  let t := (s.tally .collects).moveGate.nextOperation
  (if 0 < v ∧ t.standingRefund then t.forfeit else t).collectCompletion v

theorem State.collectEnd_eq (s : State) (v : Nat) : s.collectEnd v = (s.collectHanded v).closeTest := rfl

theorem State.collectHanded_incidental (s : State) (v : Nat) :
    ((s.tally .collects).moveGate.nextOperation).incidental [.ratingAnomaly] (s.collectHanded v) := by
  refine State.incidental.collectCompletion ?_ (by simp) v
  split
  · exact (State.incidental_self _ _).forfeit
  · exact State.incidental_self _ _

/-- With no call to charge a collect's credit stays, but for a forfeiture under the standing refund condition. -/
theorem State.collectEnd_banked {s : State} (hnone : s.rating.context = none) (v : Nat) :
    (s.collectEnd v).coin.banked = if 0 < v ∧ s.standingRefund = true then 0 else s.coin.banked := by
  obtain ⟨w, r, hcoin⟩ := (s.collectHanded v).closeTest_coin
  rw [State.collectEnd_eq, hcoin]
  have hstand : (s.tally .collects).moveGate.nextOperation.standingRefund = s.standingRefund := by
    simp [State.standingRefund]
  have hbanked : (s.tally .collects).moveGate.nextOperation.coin.banked = s.coin.banked := by
    rw [(CoinState.still_fields (State.nextOperation_still _)).2.2.1, State.moveGate_coin]
    rfl
  simp only [State.collectHanded, hstand]
  split
  · rw [State.collectCompletion_of_no_call (by simpa using hnone), State.forfeit_coin]
  · rw [State.collectCompletion_of_no_call (by simpa using hnone), hbanked]

theorem State.collectEnd_operation_of_none {s : State} (hnone : s.rating.context = none)
    (hreq : s.coin.request = .none) (hstand : s.standingRefund = false) (v : Nat) :
    (s.collectEnd v).coin.operation = s.coin.operation ∧ (s.collectEnd v).coin.request = .none := by
  obtain ⟨w, r, hcoin⟩ := (s.collectHanded v).closeTest_coin
  have hst : (s.tally .collects).moveGate.nextOperation.standingRefund = s.standingRefund := by
    simp [State.standingRefund]
  have hnext := (s.tally .collects).moveGate.nextOperation_cases.2.2.2 (by simpa [State.moveGate_coin] using hreq)
    (by simpa [State.standingRefund] using hstand)
  have hhanded : (s.collectHanded v).coin = (s.tally .collects).moveGate.nextOperation.coin := by
    simp only [State.collectHanded, hst, hstand]
    rw [if_neg (by simp), State.collectCompletion_of_no_call (by simpa using hnone)]
  rw [State.collectEnd_eq, hcoin, hhanded, hnext, State.moveGate_coin]
  exact ⟨rfl, rfl⟩

/-! ### Reasons of paid service -/

theorem State.addReason_coin (s : State) (r : ServiceReason) :
    (s.addReason r).coin = { s.coin with reasons := s.coin.reasons.put r true } := by
  have hsame (h : s.coin.reasons.has r = true) : s.coin.reasons.put r true = s.coin.reasons := by
    cases r <;> simp only [ServiceReasons.has] at h <;> simp only [ServiceReasons.put] <;> rw [← h]
  simp only [State.addReason]
  split
  · rename_i h
    rw [hsame h]
  · simp

theorem State.addReason_no_context {s : State} (h : s.rating.context = none) (r : ServiceReason) :
    (s.addReason r).rating.context = none := by
  simp only [State.addReason, State.serviceLost]
  (repeat' split)
  · exact h
  · exact (State.refuseNumber_effect _ _).2.2.2.2.2.2
  · exact h

theorem State.addReason_tallies (s : State) (r : ServiceReason) {n : TallyName} (hn : n.byCalls = false) :
    (s.addReason r).pendingTally n = s.pendingTally n := by
  have hset : (s.updCoin fun c => { c with reasons := c.reasons.put r true }).incidental []
      ((s.updCoin fun c => { c with reasons := c.reasons.put r true }).raise .service) :=
    (State.incidental_self _ _).raise _
  simp only [State.addReason, State.serviceLost]
  (repeat' split)
  · rfl
  · exact (hset.refuseNumber .serviceUnavailable).tallies n hn
  · rfl

/-! ### The fill level of the vault (R22) -/

/-- The fill level is judged on the count that has risen; a warning is one occurrence, and a full vault a reason. -/
theorem State.checkFill_effect (s : State) (old : Nat) :
    let warns := old < s.setup.settings.fillLevel ∧ s.setup.settings.fillLevel ≤ s.cash.vaultCoins
    (∃ w r, (s.checkFill old).coin = { s.coin with fillWarned := w, reasons := r } ∧ (warns → w = true) ∧
      (s.setup.settings.vaultCapacity ≤ s.cash.vaultCoins → r.vaultFull = true) ∧
      r.escrowJammed = s.coin.reasons.escrowJammed) ∧
    (s.checkFill old).cash.kept = s.cash.kept ∧
    (s.checkFill old).alarms = (if warns ∧ s.coin.fillWarned = false then
      s.alarms.occur .vaultFull (AlarmKind.vaultFull.isIn s.setup.settings.reportEnables) s.calendar else s.alarms) ∧
    (s.rating.context = none → (s.checkFill old).rating.context = none) ∧
    ∀ n : TallyName, n.byCalls = false → (s.checkFill old).pendingTally n = s.pendingTally n := by
  intro warns
  let t := if old < s.setup.settings.fillLevel ∧ s.setup.settings.fillLevel ≤ s.cash.vaultCoins ∧
    s.coin.fillWarned = false then s.warnFill else s
  have ht : ∃ w, t.coin = { s.coin with fillWarned := w } ∧ (warns → w = true) ∧ t.cash.kept = s.cash.kept ∧
      t.alarms = (if warns ∧ s.coin.fillWarned = false then
        s.alarms.occur .vaultFull (AlarmKind.vaultFull.isIn s.setup.settings.reportEnables) s.calendar
        else s.alarms) ∧ t.rating = s.rating ∧
      ∀ n : TallyName, n.byCalls = false → t.pendingTally n = s.pendingTally n := by
    by_cases hw : warns ∧ s.coin.fillWarned = false
    · have htw : t = s.warnFill := if_pos ⟨hw.1.1, hw.1.2, hw.2⟩
      rw [htw, if_pos hw]
      have hinc := ((State.incidental_self [.vaultFull] (s.updCoin fun c => { c with fillWarned := true }))).occurrence
        (k := .vaultFull) (by simp)
      exact ⟨true, by simp [State.warnFill], fun _ => rfl, by simp [State.warnFill],
        by simp [State.warnFill]; rfl, by simp [State.warnFill], fun n hn => hinc.tallies n hn⟩
    · have htw : t = s := if_neg (fun h => hw ⟨⟨h.1, h.2.1⟩, h.2.2⟩)
      rw [htw, if_neg hw]
      refine ⟨s.coin.fillWarned, rfl, fun h => ?_, rfl, rfl, rfl, fun _ _ => rfl⟩
      simpa using (not_and.1 hw h)
  obtain ⟨w, hcoin, hw, hkept, halarms, hrating, htallies⟩ := ht
  have hvault : t.cash.vaultCoins = s.cash.vaultCoins := (CashState.kept_fields hkept).2.2.1
  have hadd : s.checkFill old = if s.setup.settings.vaultCapacity ≤ t.cash.vaultCoins then t.addReason .vaultFull
    else t := rfl
  rw [hadd, hvault]
  by_cases hfull : s.setup.settings.vaultCapacity ≤ s.cash.vaultCoins
  · rw [if_pos hfull]
    refine ⟨⟨w, { s.coin.reasons with vaultFull := true }, ?_, hw, fun _ => rfl, rfl⟩, ?_, ?_, fun hn => ?_,
      fun n hn => ?_⟩
    · rw [State.addReason_coin, hcoin]
      rfl
    · simpa using hkept
    · simpa using halarms
    · have hctx : t.rating.context = none := by rw [hrating, hn]
      exact State.addReason_no_context hctx _
    · exact (State.addReason_tallies t _ hn).trans (htallies n hn)
  · rw [if_neg hfull]
    exact ⟨⟨w, s.coin.reasons, hcoin, hw, fun h => absurd h hfull, rfl⟩, hkept, halarms,
      fun hn => by rw [hrating, hn], htallies⟩

/-! ### Results (R11, R12) -/

/-- The result of a collect: the items leave the escrow for banked credit and the vault, and the fill level is judged
(R11, R22). -/
theorem State.collectResult_effect (s : State) (op : EscrowOp) (k : Nat) :
    let items := s.coin.items
    let count := min (s.cash.vaultCoins + items.length) 65535
    let fill := s.setup.settings.vaultCapacity - s.setup.settings.vaultFillMargin
    let warns := s.cash.vaultCoins < fill ∧ fill ≤ count
    let t := s.collectResult op k
    (∃ w r, t.coin = { s.coin.finish op (coinsValue items) with fillWarned := w, reasons := r } ∧
      (warns → w = true) ∧ (s.setup.settings.vaultCapacity ≤ count → r.vaultFull = true) ∧
      r.escrowJammed = s.coin.reasons.escrowJammed) ∧
    t.cash.kept = (s.cash.collect items k).kept ∧
    (∀ j, j ≠ .vaultFull → (t.alarms.get j).standing = (s.alarms.get j).standing) ∧
    (t.alarms.get .vaultFull).count = (if warns ∧ s.coin.fillWarned = false then
      ((s.alarms.occur .vaultFull (AlarmKind.vaultFull.isIn s.setup.settings.reportEnables) s.calendar).get
        .vaultFull).count else (s.alarms.get .vaultFull).count) ∧
    (s.rating.context = none → t.rating.context = none) ∧
    ∀ n : TallyName, n.byCalls = false → t.pendingTally n = s.pendingTally n := by
  intro items count fill warns t
  let pre : State := (s.updCash fun c => c.collect items k).updCoin fun c => c.finish op (coinsValue items)
  have hinc := (State.incidental_self [] pre).creditChanged
  have hcoin : pre.creditChanged.coin = s.coin.finish op (coinsValue items) := by simp [pre]
  have hkept : pre.creditChanged.cash.kept = (s.cash.collect items k).kept := by simp [pre]
  have hcal : pre.creditChanged.calendar = s.calendar := State.calendar_congr (by simp [pre])
  have hsetup : pre.creditChanged.setup = s.setup := by simp [pre]
  have hvault : pre.creditChanged.cash.vaultCoins = count := (CashState.kept_fields hkept).2.2.1
  have hwarned : pre.creditChanged.coin.fillWarned = s.coin.fillWarned := by rw [hcoin]; rfl
  have hreasons : pre.creditChanged.coin.reasons = s.coin.reasons := by rw [hcoin]; rfl
  obtain ⟨⟨w, r, hfill, hw, hr, hjam⟩, hcash, halarms, hctx, htallies⟩ :=
    pre.creditChanged.checkFill_effect s.cash.vaultCoins
  rw [hvault, hsetup] at hw hr halarms
  rw [hwarned, hcal] at halarms
  replace halarms : (pre.creditChanged.checkFill s.cash.vaultCoins).alarms = if warns ∧ s.coin.fillWarned = false
      then pre.creditChanged.alarms.occur .vaultFull (AlarmKind.vaultFull.isIn s.setup.settings.reportEnables)
        s.calendar else pre.creditChanged.alarms := halarms
  have ht : t = pre.creditChanged.checkFill s.cash.vaultCoins := rfl
  rw [ht]
  refine ⟨⟨w, r, ?_, hw, hr, hjam.trans (congrArg ServiceReasons.escrowJammed hreasons)⟩, hcash.trans hkept,
    fun j hj => ?_, ?_, fun hn => hctx (by simpa [pre] using hn),
    fun n hn => (htallies n hn).trans (hinc.tallies n hn)⟩
  · rw [hfill, hcoin]
  · rw [halarms]
    refine Eq.trans ?_ (hinc.standing j (by simp))
    split
    · rw [AlarmState.occur_get_other _ hj]
    · rfl
  · rw [halarms]
    have hstand := hinc.standing .vaultFull (by simp)
    by_cases hc : warns ∧ s.coin.fillWarned = false
    · rw [if_pos hc, if_pos hc]
      exact AlarmState.occur_count_congr hstand _ _
    · rw [if_neg hc, if_neg hc]
      exact congrArg Prod.fst hstand

/-- The result of a refund: the items leave the escrow, the first `k` of them confirmed (R12). -/
theorem State.refundResult_effect (s : State) (op : EscrowOp) (k : Nat) :
    (s.refundResult op k).coin = s.coin.finish op 0 ∧
    (s.refundResult op k).cash.kept = (s.cash.refund s.coin.items k).kept ∧
    (∀ j, ((s.refundResult op k).alarms.get j).standing = (s.alarms.get j).standing) ∧
    ∀ n : TallyName, n.byCalls = false → (s.refundResult op k).pendingTally n = s.pendingTally n := by
  have hinc := (State.incidental_self []
    ((s.updCash fun c => c.refund s.coin.items k).updCoin fun c => c.finish op 0)).creditChanged
  exact ⟨by simp [State.refundResult], by simp [State.refundResult], fun j => hinc.standing j (by simp),
    fun n hn => hinc.tallies n hn⟩

/-- A shortfall is one occurrence and one increment (R11, R12). -/
theorem State.shortfall_effect (s : State) (short : Prop) [Decidable short] (kind : AlarmKind) (name : TallyName) :
    let t := if short then (s.occurrence kind).tally name else s
    t.coin = s.coin ∧ t.cash.kept = s.cash.kept ∧ t.rating = s.rating ∧ t.hook = s.hook ∧ t.tamper = s.tamper ∧
      t.alarms = if short then s.alarms.occur kind (kind.isIn s.setup.settings.reportEnables) s.calendar
        else s.alarms := by
  by_cases h : short <;> simp [h]

end Sys2Proof.Machine
end

section
/-! The end of the settle window and the flap-home timeout (chapter 1). -/

namespace Sys2Proof.Machine

/-- The settle window of a collect ends, with the result that R11 and R14 give. -/
theorem exec_settleWindowEnd_collecting {s : State} {m : Nat} (hlive : s.isHeld = false)
    (hrun : s.coin.settleTimer = some m) (hop : s.coin.op = .collecting) :
    exec .settleWindowEnd s = .next (s.reach m).settleCollect := by
  refine congrArg Host.Outcome.next ?_
  rw [State.whenLive_of_live hlive, State.onExpiry_of_running hrun]
  have : (s.reach m).coin.op = .collecting := hop
  simp only [this]

theorem exec_settleWindowEnd_refunding {s : State} {m : Nat} (hlive : s.isHeld = false)
    (hrun : s.coin.settleTimer = some m) (hop : s.coin.op = .refunding) :
    exec .settleWindowEnd s = .next (s.reach m).settleRefund := by
  refine congrArg Host.Outcome.next ?_
  rw [State.whenLive_of_live hlive, State.onExpiry_of_running hrun]
  have : (s.reach m).coin.op = .refunding := hop
  simp only [this]

/-- The state after the result of a collect whose settle window ends, with its shortfall. -/
def State.collectSettled (s : State) (k : Nat) : State :=
  if k < s.coin.items.length then ((s.collectResult .idle k).occurrence .coinJam).tally .jams
  else s.collectResult .idle k

theorem State.settleCollect_eq (s : State) :
    s.settleCollect = (s.collectSettled (min s.coin.chuteCount s.coin.items.length)).collectEnd
      (coinsValue s.coin.items) := rfl

/-- The state after the result of a refund whose settle window ends, with its shortfall. -/
def State.refundSettled (s : State) (k : Nat) : State :=
  if k < s.coin.items.length then ((s.refundResult .idle k).occurrence .returnBlocked).tally .returnsUnconfirmed
  else s.refundResult .idle k

/-- The state that the rating engine leaves at the end of a refund, before the test of an owed close. -/
def State.refundHanded (s : State) : State :=
  let t := (s.tally .refunds).moveGate.nextOperation
  if s.coin.gate.isSome then t.graceArrival else t

theorem State.refundEnd_eq (s : State) : s.refundEnd = s.refundHanded.closeTest := rfl

theorem State.settleRefund_eq (s : State) :
    s.settleRefund = (s.refundSettled (min s.coin.chuteCount s.coin.items.length)).refundEnd := rfl

theorem State.refundHanded_incidental (s : State) :
    ((s.tally .refunds).moveGate.nextOperation).incidental [] s.refundHanded := by
  simp only [State.refundHanded]
  split
  · exact (State.incidental_self _ _).graceArrival
  · exact State.incidental_self _ _

/-- The end of a refund touches the cash image no further: no charge is paid there. -/
theorem State.refundHanded_kept (s : State) : s.refundHanded.cash.kept = s.cash.kept := by
  simp only [State.refundHanded]
  split <;> simp

theorem State.refundEnd_banked (s : State) : s.refundEnd.coin.banked = s.coin.banked := by
  obtain ⟨w, r, hcoin⟩ := s.refundHanded.closeTest_coin
  rw [State.refundEnd_eq, hcoin]
  have hstill : s.refundHanded.coin.still = (s.tally .refunds).moveGate.coin.still := by
    simp only [State.refundHanded]
    split <;> simp
  refine (CoinState.still_fields hstill).2.2.1.trans ?_
  rw [State.moveGate_coin]
  rfl

end Sys2Proof.Machine

open Sys2Proof Sys2Proof.Machine

/-- Settles O30: the result, then its shortfall, then what follows every end of an operation. -/
theorem settleWindowEnds : Obligations.SettleWindowEnds := by
  refine ⟨fun s m hlive hrun hop => ?_, fun s m hlive hrun hop => ?_⟩
  · intro items k count fill occurred
    set s₁ := s.reach m with hs₁
    obtain ⟨⟨w, r, hcoin, hw, hr, -⟩, hkept, hstand, hfull, hctx, -⟩ := s₁.collectResult_effect .idle k
    obtain ⟨hBcoin, hBkept, hBrating, hBhook, hBtamper, hBalarms⟩ :=
      (s₁.collectResult .idle k).shortfall_effect (k < items.length) .coinJam .jams
    obtain ⟨hescrow, hgate, hsettle, -, hstanding, -, hnotOwed⟩ :=
      State.endOperation_effect ((s₁.collectSettled k).collectHanded_incidental (coinsValue items))
    change (s₁.collectSettled k).coin = _ at hBcoin
    change (s₁.collectSettled k).cash.kept = _ at hBkept
    change (s₁.collectSettled k).alarms = _ at hBalarms
    change (s₁.collectSettled k).rating = _ at hBrating
    change (s₁.collectSettled k).hook = _ at hBhook
    change (s₁.collectSettled k).tamper = _ at hBtamper
    have hstandB : (s₁.collectSettled k).standingRefund = s.standingRefund := by
      simp only [State.standingRefund, hBhook, hBtamper, State.collectResult_frame]
      rfl
    have hjam : (((s₁.collectSettled k).alarms).get .coinJam).standing =
        if k < items.length then ((s.alarms.occur .coinJam
          (AlarmKind.coinJam.isIn s.setup.settings.reportEnables) s.calendar).get .coinJam).standing
        else (s.alarms.get .coinJam).standing := by
      have hA := hstand .coinJam (by decide)
      rw [hBalarms]
      by_cases hk : k < items.length
      · rw [if_pos hk, if_pos hk, State.calendar_congr (show (s₁.collectResult .idle k).clock = s.clock by simp [hs₁]),
          show (s₁.collectResult .idle k).setup = s.setup by simp [hs₁]]
        exact AlarmState.occur_standing_congr hA _ _
      · rw [if_neg hk, if_neg hk]
        exact hA
    refine ⟨s₁.settleCollect, exec_settleWindowEnd_collecting hlive hrun hop, ?_⟩
    rw [show s₁.settleCollect = ((s₁.collectSettled k).collectHanded (coinsValue items)).closeTest from rfl]
    have hcoinB : (s₁.collectSettled k).coin =
        { s.coin.finish .idle (coinsValue items) with fillWarned := w, reasons := r } := hBcoin.trans hcoin
    refine ⟨?_, hgate, hsettle ?_, fun howed => ?_, fun hnone => ?_, ?_, ?_, fun hk => ?_, ?_⟩
    · rw [hescrow, hcoinB]
      rfl
    · rw [hcoinB]
      rfl
    · have hB := CashState.takings_of_kept (hBkept.trans hkept)
      obtain ⟨ht, htake, hwarned, hreasons⟩ := hnotOwed ((CashState.takings_fields hB).2.2.2.2.2.2.trans howed)
      rw [ht]
      obtain ⟨hacc, hcol, hjam, href, -, hvault, -⟩ := CashState.takings_fields (htake.trans hB)
      refine ⟨hacc, hcol, hjam, href, hvault, fun h1 h2 => ?_, fun h => ?_⟩
      · rw [hwarned, hcoinB]
        exact hw ⟨h1, h2⟩
      · rw [hreasons, hcoinB]
        exact hr h
    · refine (State.collectEnd_banked ?_ (coinsValue items)).trans ?_
      · rw [hBrating]
        exact hctx hnone
      · rw [hstandB, hcoinB]
        simp only [State.standingRefund, Bool.or_eq_true, beq_iff_eq]
        rfl
    · refine (congrArg Prod.fst (hstanding .coinJam (by decide))).trans ((congrArg Prod.fst hjam).trans ?_)
      split <;> rfl
    · refine (congrArg Prod.fst (hstanding .vaultFull (by decide))).trans ?_
      have hsame : ((s₁.collectSettled k).alarms.get .vaultFull) = (s₁.collectResult .idle k).alarms.get .vaultFull := by
        rw [hBalarms]
        split
        · rw [AlarmState.occur_get_other _ (by decide)]
        · rfl
      rw [hsame]
      refine hfull.trans ?_
      simp only [and_assoc]
      rfl
    · rw [if_pos hk] at hjam
      refine (congrArg (·.2.2) (hstanding .coinJam (by decide))).trans ((congrArg (·.2.2) hjam).trans ?_)
      exact AlarmState.occur_lastTime _ _ _ _
    · rw [← State.collectEnd_eq]
      have hframe (t : State) : (t.collectEnd (coinsValue items)).mem = t.mem ∧
          (t.collectEnd (coinsValue items)).clock = t.clock ∧ (t.collectEnd (coinsValue items)).setup = t.setup ∧
          (t.collectEnd (coinsValue items)).hook = t.hook ∧ (t.collectEnd (coinsValue items)).pins = t.pins := by
        simp
      have hsettled : (s₁.collectSettled k).mem = s.mem ∧ (s₁.collectSettled k).clock = s.clock ∧
          (s₁.collectSettled k).setup = s.setup ∧ (s₁.collectSettled k).hook = s.hook ∧
          (s₁.collectSettled k).pins = s.pins := by
        simp only [State.collectSettled]
        split <;> simp [hs₁]
      obtain ⟨h1, h2, h3, h4, h5⟩ := hsettled
      obtain ⟨f1, f2, f3, f4, f5⟩ := hframe (s₁.collectSettled k)
      exact ⟨f1.trans h1, f2.trans h2, f3.trans h3, f4.trans h4, f5.trans h5⟩
  · intro items k
    set s₁ := s.reach m with hs₁
    obtain ⟨hcoin, hkept, hstand, -⟩ := s₁.refundResult_effect .idle k
    obtain ⟨hBcoin, hBkept, -, -, -, hBalarms⟩ :=
      (s₁.refundResult .idle k).shortfall_effect (k < items.length) .returnBlocked .returnsUnconfirmed
    obtain ⟨hescrow, hgate, hsettle, -, hstanding, -, hnotOwed⟩ :=
      State.endOperation_effect (s₁.refundSettled k).refundHanded_incidental
    change (s₁.refundSettled k).coin = _ at hBcoin
    change (s₁.refundSettled k).cash.kept = _ at hBkept
    change (s₁.refundSettled k).alarms = _ at hBalarms
    have hblocked : (((s₁.refundSettled k).alarms).get .returnBlocked).standing =
        if k < items.length then ((s.alarms.occur .returnBlocked
          (AlarmKind.returnBlocked.isIn s.setup.settings.reportEnables) s.calendar).get .returnBlocked).standing
        else (s.alarms.get .returnBlocked).standing := by
      have hA := hstand .returnBlocked
      rw [hBalarms]
      by_cases hk : k < items.length
      · rw [if_pos hk, if_pos hk, State.calendar_congr (show (s₁.refundResult .idle k).clock = s.clock by simp [hs₁]),
          show (s₁.refundResult .idle k).setup = s.setup by simp [hs₁]]
        exact AlarmState.occur_standing_congr hA _ _
      · rw [if_neg hk, if_neg hk]
        exact hA
    refine ⟨s₁.settleRefund, exec_settleWindowEnd_refunding hlive hrun hop, ?_⟩
    rw [show s₁.settleRefund = (s₁.refundSettled k).refundHanded.closeTest from rfl]
    have hcoinB : (s₁.refundSettled k).coin = s.coin.finish .idle 0 := hBcoin.trans hcoin
    refine ⟨?_, hgate, ?_, hsettle ?_, fun howed => ?_, ?_, fun hk => ?_, ?_⟩
    · rw [hescrow, hcoinB]
      rfl
    · rw [← State.refundEnd_eq, State.refundEnd_banked, hcoinB]
      rfl
    · rw [hcoinB]
      rfl
    · have hB := hBkept.trans hkept
      obtain ⟨ht, -⟩ := hnotOwed ((CashState.kept_fields hB).2.2.2.2.2.2.1.trans howed)
      rw [ht]
      exact (CashState.kept_fields ((State.refundHanded_kept _).trans hB)).1
    · refine (congrArg Prod.fst (hstanding .returnBlocked (by decide))).trans ((congrArg Prod.fst hblocked).trans ?_)
      split <;> rfl
    · rw [if_pos hk] at hblocked
      refine (congrArg (·.2.2) (hstanding .returnBlocked (by decide))).trans ((congrArg (·.2.2) hblocked).trans ?_)
      exact AlarmState.occur_lastTime _ _ _ _
    · rw [← State.refundEnd_eq]
      have hsettled : (s₁.refundSettled k).mem = s.mem ∧ (s₁.refundSettled k).clock = s.clock ∧
          (s₁.refundSettled k).setup = s.setup ∧ (s₁.refundSettled k).hook = s.hook ∧
          (s₁.refundSettled k).pins = s.pins := by
        simp only [State.refundSettled]
        split <;> simp [hs₁]
      simpa using hsettled
end

section
/-! The jammed end of an escrow operation (R13). -/

namespace Sys2Proof.Machine

/-- What the jam itself leaves: JAMMED with the actuator released, the reason, one COIN_JAM occurrence and one
increment (R13). -/
theorem State.jam_effect (s : State) :
    s.jam.coin = { s.coin with op := .jammed, actuator := .released, flapTimer := none,
                               reasons := { s.coin.reasons with escrowJammed := true } } ∧
      s.jam.cash.kept = s.cash.kept ∧
      s.jam.alarms = s.alarms.occur .coinJam (AlarmKind.coinJam.isIn s.setup.settings.reportEnables) s.calendar ∧
      s.tallyRises s.jam .jams ∧ (s.rating.context = none → s.jam.rating.context = none) := by
  let u : State := (s.updCoin fun c => { c with op := .jammed, actuator := .released, flapTimer := none }).occurrence
    .coinJam
  have hjam : s.jam = (u.tally .jams).addReason .escrowJammed := rfl
  have hu : u.pendingTally .jams = s.pendingTally .jams :=
    ((State.incidental_self [.coinJam]
      (s.updCoin fun c => { c with op := .jammed, actuator := .released, flapTimer := none })).occurrence
        (k := .coinJam) (by simp)).tallies .jams rfl
  rw [hjam]
  refine ⟨?_, by simp [u], by simp [u]; rfl, ?_, fun hnone => State.addReason_no_context (by simpa [u] using hnone) _⟩
  · rw [State.addReason_coin]
    simp [u, ServiceReasons.put]
  · have := u.tally_rises .jams
    rw [State.tallyRises, hu] at this
    exact (State.addReason_tallies _ _ rfl).trans this

/-- The operation state of a jam over the coins left, with what may start after it (R13, R14). -/
theorem State.jammedEnd_effect {s z t : State} {name : TallyName} {kinds : List AlarmKind}
    (h : ((z.tally name).moveGate.nextOperation).incidental kinds t)
    (hz : ∃ n w r, z.coin = { s.coin.finish .jammed n with fillWarned := w, reasons := r } ∧ r.escrowJammed = true)
    (hnow : z.now = s.now) (hstand : z.standingRefund = s.standingRefund) :
    let left := s.coin.gate.toList ++ s.coin.escrow.drop s.coin.opItems
    t.closeTest.coin.reasons.escrowJammed = true ∧ t.closeTest.coin.settleTimer = none ∧
    (left = [] → t.closeTest.coin.operation = (.jammed, 0, 0, .released, none, none) ∧
      t.closeTest.coin.request = .none) ∧
    (left ≠ [] → s.coin.request = .collect → t.closeTest.coin.operation =
      startedOperation .collecting .collect left.length s.now) ∧
    (left ≠ [] → s.coin.request = .refund ∨ (s.coin.request = .none ∧ s.standingRefund = true) →
      t.closeTest.coin.operation = startedOperation .refunding .refund left.length s.now) ∧
    t.closeTest.coin.escrow = left ∧ t.closeTest.coin.gate = none := by
  intro left
  obtain ⟨n, w, r, hcoin, hr⟩ := hz
  obtain ⟨hescrow, hgate, hsettle, hjammed, -⟩ := State.endOperation_effect h
  obtain ⟨hnone, hcollect, hrefund⟩ := State.endOperation_operation h (by rw [hcoin]; rfl)
  rw [hcoin] at hescrow hjammed hsettle hnone hcollect hrefund
  rw [hnow] at hcollect hrefund
  rw [hstand] at hrefund
  exact ⟨hjammed.trans hr, hsettle rfl, hnone, hcollect, hrefund, hescrow, hgate⟩

theorem State.refundEnd_operation_of_none {s : State} (hnone : s.rating.context = none)
    (hreq : s.coin.request = .none) (hstand : s.standingRefund = false) :
    s.refundEnd.coin.operation = s.coin.operation ∧ s.refundEnd.coin.request = .none := by
  obtain ⟨w, r, hcoin⟩ := s.refundHanded.closeTest_coin
  have hnext := (s.tally .refunds).moveGate.nextOperation_cases.2.2.2 (by simpa [State.moveGate_coin] using hreq)
    (by simpa [State.standingRefund] using hstand)
  have hhanded : s.refundHanded.coin = (s.tally .refunds).moveGate.nextOperation.coin := by
    simp only [State.refundHanded]
    split
    · simp [State.graceArrival, hnone]
    · rfl
  rw [State.refundEnd_eq, hcoin, hhanded, hnext, State.moveGate_coin]
  exact ⟨rfl, rfl⟩

/-- An operation that has started, field by field. -/
theorem CoinState.startedOperation_fields {c : CoinState} {op : EscrowOp} {drive : Actuator} {n now : Nat}
    (h : c.operation = startedOperation op drive n now) : c.op = op ∧ c.actuator = drive ∧ c.opItems = n ∧
      c.chuteCount = 0 ∧ c.flapTimer = some (now + 1500) := by
  simp only [CoinState.operation, startedOperation, Prod.mk.injEq] at h
  obtain ⟨hop, hitems, hchute, hdrive, hflap, -⟩ := h
  exact ⟨hop, hdrive, hitems, hchute, hflap⟩

theorem CoinState.jammed_fields {c : CoinState} (h : c.operation = (.jammed, 0, 0, .released, none, none)) :
    c.op = .jammed ∧ c.actuator = .released ∧ c.flapTimer = none := by
  simp only [CoinState.operation, Prod.mk.injEq] at h
  obtain ⟨hop, -, -, hdrive, hflap, -⟩ := h
  exact ⟨hop, hdrive, hflap⟩

theorem State.standingRefund_iff (s : State) :
    s.standingRefund = true ↔ s.hook.phase = .cleared ∨ s.tamper.sessionOpen = true := by
  simp [State.standingRefund]

/-- The state after the jammed result of a collect. -/
def State.collectJammed (s : State) : State := s.jam.collectResult .jammed 0

/-- The state after the jammed result of a refund. -/
def State.refundJammed (s : State) : State := (s.jam.refundResult .jammed 0).tally .returnsUnconfirmed

theorem State.jam_items (s : State) : s.jam.coin.items = s.coin.items := by
  rw [s.jam_effect.1]
  rfl

/-- The result of a jammed collect: all of its items are collected and jammed (R13). -/
theorem State.collectJammed_effect (s : State) :
    (∃ w r, s.collectJammed.coin =
      { s.coin.finish .jammed (coinsValue s.coin.items) with fillWarned := w, reasons := r } ∧
        r.escrowJammed = true) ∧
    s.collectJammed.cash.takings = (s.cash.collect s.coin.items 0).takings ∧
    (∀ k, k ≠ .vaultFull → (s.collectJammed.alarms.get k).standing = ((s.alarms.occur .coinJam
      (AlarmKind.coinJam.isIn s.setup.settings.reportEnables) s.calendar).get k).standing) ∧
    (s.rating.context = none → s.collectJammed.rating.context = none) ∧
    s.collectJammed.standingRefund = s.standingRefund ∧ s.tallyRises s.collectJammed .jams := by
  obtain ⟨hcoin, hkept, halarms, hrises, hctx⟩ := s.jam_effect
  obtain ⟨⟨w, r, hrcoin, -, -, hr⟩, hrkept, hstand, -, hrctx, htallies⟩ := s.jam.collectResult_effect .jammed 0
  rw [s.jam_items] at hrcoin hrkept
  refine ⟨⟨w, r, ?_, ?_⟩, ?_, fun k hk => ?_, fun h => hrctx (hctx h), ?_, (htallies .jams rfl).trans hrises⟩
  · exact hrcoin.trans (by rw [hcoin]; rfl)
  · rw [hr, hcoin]
  · refine (CashState.takings_of_kept hrkept).trans ?_
    exact (congrArg (fun c : CashState => (c.collect s.coin.items 0).takings) hkept :)
  · rw [← halarms]
    exact hstand k hk
  · simp [State.collectJammed, State.standingRefund]

/-- The result of a jammed refund: all of its items are unconfirmed (R13). -/
theorem State.refundJammed_effect (s : State) :
    (∃ w r, s.refundJammed.coin = { s.coin.finish .jammed 0 with fillWarned := w, reasons := r } ∧
        r.escrowJammed = true) ∧
    s.refundJammed.cash.takings = (s.cash.refund s.coin.items 0).takings ∧
    (∀ k, (s.refundJammed.alarms.get k).standing = ((s.alarms.occur .coinJam
      (AlarmKind.coinJam.isIn s.setup.settings.reportEnables) s.calendar).get k).standing) ∧
    (s.rating.context = none → s.refundJammed.rating.context = none) ∧
    s.refundJammed.standingRefund = s.standingRefund ∧ s.tallyRises s.refundJammed .jams := by
  obtain ⟨hcoin, hkept, halarms, hrises, hctx⟩ := s.jam_effect
  obtain ⟨hrcoin, hrkept, hstand, htallies⟩ := s.jam.refundResult_effect .jammed 0
  rw [s.jam_items] at hrkept
  refine ⟨⟨s.coin.fillWarned, { s.coin.reasons with escrowJammed := true }, ?_, rfl⟩, ?_, fun k => ?_,
    fun h => by simpa [State.refundJammed] using hctx h, ?_, ?_⟩
  · rw [State.refundJammed, (State.tally_frame _ _).2.2.2.2.2.2.1, hrcoin, hcoin]
    rfl
  · refine (CashState.takings_of_kept hrkept).trans ?_
    exact (congrArg (fun c : CashState => (c.refund s.coin.items 0).takings) hkept :)
  · have hsame : s.refundJammed.alarms = (s.jam.refundResult .jammed 0).alarms := by simp [State.refundJammed]
    rw [← halarms, hsame]
    exact hstand k
  · simp [State.refundJammed, State.standingRefund]
  · exact (State.tally_pendingTally _ (by decide)).trans ((htallies .jams rfl).trans hrises)

end Sys2Proof.Machine

open Sys2Proof Sys2Proof.Machine

/-- Settles O31: the jam, the result over every item, and what follows every end of an operation. -/
theorem flapTimeoutJams : Obligations.FlapTimeoutJams := by
  intro s m hlive hrun hop items left standing operation
  set s₁ := s.reach m with hs₁
  have hstarted {c : CoinState} {op : EscrowOp} {drive : Actuator} (n : Nat)
      (h : c.operation = startedOperation op drive n (max s.now m)) : c.op = op ∧ c.actuator = drive ∧
        c.opItems = n ∧ c.chuteCount = 0 ∧ c.flapTimer = some (max s.now m + 1500) :=
    CoinState.startedOperation_fields h
  have hstandIff : s₁.standingRefund = true ↔ standing := s₁.standingRefund_iff
  have hnotStanding (h : ¬ standing) : s₁.standingRefund = false := by
    simpa using fun hs => h (hstandIff.1 hs)
  rcases hop with hop | hop
  · obtain ⟨⟨w, r, hcoin, hr⟩, htake, hstand, hctx, hstanding, hrises⟩ := s₁.collectJammed_effect
    have hinc := s₁.collectJammed.collectHanded_incidental (coinsValue items)
    obtain ⟨-, -, -, -, halarms, htallies, hnotOwed⟩ := State.endOperation_effect hinc
    obtain ⟨hjammed, hsettle, hnone, hcollect, hrefund, hescrow, hgate⟩ :=
      State.jammedEnd_effect (s := s₁) hinc ⟨_, w, r, hcoin, hr⟩ (by simp [State.collectJammed]) hstanding
    have hexec : exec .flapHomeTimeout s =
        .next (s₁.collectJammed.collectHanded (coinsValue items)).closeTest := by
      refine congrArg Host.Outcome.next ?_
      rw [State.whenLive_of_live hlive, State.onExpiry_of_running hrun]
      have : (s.reach m).coin.op = .collecting := hop
      simp only [this]
      rfl
    refine ⟨_, hexec, hjammed, ?_, hsettle, fun hl => ?_, fun hl hreq => hstarted _ (hcollect hl hreq),
      fun hl hreq => hstarted _ (hrefund hl ?_), fun hl hreq hns hn => ?_, ?_, ?_, ?_, hescrow, hgate,
      fun _ howed => ?_, fun _ hn => ?_, fun h => ?_, fun h => ?_, ?_⟩
    · exact (htallies .jams (by decide) rfl).trans hrises
    · obtain ⟨hstate, hreq⟩ := hnone hl
      obtain ⟨h1, h2, h3⟩ := CoinState.jammed_fields hstate
      exact ⟨h1, h2, h3, hreq⟩
    · exact hreq.imp_right fun ⟨h, h'⟩ => ⟨h, hstandIff.2 h'⟩
    · obtain ⟨hstate, hreq'⟩ := State.collectEnd_operation_of_none (hctx hn)
        (by rw [hcoin]; exact hreq) (by rw [hstanding]; exact hnotStanding hns) (coinsValue items)
      have hz : s₁.collectJammed.coin.operation = (.jammed, 0, 0, .released, none, none) := by rw [hcoin]; rfl
      obtain ⟨h1, h2, h3⟩ := CoinState.jammed_fields (hstate.trans hz)
      exact ⟨h1, h2, h3, hreq'⟩
    · refine (congrArg (·.2.2) ((halarms .coinJam (by decide)).trans (hstand .coinJam (by decide)))).trans ?_
      exact AlarmState.occur_lastTime _ _ _ _
    · exact congrArg Prod.fst ((halarms .coinJam (by decide)).trans (hstand .coinJam (by decide)))
    · refine (congrArg Prod.fst ((halarms .returnBlocked (by decide)).trans (hstand .returnBlocked (by decide)))).trans ?_
      rw [AlarmState.occur_get_other _ (by decide)]
      rfl
    · have howed' : s₁.collectJammed.cash.closeOwed = false :=
        (CashState.takings_fields htake).2.2.2.2.2.2.trans howed
      obtain ⟨ht, htaken, -, -⟩ := hnotOwed howed'
      rw [ht]
      obtain ⟨-, hcol, hjam, -, -, hvault, -⟩ := CashState.takings_fields (htaken.trans htake)
      exact ⟨hcol, hjam, hvault⟩
    · refine (State.collectEnd_banked (hctx hn) (coinsValue items)).trans ?_
      rw [hcoin]
      by_cases hpaid : 0 < coinsValue items ∧ standing
      · rw [if_pos hpaid, if_pos ⟨hpaid.1, by rw [hstanding]; exact hstandIff.2 hpaid.2⟩]
      · rw [if_neg hpaid, if_neg fun h => hpaid ⟨h.1, by rw [hstanding] at h; exact hstandIff.1 h.2⟩]
        rfl
    · rw [hop] at h
      cases h
    · rw [hop] at h
      cases h
    · rw [← State.collectEnd_eq]
      simp [State.collectJammed, hs₁]
  · obtain ⟨⟨w, r, hcoin, hr⟩, htake, hstand, hctx, hstanding, hrises⟩ := s₁.refundJammed_effect
    have hinc := s₁.refundJammed.refundHanded_incidental
    obtain ⟨-, -, -, -, halarms, htallies, hnotOwed⟩ := State.endOperation_effect hinc
    obtain ⟨hjammed, hsettle, hnone, hcollect, hrefund, hescrow, hgate⟩ :=
      State.jammedEnd_effect (s := s₁) hinc ⟨_, w, r, hcoin, hr⟩ (by simp [State.refundJammed]) hstanding
    have hexec : exec .flapHomeTimeout s = .next s₁.refundJammed.refundHanded.closeTest := by
      refine congrArg Host.Outcome.next ?_
      rw [State.whenLive_of_live hlive, State.onExpiry_of_running hrun]
      have : (s.reach m).coin.op = .refunding := hop
      simp only [this]
      rfl
    refine ⟨_, hexec, hjammed, ?_, hsettle, fun hl => ?_, fun hl hreq => hstarted _ (hcollect hl hreq),
      fun hl hreq => hstarted _ (hrefund hl ?_), fun hl hreq hns hn => ?_, ?_, ?_, ?_, hescrow, hgate,
      fun h => ?_, fun h => ?_, fun _ => ?_, fun _ howed => ?_, ?_⟩
    · exact (htallies .jams (by decide) rfl).trans hrises
    · obtain ⟨hstate, hreq⟩ := hnone hl
      obtain ⟨h1, h2, h3⟩ := CoinState.jammed_fields hstate
      exact ⟨h1, h2, h3, hreq⟩
    · exact hreq.imp_right fun ⟨h, h'⟩ => ⟨h, hstandIff.2 h'⟩
    · obtain ⟨hstate, hreq'⟩ := State.refundEnd_operation_of_none (hctx hn)
        (by rw [hcoin]; exact hreq) (by rw [hstanding]; exact hnotStanding hns)
      have hz : s₁.refundJammed.coin.operation = (.jammed, 0, 0, .released, none, none) := by rw [hcoin]; rfl
      obtain ⟨h1, h2, h3⟩ := CoinState.jammed_fields (hstate.trans hz)
      exact ⟨h1, h2, h3, hreq'⟩
    · refine (congrArg (·.2.2) ((halarms .coinJam (by decide)).trans (hstand .coinJam))).trans ?_
      exact AlarmState.occur_lastTime _ _ _ _
    · exact congrArg Prod.fst ((halarms .coinJam (by decide)).trans (hstand .coinJam))
    · refine (congrArg Prod.fst ((halarms .returnBlocked (by decide)).trans (hstand .returnBlocked))).trans ?_
      rw [AlarmState.occur_get_other _ (by decide)]
      rfl
    · rw [hop] at h
      cases h
    · rw [hop] at h
      cases h
    · rw [← State.refundEnd_eq, State.refundEnd_banked, hcoin]
      rfl
    · have howed' : s₁.refundJammed.cash.closeOwed = false :=
        (CashState.takings_fields htake).2.2.2.2.2.2.trans howed
      obtain ⟨ht, htaken, -, -⟩ := hnotOwed howed'
      rw [ht]
      obtain ⟨-, -, -, href, hunc, -, -⟩ := CashState.takings_fields (htaken.trans htake)
      exact ⟨hunc, href⟩
    · rw [← State.refundEnd_eq]
      simp [State.refundJammed, hs₁]
end

section
/-! SUPPORT. The bus wait and the part-owed mark, which no operation of a block changes: they belong to the arbiter
and to the host's accesses (R162, R164). -/

namespace Sys2Proof.Machine

@[simp] theorem State.join_port (s : State) (r : Requester) :
    (s.join r).path.busWait = s.path.busWait ∧ (s.join r).path.partOwed = s.path.partOwed := by
  simp only [State.join, State.updPath_path]
  split <;> simp

@[simp] theorem State.tally_port (s : State) (t : TallyName) :
    (s.tally t).path.busWait = s.path.busWait ∧ (s.tally t).path.partOwed = s.path.partOwed := by
  simp [State.tally]

@[simp] theorem State.cashChanged_port (s : State) :
    s.cashChanged.path.busWait = s.path.busWait ∧ s.cashChanged.path.partOwed = s.path.partOwed := by
  simp only [State.cashChanged]
  (repeat' split) <;> simp

@[simp] theorem State.countFlash_port (s : State) (addr : Nat) :
    (s.countFlash addr).path.busWait = s.path.busWait ∧ (s.countFlash addr).path.partOwed = s.path.partOwed := by
  simp only [State.countFlash]
  (repeat' split) <;> simp

@[simp] theorem State.storeWord_port (s : State) (addr : Nat) (w : Word) :
    (s.storeWord addr w).path.busWait = s.path.busWait ∧ (s.storeWord addr w).path.partOwed = s.path.partOwed := by
  simp [State.storeWord]

@[simp] theorem State.offerRecord_port (s : State) (rec : CallRecord) :
    (s.offerRecord rec).path.busWait = s.path.busWait ∧ (s.offerRecord rec).path.partOwed = s.path.partOwed := by
  simp only [State.offerRecord]
  (repeat' split) <;> simp

@[simp] theorem State.moveRecords_port (s : State) (base : Nat) :
    (s.moveRecords base).path.busWait = s.path.busWait ∧ (s.moveRecords base).path.partOwed = s.path.partOwed := by
  simp only [State.moveRecords]
  (repeat' split) <;> simp

@[simp] theorem State.takeIndex_port (s : State) (v : Nat) :
    (s.takeIndex v).path.busWait = s.path.busWait ∧ (s.takeIndex v).path.partOwed = s.path.partOwed := by
  simp only [State.takeIndex]
  (repeat' split) <;> simp

@[simp] theorem State.refuseIndex_port (s : State) :
    s.refuseIndex.path.busWait = s.path.busWait ∧ s.refuseIndex.path.partOwed = s.path.partOwed := by
  simp [State.refuseIndex]

@[simp] theorem State.storeRecordWord_port (s : State) (k : Nat) (w : Word) :
    (s.storeRecordWord k w).path.busWait = s.path.busWait ∧
      (s.storeRecordWord k w).path.partOwed = s.path.partOwed := by
  simp [State.storeRecordWord]

@[simp] theorem State.publish_port (s : State) (slot : Nat) :
    (s.publish slot).path.busWait = s.path.busWait ∧ (s.publish slot).path.partOwed = s.path.partOwed := by
  simp [State.publish]

@[simp] theorem State.recordJobWord_port (s : State) (x0 : RecordJob) :
    (s.recordJobWord x0).path.busWait = s.path.busWait ∧ (s.recordJobWord x0).path.partOwed = s.path.partOwed := by
  cases x0 <;> simp only [State.recordJobWord] <;> (repeat' split) <;> simp

@[simp] theorem State.openMirror_port (s : State) (k : ZoneKind) :
    (s.openMirror k).path.busWait = s.path.busWait ∧ (s.openMirror k).path.partOwed = s.path.partOwed := by
  simp [State.openMirror]

@[simp] theorem State.tallyGrant_port (s : State) (x0 : ZoneKind) :
    (s.tallyGrant x0).path.busWait = s.path.busWait ∧ (s.tallyGrant x0).path.partOwed = s.path.partOwed := by
  cases x0 <;> simp [State.tallyGrant]

@[simp] theorem State.grantCustomer_port (s : State) :
    s.grantCustomer.path.busWait = s.path.busWait ∧ s.grantCustomer.path.partOwed = s.path.partOwed := by
  simp only [State.grantCustomer]
  (repeat' split) <;> simp

@[simp] theorem State.grantWaiting_port (s : State) :
    s.grantWaiting.path.busWait = s.path.busWait ∧ s.grantWaiting.path.partOwed = s.path.partOwed := by
  simp only [State.grantWaiting]
  (repeat' split) <;> simp

@[simp] theorem State.placeReport_port (s : State) (runTime : Nat) :
    (s.placeReport runTime).path.busWait = s.path.busWait ∧
      (s.placeReport runTime).path.partOwed = s.path.partOwed := by
  simp [State.placeReport]

@[simp] theorem State.beginRun_port (s : State) :
    s.beginRun.path.busWait = s.path.busWait ∧ s.beginRun.path.partOwed = s.path.partOwed := by
  simp [State.beginRun]

@[simp] theorem State.checkQueue_port (s : State) :
    s.checkQueue.path.busWait = s.path.busWait ∧ s.checkQueue.path.partOwed = s.path.partOwed := by
  simp only [State.checkQueue]
  (repeat' split) <;> simp

@[simp] theorem State.noticeNewKind_port (s : State) :
    s.noticeNewKind.path.busWait = s.path.busWait ∧ s.noticeNewKind.path.partOwed = s.path.partOwed := by
  simp only [State.noticeNewKind]
  (repeat' split) <;> simp

@[simp] theorem State.occurrence_port (s : State) (k : AlarmKind) :
    (s.occurrence k).path.busWait = s.path.busWait ∧ (s.occurrence k).path.partOwed = s.path.partOwed := by
  simp only [State.occurrence]
  (repeat' split) <;> simp

@[simp] theorem State.resumeRun_port (s : State) :
    s.resumeRun.path.busWait = s.path.busWait ∧ s.resumeRun.path.partOwed = s.path.partOwed := by
  simp [State.resumeRun]

@[simp] theorem State.failReporting_port (s : State) :
    s.failReporting.path.busWait = s.path.busWait ∧ s.failReporting.path.partOwed = s.path.partOwed := by
  simp only [State.failReporting]
  (repeat' split) <;> simp

@[simp] theorem State.failedAttempt_port (s : State) :
    s.failedAttempt.path.busWait = s.path.busWait ∧ s.failedAttempt.path.partOwed = s.path.partOwed := by
  simp [State.failedAttempt]

@[simp] theorem State.acknowledgedAttempt_port (s : State) :
    s.acknowledgedAttempt.path.busWait = s.path.busWait ∧ s.acknowledgedAttempt.path.partOwed = s.path.partOwed := by
  simp [State.acknowledgedAttempt]

@[simp] theorem State.attemptOutcome_port (s : State) (x0 : EndCause) :
    (s.attemptOutcome x0).path.busWait = s.path.busWait ∧ (s.attemptOutcome x0).path.partOwed = s.path.partOwed := by
  cases x0 <;> simp [State.attemptOutcome]

@[simp] theorem State.closeAttempt_port (s : State) (outcome : EndCause) (seize : CalTime) :
    (s.closeAttempt outcome seize).path.busWait = s.path.busWait ∧
      (s.closeAttempt outcome seize).path.partOwed = s.path.partOwed := by
  simp only [State.closeAttempt]
  (repeat' split) <;> simp

@[simp] theorem State.endReport_port (s : State) (outcome : EndCause) :
    (s.endReport outcome).path.busWait = s.path.busWait ∧ (s.endReport outcome).path.partOwed = s.path.partOwed := by
  simp [State.endReport]

@[simp] theorem State.tallyRefusal_port (s : State) (x0 : RefusalCause) :
    (s.tallyRefusal x0).path.busWait = s.path.busWait ∧ (s.tallyRefusal x0).path.partOwed = s.path.partOwed := by
  cases x0 <;> simp [State.tallyRefusal]

@[simp] theorem State.refuseNumber_port (s : State) (cause : RefusalCause) :
    (s.refuseNumber cause).path.busWait = s.path.busWait ∧ (s.refuseNumber cause).path.partOwed = s.path.partOwed := by
  simp [State.refuseNumber]

@[simp] theorem State.preemptReport_port (s : State) :
    s.preemptReport.path.busWait = s.path.busWait ∧ s.preemptReport.path.partOwed = s.path.partOwed := by
  simp only [State.preemptReport]
  (repeat' split) <;> simp

@[simp] theorem State.placeCustomer_port (s : State) (cls : RequestClass) :
    (s.placeCustomer cls).path.busWait = s.path.busWait ∧ (s.placeCustomer cls).path.partOwed = s.path.partOwed := by
  simp only [State.placeCustomer]
  (repeat' split) <;> simp

@[simp] theorem State.toWaitLine_port (s : State) :
    s.toWaitLine.path.busWait = s.path.busWait ∧ s.toWaitLine.path.partOwed = s.path.partOwed := by
  simp [State.toWaitLine]

@[simp] theorem State.recheckDeposit_port (s : State) :
    s.recheckDeposit.path.busWait = s.path.busWait ∧ s.recheckDeposit.path.partOwed = s.path.partOwed := by
  simp only [State.recheckDeposit]
  (repeat' split) <;> simp

@[simp] theorem State.serviceLost_port (s : State) :
    s.serviceLost.path.busWait = s.path.busWait ∧ s.serviceLost.path.partOwed = s.path.partOwed := by
  simp only [State.serviceLost]
  (repeat' split) <;> simp

@[simp] theorem State.creditChanged_port (s : State) :
    s.creditChanged.path.busWait = s.path.busWait ∧ s.creditChanged.path.partOwed = s.path.partOwed := by
  simp [State.creditChanged]

@[simp] theorem State.addReason_port (s : State) (r : ServiceReason) :
    (s.addReason r).path.busWait = s.path.busWait ∧ (s.addReason r).path.partOwed = s.path.partOwed := by
  simp only [State.addReason]
  (repeat' split) <;> simp

@[simp] theorem State.takeSymbol_port (s : State) :
    s.takeSymbol.path.busWait = s.path.busWait ∧ s.takeSymbol.path.partOwed = s.path.partOwed := by
  simp only [State.takeSymbol]
  (repeat' split) <;> simp

@[simp] theorem State.completeNumber_port (s : State) :
    s.completeNumber.path.busWait = s.path.busWait ∧ s.completeNumber.path.partOwed = s.path.partOwed := by
  simp [State.completeNumber]

@[simp] theorem State.decideExpiry_port (s : State) :
    s.decideExpiry.path.busWait = s.path.busWait ∧ s.decideExpiry.path.partOwed = s.path.partOwed := by
  simp only [State.decideExpiry]
  (repeat' split) <;> simp

@[simp] theorem State.judgeMatch_port (s : State) :
    s.judgeMatch.path.busWait = s.path.busWait ∧ s.judgeMatch.path.partOwed = s.path.partOwed := by
  simp only [State.judgeMatch]
  (repeat' split) <;> simp

@[simp] theorem State.prefixMatchDone_port (s : State) (digits : List Nat) (ws : List Word) (discarded : Bool) :
    (s.prefixMatchDone digits ws discarded).path.busWait = s.path.busWait ∧
      (s.prefixMatchDone digits ws discarded).path.partOwed = s.path.partOwed := by
  simp only [State.prefixMatchDone]
  (repeat' split) <;> simp

@[simp] theorem State.startNumber_port (s : State) (code : Nat) :
    (s.startNumber code).path.busWait = s.path.busWait ∧ (s.startNumber code).path.partOwed = s.path.partOwed := by
  simp [State.startNumber]

@[simp] theorem State.postSymbol_port (s : State) (code : Nat) :
    (s.postSymbol code).path.busWait = s.path.busWait ∧ (s.postSymbol code).path.partOwed = s.path.partOwed := by
  simp only [State.postSymbol]
  (repeat' split) <;> simp

@[simp] theorem State.beginSnapshot_port (s : State) (entry : List Word) :
    (s.beginSnapshot entry).path.busWait = s.path.busWait ∧
      (s.beginSnapshot entry).path.partOwed = s.path.partOwed := by
  simp [State.beginSnapshot]

@[simp] theorem State.checkPaidEntry_port (s : State) (entry : List Word) :
    (s.checkPaidEntry entry).path.busWait = s.path.busWait ∧
      (s.checkPaidEntry entry).path.partOwed = s.path.partOwed := by
  simp only [State.checkPaidEntry]
  (repeat' split) <;> simp

@[simp] theorem State.checkEntry_port (s : State) (entry : List Word) :
    (s.checkEntry entry).path.busWait = s.path.busWait ∧ (s.checkEntry entry).path.partOwed = s.path.partOwed := by
  simp only [State.checkEntry]
  (repeat' split) <;> simp

@[simp] theorem State.zoneEntryDone_port (s : State) (entry : List Word) (discarded : Bool) :
    (s.zoneEntryDone entry discarded).path.busWait = s.path.busWait ∧
      (s.zoneEntryDone entry discarded).path.partOwed = s.path.partOwed := by
  simp only [State.zoneEntryDone]
  (repeat' split) <;> simp

@[simp] theorem State.checkDeposit_port (s : State) (d : Nat) :
    (s.checkDeposit d).path.busWait = s.path.busWait ∧ (s.checkDeposit d).path.partOwed = s.path.partOwed := by
  simp only [State.checkDeposit]
  (repeat' split) <;> simp

@[simp] theorem State.snapshotDone_port (s : State) (entry words : List Word) (discarded : Bool) :
    (s.snapshotDone entry words discarded).path.busWait = s.path.busWait ∧
      (s.snapshotDone entry words discarded).path.partOwed = s.path.partOwed := by
  simp only [State.snapshotDone]
  (repeat' split) <;> simp

@[simp] theorem State.trapCheck_port (s : State) (flags : RatingFlags) :
    (s.trapCheck flags).path.busWait = s.path.busWait ∧ (s.trapCheck flags).path.partOwed = s.path.partOwed := by
  simp only [State.trapCheck]
  (repeat' split) <;> simp

@[simp] theorem State.clearMirror_port (s : State) :
    s.clearMirror.path.busWait = s.path.busWait ∧ s.clearMirror.path.partOwed = s.path.partOwed := by
  simp only [State.clearMirror]
  (repeat' split) <;> simp

@[simp] theorem State.numberAfterCall_port (s : State) (x0 : EndCause) :
    (s.numberAfterCall x0).path.busWait = s.path.busWait ∧ (s.numberAfterCall x0).path.partOwed = s.path.partOwed := by
  cases x0 <;> simp [State.numberAfterCall]

@[simp] theorem State.endCall_port (s : State) (cause : EndCause) :
    (s.endCall cause).path.busWait = s.path.busWait ∧ (s.endCall cause).path.partOwed = s.path.partOwed := by
  simp [State.endCall]

@[simp] theorem State.endCustomerCall_port (s : State) (cause : EndCause) :
    (s.endCustomerCall cause).path.busWait = s.path.busWait ∧
      (s.endCustomerCall cause).path.partOwed = s.path.partOwed := by
  simp only [State.endCustomerCall]
  (repeat' split) <;> simp

@[simp] theorem State.forfeit_port (s : State) :
    s.forfeit.path.busWait = s.path.busWait ∧ s.forfeit.path.partOwed = s.path.partOwed := by
  simp only [State.forfeit]
  (repeat' split) <;> simp

@[simp] theorem State.warnFill_port (s : State) :
    s.warnFill.path.busWait = s.path.busWait ∧ s.warnFill.path.partOwed = s.path.partOwed := by
  simp [State.warnFill]

@[simp] theorem State.collectionClose_port (s : State) :
    s.collectionClose.path.busWait = s.path.busWait ∧ s.collectionClose.path.partOwed = s.path.partOwed := by
  simp [State.collectionClose]

@[simp] theorem State.closeTest_port (s : State) :
    s.closeTest.path.busWait = s.path.busWait ∧ s.closeTest.path.partOwed = s.path.partOwed := by
  simp only [State.closeTest]
  (repeat' split) <;> simp

@[simp] theorem State.thenTest_port (s : State) (event : State → State) :
    (s.thenTest event).path.busWait = (event s).path.busWait ∧
      (s.thenTest event).path.partOwed = (event s).path.partOwed := by
  simp only [State.thenTest]
  split <;> simp

@[simp] theorem State.moveGate_port (s : State) :
    s.moveGate.path.busWait = s.path.busWait ∧ s.moveGate.path.partOwed = s.path.partOwed := by
  simp only [State.moveGate]
  (repeat' split) <;> simp

@[simp] theorem State.standingConditions_port (s : State) :
    s.standingConditions.path.busWait = s.path.busWait ∧ s.standingConditions.path.partOwed = s.path.partOwed := by
  simp only [State.standingConditions]
  (repeat' split) <;> simp

@[simp] theorem State.openSession_port (s : State) :
    s.openSession.path.busWait = s.path.busWait ∧ s.openSession.path.partOwed = s.path.partOwed := by
  simp [State.openSession]

@[simp] theorem State.clearSummary_port (s : State) :
    s.clearSummary.path.busWait = s.path.busWait ∧ s.clearSummary.path.partOwed = s.path.partOwed := by
  simp only [State.clearSummary]
  (repeat' split) <;> simp

@[simp] theorem State.clearAlarms_port (s : State) :
    s.clearAlarms.path.busWait = s.path.busWait ∧ s.clearAlarms.path.partOwed = s.path.partOwed := by
  simp only [State.clearAlarms]
  (repeat' split) <;> simp

@[simp] theorem State.closeSession_port (s : State) :
    s.closeSession.path.busWait = s.path.busWait ∧ s.closeSession.path.partOwed = s.path.partOwed := by
  simp only [State.closeSession]
  (repeat' split) <;> simp

@[simp] theorem State.oweClose_port (s : State) :
    s.oweClose.path.busWait = s.path.busWait ∧ s.oweClose.path.partOwed = s.path.partOwed := by
  simp only [State.oweClose]
  (repeat' split) <;> simp

@[simp] theorem State.vaultEdge_port (s : State) (active : Bool) :
    (s.vaultEdge active).path.busWait = s.path.busWait ∧ (s.vaultEdge active).path.partOwed = s.path.partOwed := by
  simp only [State.vaultEdge]
  (repeat' split) <;> simp

@[simp] theorem State.shockEdge_port (s : State) :
    s.shockEdge.path.busWait = s.path.busWait ∧ s.shockEdge.path.partOwed = s.path.partOwed := by
  simp only [State.shockEdge]
  (repeat' split) <;> simp

@[simp] theorem State.actOnEdge_port (s : State) (i : TamperInput) (active : Bool) :
    (s.actOnEdge i active).path.busWait = s.path.busWait ∧ (s.actOnEdge i active).path.partOwed = s.path.partOwed := by
  simp only [State.actOnEdge]
  (repeat' split) <;> simp

@[simp] theorem State.followLevel_port (s : State) (i : TamperInput) :
    (s.followLevel i).path.busWait = s.path.busWait ∧ (s.followLevel i).path.partOwed = s.path.partOwed := by
  simp only [State.followLevel]
  (repeat' split) <;> simp

@[simp] theorem State.reloadFill_port (s : State) :
    s.reloadFill.path.busWait = s.path.busWait ∧ s.reloadFill.path.partOwed = s.path.partOwed := by
  simp only [State.reloadFill]
  (repeat' split) <;> simp

@[simp] theorem State.reloadAlarms_port (s : State) :
    s.reloadAlarms.path.busWait = s.path.busWait ∧ s.reloadAlarms.path.partOwed = s.path.partOwed := by
  simp only [State.reloadAlarms]
  (repeat' split) <;> simp

@[simp] theorem State.reloadCashBase_port (s : State) (old : Nat) :
    (s.reloadCashBase old).path.busWait = s.path.busWait ∧ (s.reloadCashBase old).path.partOwed = s.path.partOwed := by
  simp only [State.reloadCashBase]
  (repeat' split) <;> simp

@[simp] theorem State.reloadRecordsBase_port (s : State) (old : Nat) :
    (s.reloadRecordsBase old).path.busWait = s.path.busWait ∧
      (s.reloadRecordsBase old).path.partOwed = s.path.partOwed := by
  simp only [State.reloadRecordsBase]
  (repeat' split) <;> simp

@[simp] theorem State.applySettings_port (s : State) (new : Settings) :
    (s.applySettings new).path.busWait = s.path.busWait ∧ (s.applySettings new).path.partOwed = s.path.partOwed := by
  simp [State.applySettings, tamperInputs]

@[simp] theorem State.beginHeaderRead_port (s : State) :
    s.beginHeaderRead.path.busWait = s.path.busWait ∧ s.beginHeaderRead.path.partOwed = s.path.partOwed := by
  simp [State.beginHeaderRead]

@[simp] theorem State.setupLoadDone_port (s : State) (ws : List Word) :
    (s.setupLoadDone ws).path.busWait = s.path.busWait ∧ (s.setupLoadDone ws).path.partOwed = s.path.partOwed := by
  simp only [State.setupLoadDone]
  (repeat' split) <;> simp

@[simp] theorem State.headerReadDone_port (s : State) (ws : List Word) :
    (s.headerReadDone ws).path.busWait = s.path.busWait ∧ (s.headerReadDone ws).path.partOwed = s.path.partOwed := by
  simp [State.headerReadDone]

@[simp] theorem State.restorePurse_port (s : State) (ws : List Word) :
    (s.restorePurse ws).path.busWait = s.path.busWait ∧ (s.restorePurse ws).path.partOwed = s.path.partOwed := by
  simp only [State.restorePurse]
  (repeat' split) <;> simp

@[simp] theorem State.restoreAlarms_port (s : State) (ws : List Word) :
    (s.restoreAlarms ws).path.busWait = s.path.busWait ∧ (s.restoreAlarms ws).path.partOwed = s.path.partOwed := by
  simp only [State.restoreAlarms]
  (repeat' split) <;> simp

@[simp] theorem State.closePowerLost_port (s : State) :
    s.closePowerLost.path.busWait = s.path.busWait ∧ s.closePowerLost.path.partOwed = s.path.partOwed := by
  simp only [State.closePowerLost]
  (repeat' split) <;> simp

@[simp] theorem State.restoreRefund_port (s : State) :
    s.restoreRefund.path.busWait = s.path.busWait ∧ s.restoreRefund.path.partOwed = s.path.partOwed := by
  simp only [State.restoreRefund]
  (repeat' split) <;> simp

@[simp] theorem State.restoreDone_port (s : State) (ws : List Word) :
    (s.restoreDone ws).path.busWait = s.path.busWait ∧ (s.restoreDone ws).path.partOwed = s.path.partOwed := by
  simp [State.restoreDone]

@[simp] theorem State.restartLine_port (s : State) :
    s.restartLine.path.busWait = s.path.busWait ∧ s.restartLine.path.partOwed = s.path.partOwed := by
  simp only [State.restartLine]
  (repeat' split) <;> simp

@[simp] theorem State.serviceRestart_port (s : State) :
    s.serviceRestart.path.busWait = s.path.busWait ∧ s.serviceRestart.path.partOwed = s.path.partOwed := by
  simp [State.serviceRestart]

@[simp] theorem State.takeCommand_port (s : State) (code : Word) :
    (s.takeCommand code).path.busWait = s.path.busWait ∧ (s.takeCommand code).path.partOwed = s.path.partOwed := by
  simp [State.takeCommand]

@[simp] theorem State.postCommand_port (s : State) (code : Word) :
    (s.postCommand code).path.busWait = s.path.busWait ∧ (s.postCommand code).path.partOwed = s.path.partOwed := by
  simp only [State.postCommand]
  (repeat' split) <;> simp

@[simp] theorem State.commandEndCall_port (s : State) :
    s.commandEndCall.path.busWait = s.path.busWait ∧ s.commandEndCall.path.partOwed = s.path.partOwed := by
  simp only [State.commandEndCall]
  (repeat' split) <;> simp

@[simp] theorem State.reportNow_port (s : State) :
    s.reportNow.path.busWait = s.path.busWait ∧ s.reportNow.path.partOwed = s.path.partOwed := by
  simp only [State.reportNow]
  (repeat' split) <;> simp

@[simp] theorem State.commandReportNow_port (s : State) :
    s.commandReportNow.path.busWait = s.path.busWait ∧ s.commandReportNow.path.partOwed = s.path.partOwed := by
  simp only [State.commandReportNow]
  (repeat' split) <;> simp

@[simp] theorem State.clearKind_port (s : State) (k : AlarmKind) :
    (s.clearKind k).path.busWait = s.path.busWait ∧ (s.clearKind k).path.partOwed = s.path.partOwed := by
  simp only [State.clearKind]
  (repeat' split) <;> simp

@[simp] theorem State.commandClearAlarm_port (s : State) (kind : Word) :
    (s.commandClearAlarm kind).path.busWait = s.path.busWait ∧
      (s.commandClearAlarm kind).path.partOwed = s.path.partOwed := by
  simp only [State.commandClearAlarm]
  (repeat' split) <;> simp

@[simp] theorem State.commandReload_port (s : State) :
    s.commandReload.path.busWait = s.path.busWait ∧ s.commandReload.path.partOwed = s.path.partOwed := by
  simp only [State.commandReload]
  (repeat' split) <;> simp

@[simp] theorem State.commandRestart_port (s : State) :
    s.commandRestart.path.busWait = s.path.busWait ∧ s.commandRestart.path.partOwed = s.path.partOwed := by
  simp [State.commandRestart]

@[simp] theorem State.carryOut_port (s : State) (c : Command) :
    (s.carryOut c).path.busWait = s.path.busWait ∧ (s.carryOut c).path.partOwed = s.path.partOwed := by
  simp only [State.carryOut]
  (repeat' split) <;> simp

@[simp] theorem State.reloadOutcome_port (s : State) (ws : List Word) :
    (s.reloadOutcome ws).path.busWait = s.path.busWait ∧ (s.reloadOutcome ws).path.partOwed = s.path.partOwed := by
  simp only [State.reloadOutcome]
  (repeat' split) <;> simp

@[simp] theorem State.reloadDone_port (s : State) (ws : List Word) :
    (s.reloadDone ws).path.busWait = s.path.busWait ∧ (s.reloadDone ws).path.partOwed = s.path.partOwed := by
  simp [State.reloadDone]

@[simp] theorem State.readArgument_port (s : State) (c : Command) :
    (s.readArgument c).path.busWait = s.path.busWait ∧ (s.readArgument c).path.partOwed = s.path.partOwed := by
  simp only [State.readArgument]
  (repeat' split) <;> simp

@[simp] theorem State.clearSlot_port (s : State) (c : Command) :
    (s.clearSlot c).path.busWait = s.path.busWait ∧ (s.clearSlot c).path.partOwed = s.path.partOwed := by
  simp [State.clearSlot]

@[simp] theorem State.writeResponse_port (s : State) (c : Command) (k : Nat) :
    (s.writeResponse c k).path.busWait = s.path.busWait ∧ (s.writeResponse c k).path.partOwed = s.path.partOwed := by
  simp only [State.writeResponse]
  (repeat' split) <;> simp

@[simp] theorem State.mailboxWord_port (s : State) :
    s.mailboxWord.path.busWait = s.path.busWait ∧ s.mailboxWord.path.partOwed = s.path.partOwed := by
  simp only [State.mailboxWord]
  (repeat' split) <;> simp

@[simp] theorem State.loaderWord_port (s : State) :
    s.loaderWord.path.busWait = s.path.busWait ∧ s.loaderWord.path.partOwed = s.path.partOwed := by
  simp only [State.loaderWord]
  (repeat' split) <;> simp

@[simp] theorem State.restoreWord_port (s : State) (got : List Word) :
    (s.restoreWord got).path.busWait = s.path.busWait ∧ (s.restoreWord got).path.partOwed = s.path.partOwed := by
  simp only [State.restoreWord]
  (repeat' split) <;> simp

@[simp] theorem State.beginWriteBack_port (s : State) :
    s.beginWriteBack.path.busWait = s.path.busWait ∧ s.beginWriteBack.path.partOwed = s.path.partOwed := by
  simp [State.beginWriteBack]

@[simp] theorem State.endWriteBack_port (s : State) :
    s.endWriteBack.path.busWait = s.path.busWait ∧ s.endWriteBack.path.partOwed = s.path.partOwed := by
  simp [State.endWriteBack]

@[simp] theorem State.writeBackWord_port (s : State) :
    s.writeBackWord.path.busWait = s.path.busWait ∧ s.writeBackWord.path.partOwed = s.path.partOwed := by
  simp only [State.writeBackWord]
  (repeat' split) <;> simp

@[simp] theorem State.cashWord_port (s : State) :
    s.cashWord.path.busWait = s.path.busWait ∧ s.cashWord.path.partOwed = s.path.partOwed := by
  simp only [State.cashWord]
  (repeat' split) <;> simp

@[simp] theorem State.recordWord_port (s : State) :
    s.recordWord.path.busWait = s.path.busWait ∧ s.recordWord.path.partOwed = s.path.partOwed := by
  simp only [State.recordWord]
  (repeat' split) <;> simp

@[simp] theorem State.analyserDone_port (s : State) (r : AnalyserRead) (ws : List Word) :
    (s.analyserDone r ws).path.busWait = s.path.busWait ∧ (s.analyserDone r ws).path.partOwed = s.path.partOwed := by
  simp only [State.analyserDone]
  (repeat' split) <;> simp

@[simp] theorem State.analyserWord_port (s : State) :
    s.analyserWord.path.busWait = s.path.busWait ∧ s.analyserWord.path.partOwed = s.path.partOwed := by
  simp only [State.analyserWord]
  (repeat' split) <;> simp

@[simp] theorem State.ratingWord_port (s : State) :
    s.ratingWord.path.busWait = s.path.busWait ∧ s.ratingWord.path.partOwed = s.path.partOwed := by
  simp only [State.ratingWord]
  (repeat' split) <;> simp

@[simp] theorem State.tallyWord_port (s : State) :
    s.tallyWord.path.busWait = s.path.busWait ∧ s.tallyWord.path.partOwed = s.path.partOwed := by
  simp only [State.tallyWord]
  (repeat' split) <;> simp

@[simp] theorem State.specialAction_port (s : State) (w : SpecialWord) (v : Word) :
    (s.specialAction w v).path.busWait = s.path.busWait ∧ (s.specialAction w v).path.partOwed = s.path.partOwed := by
  simp only [State.specialAction]
  (repeat' split) <;> simp

@[simp] theorem State.protectedWrite_port (s : State) :
    s.protectedWrite.path.busWait = s.path.busWait ∧ s.protectedWrite.path.partOwed = s.path.partOwed := by
  simp [State.protectedWrite]

end Sys2Proof.Machine
end

section
/-! The number analyser's own fields, the number timers and the pacing of the emitter (chapter 2). -/

namespace Sys2Proof.Machine

/-! ### The FIFO and DIAL_LOW -/

/-- A change of the FIFO touches the FIFO, the armed mark and the flags alone. -/
theorem State.setFifo_form (s : State) (q : List Nat) : ∃ armed status, s.setFifo q =
    { s with number := { s.number with fifo := q, lowArmed := armed }, status := status } := by
  simp only [State.setFifo]
  (repeat' split) <;> exact ⟨_, _, rfl⟩

@[simp] theorem State.setFifo_mask (s : State) (q : List Nat) : (s.setFifo q).status.mask = s.status.mask := by
  simp only [State.setFifo]
  (repeat' split) <;> rfl

/-- A change of the FIFO moves no flag but DIAL_LOW (R40). -/
theorem State.setFifo_otherFlag (s : State) (q : List Nat) {f : EventFlag} (hf : f ≠ .dialLow) :
    f.isIn (s.setFifo q).status.flags = f.isIn s.status.flags := by
  have hlower (t : State) : f.isIn (t.lower .dialLow).status.flags = f.isIn t.status.flags := by
    simp [State.lower_isIn, hf]
  have hraise (t : State) : f.isIn (t.raise .dialLow).status.flags = f.isIn t.status.flags := by
    simp [State.raise_isIn, hf]
  simp only [State.setFifo]
  split
  · exact hlower _
  split
  · exact hlower _
  split
  · exact hraise _
  · rfl

/-- The four rules of DIAL_LOW (R40). -/
theorem State.setFifo_dialLow (s : State) (q : List Nat) :
    let threshold := s.setup.settings.dialLowThreshold
    let old := s.number.fifo.length
    let t := s.setFifo q
    (threshold = 0 → EventFlag.dialLow.isIn t.status.flags = false ∧ t.number.lowArmed = false) ∧
    (0 < threshold → old ≤ threshold → threshold < q.length →
      EventFlag.dialLow.isIn t.status.flags = false ∧ t.number.lowArmed = true) ∧
    (0 < threshold → q.length < old → q.length ≤ threshold → s.number.lowArmed = true →
      EventFlag.dialLow.isIn t.status.flags = true ∧ t.number.lowArmed = false) ∧
    (0 < threshold → (old ≤ threshold ∧ q.length ≤ threshold ∧ s.number.lowArmed = false) ∨
        (threshold < old ∧ threshold < q.length) →
      t.status.flags = s.status.flags ∧ t.number.lowArmed = s.number.lowArmed) := by
  intro threshold old t
  have hlower (u : State) : EventFlag.dialLow.isIn (u.lower .dialLow).status.flags = false := by
    simp [State.lower_isIn]
  refine ⟨fun h0 => ?_, fun h0 hold hq => ?_, fun h0 hfall hq harmed => ?_, fun h0 hcase => ?_⟩
  · have ht : t = ((s.updNumber fun n => { n with fifo := q }).updNumber fun n =>
        { n with lowArmed := false }).lower .dialLow := if_pos h0
    rw [ht]
    exact ⟨hlower _, rfl⟩
  · have ht : t = ((s.updNumber fun n => { n with fifo := q }).updNumber fun n =>
        { n with lowArmed := true }).lower .dialLow := (if_neg (by omega)).trans (if_pos ⟨hold, hq⟩)
    rw [ht]
    exact ⟨hlower _, rfl⟩
  · have ht : t = ((s.updNumber fun n => { n with fifo := q }).updNumber fun n =>
        { n with lowArmed := false }).raise .dialLow :=
      (if_neg (by omega)).trans ((if_neg fun h => absurd h.2 (Nat.not_lt.2 hq)).trans (if_pos ⟨hfall, hq, harmed⟩))
    rw [ht]
    exact ⟨State.raise_self _ _, rfl⟩
  · have ht : t = s.updNumber fun n => { n with fifo := q } := by
      refine (if_neg (by omega)).trans ((if_neg fun h => ?_).trans (if_neg fun h => ?_))
      · rcases hcase with ⟨-, hq, -⟩ | ⟨hold, -⟩
        · exact absurd h.2 (Nat.not_lt.2 hq)
        · exact absurd h.1 (Nat.not_le.2 hold)
      · rcases hcase with ⟨-, -, harmed⟩ | ⟨-, hq⟩
        · simp [harmed] at h
        · exact absurd h.2.1 (Nat.not_le.2 hq)
    rw [ht]
    exact ⟨rfl, rfl⟩

/-! ### The number's phase, its refusal and its end -/

/-- A change of phase touches the phase and the flags alone (R28). -/
theorem State.setNumberPhase_form (s : State) (p : NumberPhase) : ∃ status, s.setNumberPhase p =
    { s with number := { s.number with phase := p }, status := status } := by
  by_cases h : s.number.phase = p
  · simp only [State.setNumberPhase, if_pos h]
    exact ⟨_, by rw [← h]⟩
  · simp only [State.setNumberPhase, if_neg h]
    exact ⟨_, rfl⟩

/-- A change of phase that is one sets NUMBER (R28). -/
theorem State.setNumberPhase_flag {s : State} {p : NumberPhase} (h : s.number.phase ≠ p) :
    EventFlag.number.isIn (s.setNumberPhase p).status.flags = true := by
  rw [State.setNumberPhase, if_neg h]
  exact State.raise_self _ _

theorem State.tallyRefusal_eq (s : State) (c : RefusalCause) :
    s.tallyRefusal c = { s with path := (s.tallyRefusal c).path } := by
  cases c <;> rfl

theorem State.tallyRefusal_path_congr {s t : State} (c : RefusalCause) (h : t.path = s.path) :
    (t.tallyRefusal c).path = (s.tallyRefusal c).path := by
  cases c
  case barred => exact State.tally_path_congr _ h
  case noTariff => exact State.tally_path_congr _ h
  case depositTimeout => exact State.tally_path_congr _ h
  all_goals exact h

/-- The read runs in hand, their results to be discarded. -/
def NumberState.discarded (n : NumberState) : List AnalyserRead := n.reads.map fun r => { r with discarded := true }

def RatingState.discarded (r : RatingState) : List SnapshotRead := r.reads.map fun x => { x with discarded := true }

/-- The part of a refusal and of an end that closes the number's request, timers, read runs and context. -/
theorem State.closeNumber_eq (s : State) : s.withdrawCustomer.stopNumberTimers.discardReads.discardContext =
    { s with number := { s.number with interDigitTimer := none, keptExpiry := false, depositTimer := none,
                                       reads := s.number.discarded }
             line := { s.line with customerRequest := none }
             rating := { context := none, reads := s.rating.discarded } } := by
  simp only [State.withdrawCustomer, State.stopNumberTimers, State.discardReads, State.discardContext, State.updLine,
    State.updNumber, State.updRating, NumberState.discarded, RatingState.discarded]

/-- What a refusal leaves, field by field (R34). -/
theorem State.refuseNumber_form (s : State) (c : RefusalCause) : ∃ armed status, s.refuseNumber c =
    { s with number := { s.number with cause := some c, phase := .refused, fifo := [], lowArmed := armed,
                                       interDigitTimer := none, keptExpiry := false, depositTimer := none,
                                       reads := s.number.discarded }
             line := { s.line with customerRequest := none }
             rating := { context := none, reads := s.rating.discarded }
             path := (s.tallyRefusal c).path
             status := status } := by
  obtain ⟨st₁, h₁⟩ := State.setNumberPhase_form (s.updNumber fun n => { n with cause := some c }) .refused
  obtain ⟨armed, st₂, h₂⟩ := State.setFifo_form
    ((s.updNumber fun n => { n with cause := some c }).setNumberPhase .refused) []
  refine ⟨armed, st₂, ?_⟩
  rw [State.refuseNumber, State.tallyRefusal_eq, State.tallyRefusal_path_congr (s := s) c (by simp),
    State.closeNumber_eq, h₂, h₁]
  rfl

/-- What the end of a number leaves, field by field (R39). -/
theorem State.endNumber_form (s : State) : ∃ armed status, s.endNumber =
    { s with number := { s.number.blank with phase := .empty, fifo := [], lowArmed := armed,
                                             interDigitTimer := none, keptExpiry := false, depositTimer := none,
                                             reads := s.number.discarded }
             line := { s.line with customerRequest := none }
             rating := { context := none, reads := s.rating.discarded }
             status := status } := by
  obtain ⟨st₁, h₁⟩ := State.setNumberPhase_form s .empty
  obtain ⟨armed, st₂, h₂⟩ := State.setFifo_form ((s.setNumberPhase .empty).updNumber NumberState.blank) []
  rw [State.endNumber, State.closeNumber_eq, h₂, h₁]
  exact ⟨armed, st₂, rfl⟩

/-- A refusal that is a change of phase sets NUMBER (R28, R34). -/
theorem State.refuseNumber_flag {s : State} {c : RefusalCause} (h : s.number.phase ≠ .refused) :
    EventFlag.number.isIn (s.refuseNumber c).status.flags = true := by
  have hphase : EventFlag.number.isIn
      ((s.updNumber fun n => { n with cause := some c }).setNumberPhase .refused).status.flags = true :=
    State.setNumberPhase_flag h
  have hfifo := (State.flagsStay_self _).setFifo [] .number (by decide) hphase
  exact (State.flagsStay_self (State.discardContext (State.discardReads (State.stopNumberTimers
    (State.withdrawCustomer (State.setFifo ((s.updNumber fun n => { n with cause := some c }).setNumberPhase
      .refused) [])))))).tallyRefusal c .number (by decide) hfifo

/-- A FIFO that empties in a refusal sets an armed DIAL_LOW (R40). -/
theorem State.refuseNumber_dialLow {s : State} {c : RefusalCause} (h0 : 0 < s.setup.settings.dialLowThreshold)
    (harmed : s.number.lowArmed = true) (hfifo : s.number.fifo ≠ []) :
    EventFlag.dialLow.isIn (s.refuseNumber c).status.flags = true ∧ (s.refuseNumber c).number.lowArmed = false := by
  let u := (s.updNumber fun n => { n with cause := some c }).setNumberPhase .refused
  obtain ⟨st, hu⟩ := State.setNumberPhase_form (s.updNumber fun n => { n with cause := some c }) .refused
  have hlow := (u.setFifo_dialLow []).2.2.1 (by simpa [u] using h0)
    (by rw [show u = _ from hu]; exact List.length_pos_of_ne_nil hfifo) (Nat.zero_le _)
    (by rw [show u = _ from hu]; exact harmed)
  let v := (u.setFifo []).withdrawCustomer.stopNumberTimers.discardReads.discardContext
  have hv : s.refuseNumber c = { v with path := (v.tallyRefusal c).path } := State.tallyRefusal_eq v c
  rw [hv]
  exact hlow

/-! ### The completion decision (R32) -/

/-- The symbols that wait untaken leave the FIFO and nothing else of the number. -/
theorem State.dropUntaken_form (s : State) : ∃ fifo armed status, s.dropUntaken =
    { s with number := { s.number with fifo := fifo, lowArmed := armed }, status := status } := by
  by_cases h : s.setup.settings.dialMode = .pulse ∧ s.number.digits.length < s.number.fifo.length
  · obtain ⟨armed, st, hfifo⟩ := State.setFifo_form s (s.number.fifo.take s.number.digits.length)
    rw [State.dropUntaken, if_pos h, hfifo]
    exact ⟨_, armed, _, rfl⟩
  · rw [State.dropUntaken, if_neg h]
    exact ⟨_, _, _, rfl⟩

/-- The completion decision, field by field but for the FIFO, the part queue and the tallies (R32, R33). -/
theorem State.completeNumber_form (s : State) : ∃ fifo armed path status, s.completeNumber =
    { s with number := { s.number with decided := true, interDigitTimer := none, keptExpiry := false,
                                       depositTimer := none, fifo := fifo, lowArmed := armed,
                                       reads := s.number.reads ++ [⟨.zoneEntry s.numberZone, [], false⟩] }
             rating := { s.rating with context := some freshContext }
             path := path
             status := status } := by
  let u := (s.updNumber fun n => { n with decided := true }).stopNumberTimers
  obtain ⟨fifo, armed, st, h⟩ := State.dropUntaken_form u
  have hend (v : State) : ((((v.tally .numbersCompleted).updRating fun r => { r with context := some freshContext }
      ).updNumber fun n => { n with reads := n.reads ++ [⟨.zoneEntry s.numberZone, [], false⟩] }).join
        .numberAnalyser) =
      { v with number := { v.number with reads := v.number.reads ++ [⟨.zoneEntry s.numberZone, [], false⟩] }
               rating := { v.rating with context := some freshContext }
               path := ((v.tally .numbersCompleted).join .numberAnalyser).path } := by
    rw [State.tally_eq]
    simp only [State.join, State.updPath, State.updNumber, State.updRating] <;> rfl
  rw [State.completeNumber, hend, h]
  exact ⟨fifo, armed, _, st, rfl⟩

/-! ### Items of the emitter -/

theorem State.beginDigit_begun (s : State) (code : Nat) (use : ItemUse) :
    (s.setup.settings.dialMode = .tone → (s.beginDigit code use).emitter.item = some (.toneOn code use) ∧
      (s.beginDigit code use).emitter.timer = some (s.now + s.setup.settings.toneOn)) ∧
    (s.setup.settings.dialMode = .pulse → (s.beginDigit code use).emitter.item =
        some (.pulseBreak code ((if code = 0 then 10 else code) - 1) use) ∧
      (s.beginDigit code use).emitter.timer = some (s.now + 60)) := by
  constructor <;> intro h <;> simp only [State.beginDigit, h] <;> exact ⟨rfl, rfl⟩

/-- A symbol of a customer leaves the FIFO and the number but for the FIFO itself. -/
theorem State.emitNext_number (s : State) : s.emitNext.number =
    { s.number with fifo := s.emitNext.number.fifo, lowArmed := s.emitNext.number.lowArmed } := by
  have hshift (u : State) : u.shiftFifo.number =
      { u.number with fifo := u.shiftFifo.number.fifo, lowArmed := u.shiftFifo.number.lowArmed } := by
    obtain ⟨armed, st, h⟩ := State.setFifo_form u u.number.fifo.tail
    rw [State.shiftFifo, h]
  simp only [State.emitNext]
  split
  · rfl
  split
  · simp only [State.nextCustomerItem]
    split
    · simp
    split
    · rfl
    split
    · simpa using hshift s
    split
    · simpa using hshift s
    · rfl
  · simp only [State.nextReportItem]
    (repeat' split) <;> simp
  · rfl

end Sys2Proof.Machine

open Sys2Proof Sys2Proof.Machine

/-- Settles O36: a kept expiry, the completion decision, and the two refusals. -/
theorem numberTimersExpire : Obligations.NumberTimersExpire := by
  refine ⟨fun s m hlive hrun => ?_, fun s m hlive hrun => ?_⟩
  · have hexec : exec .interDigitTimeout s = .next (s.reach m).interDigitExpired := by
      refine congrArg Host.Outcome.next ?_
      rw [State.whenLive_of_live hlive, State.onExpiry_of_running hrun]
    let u := (s.reach m).updNumber fun n => { n with interDigitTimer := none }
    rw [hexec]
    refine ⟨fun hwaits => congrArg Host.Outcome.next ((if_pos ?_).trans rfl), fun hmatch hfifo => ?_⟩
    · rw [Bool.or_eq_true, decide_eq_true_iff]
      exact hwaits
    · have hdecide : (s.reach m).interDigitExpired = u.decideExpiry := by
        refine if_neg ?_
        rw [Bool.or_eq_true, decide_eq_true_iff, not_or]
        exact ⟨by simpa [NumberState.matchInFlight] using hmatch, Nat.not_lt.2 hfifo⟩
      rw [hdecide]
      refine ⟨fun hmin => ?_, fun hshort => ?_⟩
      · have hcomplete : u.decideExpiry = u.completeNumber := if_pos hmin
        refine ⟨_, rfl, ?_⟩
        obtain ⟨fifo, armed, path, st, h⟩ := State.completeNumber_form u
        rw [hcomplete, h]
        exact ⟨rfl, rfl, rfl, rfl, rfl, rfl, rfl, rfl, rfl⟩
      · have hrefuse : u.decideExpiry = u.refuseNumber .incomplete := if_neg (Nat.not_le.2 hshort)
        refine ⟨_, rfl, ?_⟩
        obtain ⟨armed, st, h⟩ := State.refuseNumber_form u .incomplete
        rw [hrefuse, h]
        exact ⟨rfl, rfl, rfl, rfl, rfl, rfl, rfl, rfl⟩
  · have hexec : exec .depositWaitExpiry s = .next ((s.reach m).refuseNumber .depositTimeout) := by
      refine congrArg Host.Outcome.next ?_
      rw [State.whenLive_of_live hlive, State.onExpiry_of_running hrun]
    obtain ⟨armed, st, h⟩ := State.refuseNumber_form (s.reach m) .depositTimeout
    have hpath : ((s.reach m).tallyRefusal .depositTimeout).path = (s.tally .depositTimeouts).path :=
      State.tally_path_congr _ rfl
    rw [hpath] at h
    refine ⟨_, hexec, ?_, ?_, ?_, ?_, ?_, ?_, ?_, ?_, ?_, fun h => State.refuseNumber_flag h,
      fun h0 harmed hfifo => State.refuseNumber_dialLow h0 harmed hfifo⟩
    all_goals rw [h] <;> rfl

/-- Settles O37: each phase of an item begins the next; a pip waits, begins or hands over to the in-call symbols. -/
theorem emitterItems : Obligations.EmitterItems := by
  refine ⟨fun s m use hlive hrun => ⟨fun code hitem => ?_, fun d left hitem => ?_, fun d left hitem => ?_,
    fun d hitem => ?_⟩, fun s m hlive => ⟨fun hpip hbusy => ?_, fun hpip hidle howner => ?_,
    fun hitem hrun howner => ⟨fun n hdue => ?_, fun hdue hfifo => ?_, fun code rest hdue hfifo hline hphase => ?_⟩⟩⟩
  · refine congrArg Host.Outcome.next ?_
    rw [State.whenLive_of_live hlive]
    simp only [hitem, State.onExpiry_of_running hrun]
    rfl
  · refine congrArg Host.Outcome.next ?_
    rw [State.whenLive_of_live hlive]
    simp only [hitem, State.onExpiry_of_running hrun]
    rfl
  · refine congrArg Host.Outcome.next ?_
    rw [State.whenLive_of_live hlive]
    simp only [hitem, State.onExpiry_of_running hrun]
    rfl
  · refine congrArg Host.Outcome.next ?_
    rw [State.whenLive_of_live hlive]
    simp only [hitem, State.onExpiry_of_running hrun]
    rfl
  · refine congrArg Host.Outcome.next ?_
    rw [State.whenLive_of_live hlive]
    simp only [hpip]
    refine if_pos ?_
    exact Option.isSome_iff_ne_none.2 hbusy
  · refine congrArg Host.Outcome.next ?_
    rw [State.whenLive_of_live hlive]
    simp only [hpip]
    simp [State.pipFallsDue, State.emitNext, State.reach, State.updNow, State.updEmitter, hidle, howner,
      State.nextCustomerItem, State.beginPip, State.beginItem, State.later]
    exact ⟨rfl, rfl⟩
  all_goals
    have hexec : exec .pipEnd s = .next ((s.reach m).clearItem.emitNext) := by
      refine congrArg Host.Outcome.next ?_
      rw [State.whenLive_of_live hlive]
      simp only [hitem, State.onExpiry_of_running hrun]
    have hnext : (s.reach m).clearItem.emitNext = (s.reach m).clearItem.nextCustomerItem := by
      simp [State.emitNext, State.clearItem, State.reach, State.updNow, State.updEmitter, howner]
    rw [hexec, hnext]
  · refine congrArg Host.Outcome.next ?_
    simp [State.nextCustomerItem, State.clearItem, State.reach, State.updNow, State.updEmitter, hdue,
      State.beginPip, State.beginItem, State.later]
    rfl
  · refine congrArg Host.Outcome.next ?_
    simp [State.nextCustomerItem, State.clearItem, State.reach, State.updNow, State.updEmitter, hdue, hfifo]
  · have hstep : (s.reach m).clearItem.nextCustomerItem =
        (s.reach m).clearItem.shiftFifo.beginTone code .inCallSymbol := by
      simp [State.nextCustomerItem, State.clearItem, State.reach, State.updNow, State.updEmitter, hdue, hfifo, hline,
        hphase]
    refine ⟨_, rfl, ?_⟩
    obtain ⟨armed, st, h⟩ := State.setFifo_form (s.reach m).clearItem (s.reach m).clearItem.number.fifo.tail
    rw [hstep, State.shiftFifo, h]
    refine ⟨?_, ?_, rfl, rfl, rfl, rfl⟩
    · exact congrArg List.tail hfifo
    · simp [State.beginTone, State.beginItem, State.clearItem, State.updEmitter, State.reach, State.updNow, hdue,
        State.later]
end

section
/-! A part turn as one equation, and the ends of the reads of the number analyser and the rating engine (R30 to R36,
R65, R161). -/

namespace Sys2Proof.Machine

/-! ### A part turn -/

@[simp] theorem State.wordOperation_port (s : State) (r : Requester) :
    (s.wordOperation r).path.busWait = s.path.busWait ∧ (s.wordOperation r).path.partOwed = s.path.partOwed := by
  cases r <;> simp [State.wordOperation]

/-- A requester that joins again changes the part queue alone. -/
theorem State.rejoin_form (s : State) (r : Requester) :
    ∃ queue, s.rejoin r = { s with path := { s.path with partQueue := queue } } := by
  simp only [State.rejoin, State.join]
  split
  · by_cases hr : r ∈ s.path.partQueue
    · exact ⟨s.path.partQueue, congrArg (fun p => ({ s with path := p } : State)) (if_pos hr)⟩
    · exact ⟨s.path.partQueue ++ [r], congrArg (fun p => ({ s with path := p } : State)) (if_neg hr)⟩
  · exact ⟨s.path.partQueue, rfl⟩

/-- A part turn is the word operation of the requester at the oldest end: beside it only the part queue and the
part-owed mark change (R161, R162). -/
theorem State.partTurn_form {s : State} {r : Requester} {rest : List Requester} (hh : s.isHeld = false)
    (hq : s.path.partQueue = r :: rest) : ∃ queue, s.partTurn =
      { s.wordOperation r with path := { (s.wordOperation r).path with partQueue := queue, partOwed := false } } := by
  rw [State.partTurn_of_queue hh hq]
  obtain ⟨queue, hjoin⟩ :=
    State.rejoin_form ((s.wordOperation r).updPath fun p => { p with partQueue := p.partQueue.tail }) r
  rw [hjoin]
  exact ⟨queue, rfl⟩

/-- The same with no access in bus wait, when the host has none to make after it (R164). -/
theorem State.turn_form {s : State} {r : Requester} {rest : List Requester} (hh : s.isHeld = false)
    (hbus : s.path.busWait = []) (hq : s.path.partQueue = r :: rest) : ∃ queue, s.turn =
      { s.wordOperation r with path := { (s.wordOperation r).path with partQueue := queue, partOwed := false } } := by
  obtain ⟨queue, h⟩ := State.partTurn_form hh hq
  refine ⟨queue, ?_⟩
  rw [State.turn, h]
  exact State.releaseBus_of_empty ((s.wordOperation_port r).1.trans hbus)

/-- A run command whose last word is next carries out that word and frees the port (R161; log entry 3). -/
theorem State.turnsUntil_form {s : State} {r : Requester} {rest : List Requester} {ready : State → Bool}
    (hh : s.isHeld = false) (hbus : s.path.busWait = []) (hq : s.path.partQueue = r :: rest)
    (hready : ready s = true) : ∃ queue, s.whenLive (fun u => u.turnsUntil ready) =
      { s.wordOperation r with path := { (s.wordOperation r).path with partQueue := queue, partOwed := false } } := by
  rw [State.whenLive_of_live hh, State.turnsUntil_of_ready hready]
  exact State.turn_form hh hbus hq

theorem State.isNext_of_queue {s : State} {r : Requester} {rest : List Requester} (hq : s.path.partQueue = r :: rest) :
    s.isNext r = true := by
  simp [State.isNext, hq]

/-! ### The last words of the read runs -/

/-- The last word of a read run of the number analyser. -/
theorem State.analyserWord_last {s : State} {r : AnalyserRead} {more : List AnalyserRead}
    (hreads : s.number.reads = r :: more) (hlen : r.words.length + 1 = r.job.size) :
    s.analyserWord = s.analyserDone r
      (r.words ++ [readWord s.mem (wordAddr s.setup.settings.bases.tariff (r.job.offset r.words.length))]) := by
  simp [State.analyserWord, hreads, hlen]

/-- The last word of a snapshot read. -/
theorem State.ratingWord_last {s : State} {r : SnapshotRead} {more : List SnapshotRead}
    (hreads : s.rating.reads = r :: more) (hlen : r.words.length = 87) :
    s.ratingWord = (s.updRating fun x => { x with reads := more }).snapshotDone r.entry
      (r.words ++ [readWord s.mem (wordAddr s.setup.settings.bases.tariff (256 + r.words.length))]) r.discarded := by
  simp [State.ratingWord, hreads, hlen]

/-! ### After a match (R31, R32) -/

/-- What a match has fixed of the number record. -/
def NumberState.matched (n : NumberState) : Option Nat × Option Nat × Option Nat × Option Nat :=
  (n.matchEntry, n.zone, n.minLength, n.maxLength)

theorem State.refuseNumber_matched (s : State) (c : RefusalCause) :
    (s.refuseNumber c).number.matched = s.number.matched := by
  obtain ⟨_, _, h⟩ := State.refuseNumber_form s c
  rw [h]
  rfl

theorem State.completeNumber_matched (s : State) : s.completeNumber.number.matched = s.number.matched := by
  obtain ⟨_, _, _, _, h⟩ := State.completeNumber_form s
  rw [h]
  rfl

theorem State.takeSymbol_matched (s : State) : s.takeSymbol.number.matched = s.number.matched := by
  simp only [State.takeSymbol]
  (repeat' split) <;> rfl

/-- The judgement of a match leaves what the match has fixed. -/
theorem State.judgeMatch_matched (s : State) : s.judgeMatch.number.matched = s.number.matched := by
  simp only [State.judgeMatch, State.decideExpiry]
  split
  · exact s.completeNumber_matched
  split
  · split
    · exact s.completeNumber_matched
    · exact s.refuseNumber_matched _
  · exact s.takeSymbol_matched

/-- The completion decision is made and a fresh context stands (R32, R64). -/
theorem State.completeNumber_decided (s : State) :
    s.completeNumber.number.decided = true ∧ s.completeNumber.rating.context = some freshContext := by
  obtain ⟨_, _, _, _, h⟩ := State.completeNumber_form s
  rw [h]
  exact ⟨rfl, rfl⟩

/-- A number at or above its maximum length is complete as its match ends (R32). -/
theorem State.judgeMatch_complete {s : State} {m : Nat} (hmax : s.number.maxLength = some m)
    (h : m ≤ s.number.digits.length) : s.judgeMatch = s.completeNumber := by
  rw [State.judgeMatch, if_pos]
  rw [hmax]
  exact h

/-- A match that has not been discarded fixes the entry's fields and is judged (R31, R32). -/
theorem State.prefixMatchDone_form (s : State) (digits : List Nat) (ws : List Word) :
    let t := s.prefixMatchDone digits ws false
    let n := s.number.applyMatch ws digits s.setup.settings.defaultZone
    t.number.matched = n.matched ∧
      ∀ m, n.maxLength = some m → m ≤ n.digits.length →
        t.number.decided = true ∧ t.rating.context = some freshContext := by
  let u := s.updNumber fun n => n.applyMatch ws digits s.setup.settings.defaultZone
  have hdone : s.prefixMatchDone digits ws false = u.judgeMatch := rfl
  refine ⟨u.judgeMatch_matched, fun m hmax hlen => ?_⟩
  rw [hdone, State.judgeMatch_complete (s := u) hmax hlen]
  exact u.completeNumber_decided

/-! ### The refusals and the ways on from the completion checks (R33 to R36) -/

/-- What a refusal fixes of the number: its phase and cause; the digits, the kind and the deposit stay (R34). -/
theorem State.refuseNumber_fixes (s : State) (c : RefusalCause) :
    (s.refuseNumber c).number.phase = .refused ∧ (s.refuseNumber c).number.cause = some c ∧
      (s.refuseNumber c).number.digits = s.number.digits ∧ (s.refuseNumber c).number.kind = s.number.kind ∧
      (s.refuseNumber c).number.deposit = s.number.deposit ∧ (s.refuseNumber c).rating.context = none := by
  obtain ⟨_, _, h⟩ := State.refuseNumber_form s c
  rw [h]
  exact ⟨rfl, rfl, rfl, rfl, rfl, rfl⟩

/-- Entry to WAIT_LINE fixes the phase; the digits, the kind and the deposit stay (R36). -/
theorem State.toWaitLine_fixes (s : State) :
    s.toWaitLine.number.phase = .waitLine ∧ s.toWaitLine.number.digits = s.number.digits ∧
      s.toWaitLine.number.kind = s.number.kind ∧ s.toWaitLine.number.deposit = s.number.deposit := by
  obtain ⟨_, h⟩ := State.setNumberPhase_form s.stopNumberTimers .waitLine
  have hnumber : s.toWaitLine.number = (s.stopNumberTimers.setNumberPhase .waitLine).number :=
    by simp [State.toWaitLine]
  rw [hnumber, h]
  exact ⟨rfl, rfl, rfl, rfl⟩

/-- Entry to WAIT_DEPOSIT fixes the phase and the deposit-wait timer; the deposit stays (R35). -/
theorem State.toWaitDeposit_fixes (s : State) :
    s.toWaitDeposit.number.phase = .waitDeposit ∧ s.toWaitDeposit.number.deposit = s.number.deposit ∧
      s.toWaitDeposit.number.depositTimer = some (s.now + 1000 * s.setup.settings.depositWait) := by
  obtain ⟨_, h⟩ := State.setNumberPhase_form s.stopNumberTimers .waitDeposit
  simp only [State.toWaitDeposit, h]
  exact ⟨rfl, rfl, rfl⟩

/-! ### The completion checks (R33) -/

/-- Under PULSE a number with a `*` or a `#` cannot be dialled (R33). -/
def State.keysRefused (s : State) : Bool := s.setup.settings.dialMode = .pulse && s.number.hasKeySymbol

theorem State.keysRefused_iff (s : State) :
    s.keysRefused = true ↔ s.setup.settings.dialMode = .pulse ∧ ∃ d ∈ s.number.digits, 10 ≤ d := by
  simp [State.keysRefused, NumberState.hasKeySymbol]

/-- Checks 1 to 3 and 9 by the kind that the entry holds (R33). -/
theorem State.checkEntry_effect (s : State) (entry : List Word) :
    (natAt entry 0 = 0 ∨ 4 < natAt entry 0 → s.checkEntry entry = s.refuseNumber .noTariff) ∧
    (natAt entry 0 = 4 → s.checkEntry entry = (s.storeKind .barred).refuseNumber .barred) ∧
    (1 ≤ natAt entry 0 → natAt entry 0 ≤ 3 → s.keysRefused = true →
      ∃ k, s.checkEntry entry = (s.storeKind k).refuseNumber .notDiallable) ∧
    (natAt entry 0 = 2 → s.keysRefused = false → s.checkEntry entry = (s.storeKind .free).toWaitLine) ∧
    (natAt entry 0 = 3 → s.keysRefused = false → s.checkEntry entry = (s.storeKind .emergency).toWaitLine) ∧
    (natAt entry 0 = 1 → s.keysRefused = false →
      s.checkEntry entry = (s.storeKind .paid).checkPaidEntry entry) := by
  have hkind {k : ZoneKind} (hk : ZoneKind.ofCode (natAt entry 0) = some k) (hb : k ≠ .barred) :
      s.checkEntry entry = if (s.storeKind k).keysRefused then (s.storeKind k).refuseNumber .notDiallable
        else match k with
          | .paid => (s.storeKind k).checkPaidEntry entry
          | _ => (s.storeKind k).toWaitLine := by
    simp only [State.checkEntry, hk]
    cases k
    case barred => exact absurd rfl hb
    all_goals rfl
  have hsame (k : ZoneKind) : (s.storeKind k).keysRefused = s.keysRefused := rfl
  refine ⟨fun h => ?_, fun h => ?_, fun hlow hhigh hkeys => ?_, fun h hkeys => ?_, fun h hkeys => ?_, fun h hkeys => ?_⟩
  · have hnone : ZoneKind.ofCode (natAt entry 0) = none := by
      generalize natAt entry 0 = n at h
      match n, h with
      | 0, _ => rfl
      | n + 5, _ => rfl
    simp only [State.checkEntry, hnone]
  · simp only [State.checkEntry, h, ZoneKind.ofCode]
  · obtain ⟨k, hk, hb⟩ : ∃ k, ZoneKind.ofCode (natAt entry 0) = some k ∧ k ≠ .barred := by
      rcases (by omega : natAt entry 0 = 1 ∨ natAt entry 0 = 2 ∨ natAt entry 0 = 3) with h | h | h
      · exact ⟨.paid, by rw [h]; rfl, by decide⟩
      · exact ⟨.free, by rw [h]; rfl, by decide⟩
      · exact ⟨.emergency, by rw [h]; rfl, by decide⟩
    exact ⟨k, (hkind hk hb).trans (if_pos ((hsame k).trans hkeys))⟩
  · exact (hkind (k := .free) (by rw [h]; rfl) (by decide)).trans (if_neg (by simp [hsame, hkeys]))
  · exact (hkind (k := .emergency) (by rw [h]; rfl) (by decide)).trans (if_neg (by simp [hsame, hkeys]))
  · exact (hkind (k := .paid) (by rw [h]; rfl) (by decide)).trans (if_neg (by simp [hsame, hkeys]))

/-- Checks 4 and 5 of a PAID entry (R33). -/
theorem State.checkPaidEntry_effect (s : State) (entry : List Word) :
    (s.coin.reasons.unavailable = true → s.checkPaidEntry entry = s.refuseNumber .serviceUnavailable) ∧
    (s.coin.reasons.unavailable = false → chargesInRange entry = false →
      s.checkPaidEntry entry = s.refuseNumber .noTariff) ∧
    (s.coin.reasons.unavailable = false → chargesInRange entry = true →
      s.checkPaidEntry entry = s.beginSnapshot entry) := by
  refine ⟨fun h => if_pos h, fun h hc => ?_, fun h hc => ?_⟩
  · exact (if_neg (by simp [h])).trans (if_neg (by simp [hc]))
  · exact (if_neg (by simp [h])).trans (if_pos hc)

theorem State.checkPaidEntry_kind (s : State) (entry : List Word) :
    (s.checkPaidEntry entry).number.kind = s.number.kind := by
  simp only [State.checkPaidEntry]
  (repeat' split)
  · exact (s.refuseNumber_fixes _).2.2.2.1
  · rfl
  · exact (s.refuseNumber_fixes _).2.2.2.1

/-- Whatever the checks decide, the digits stay in the record (R34). -/
theorem State.checkEntry_digits (s : State) (entry : List Word) :
    (s.checkEntry entry).number.digits = s.number.digits := by
  have hpaid (u : State) : (u.checkPaidEntry entry).number.digits = u.number.digits := by
    simp only [State.checkPaidEntry]
    (repeat' split)
    · exact (u.refuseNumber_fixes _).2.2.1
    · rfl
    · exact (u.refuseNumber_fixes _).2.2.1
  simp only [State.checkEntry]
  split
  · exact (s.refuseNumber_fixes _).2.2.1
  · exact ((s.storeKind _).refuseNumber_fixes _).2.2.1
  · split
    · exact ((s.storeKind _).refuseNumber_fixes _).2.2.1
    · split
      · exact hpaid _
      · exact (State.toWaitLine_fixes _).2.1

/-- Checks 4 and 6 to 8 at the end of a snapshot read (R33, R35, R36). -/
theorem State.checkDeposit_effect (s : State) (d : Nat) :
    (s.coin.reasons.unavailable = true → s.checkDeposit d = s.refuseNumber .serviceUnavailable) ∧
    (s.coin.reasons.unavailable = false →
      (s.setup.settings.creditCap < d → s.checkDeposit d = s.refuseNumber .depositAboveCap) ∧
      (d ≤ s.setup.settings.creditCap → s.coin.totalCredit < d → s.checkDeposit d = s.toWaitDeposit) ∧
      (d ≤ s.setup.settings.creditCap → d ≤ s.coin.totalCredit → s.checkDeposit d = s.toWaitLine)) := by
  refine ⟨fun h => if_pos h, fun h => ⟨fun hcap => ?_, fun hcap hcredit => ?_, fun hcap hcredit => ?_⟩⟩
  all_goals rw [State.checkDeposit, if_neg (by simp [h])]
  · exact if_pos hcap
  · exact (if_neg (Nat.not_lt.2 hcap)).trans (if_pos hcredit)
  · exact (if_neg (Nat.not_lt.2 hcap)).trans (if_neg (Nat.not_lt.2 hcredit))

/-- Every way on from the deposit leaves it in the record. -/
theorem State.checkDeposit_deposit (s : State) (d : Nat) :
    (s.checkDeposit d).number.deposit = s.number.deposit := by
  simp only [State.checkDeposit]
  (repeat' split)
  · exact (s.refuseNumber_fixes _).2.2.2.2.1
  · exact (s.refuseNumber_fixes _).2.2.2.2.1
  · exact s.toWaitDeposit_fixes.2.1
  · exact s.toWaitLine_fixes.2.2.2

end Sys2Proof.Machine

open Sys2Proof Sys2Proof.Machine

/-- The first part of O34: the last word of a match. -/
theorem prefixMatchEnds (s : State) (rest : List Requester) (digits : List Nat) (ws : List Word)
    (more : List AnalyserRead) (hlive : s.isHeld = false) (hbus : s.path.busWait = [])
    (hq : s.path.partQueue = .numberAnalyser :: rest) (hreads : s.number.reads = ⟨.prefixMatch digits, ws, false⟩ :: more)
    (hlen : ws.length = 255) :
    let all := ws ++ [readWord s.mem (wordAddr s.setup.settings.bases.tariff 767)]
    ∃ t, exec .prefixMatchEnd s = .next t ∧
      (∀ e, winningEntry all digits = some e →
        t.number.matchEntry = some e ∧ t.number.zone = some (prefixEntry all e).zone ∧
        t.number.minLength = some (prefixEntry all e).minLength ∧
        t.number.maxLength = some (prefixEntry all e).maxLength ∧
        ((prefixEntry all e).maxLength ≤ s.number.digits.length →
          t.number.decided = true ∧ t.rating.context = some freshContext)) ∧
      (winningEntry all digits = none →
        t.number.matchEntry = none ∧ t.number.zone = some s.setup.settings.defaultZone ∧
        t.number.minLength = some 1 ∧ t.number.maxLength = some 20 ∧
        (20 ≤ s.number.digits.length →
          t.number.decided = true ∧ t.rating.context = some freshContext)) ∧
      t.path.partOwed = false ∧ t.mem = s.mem ∧ t.coin = s.coin ∧ t.cash = s.cash ∧ t.setup = s.setup ∧
      t.emitter = s.emitter ∧ t.clock = s.clock := by
  intro all
  let u := s.updNumber fun n => { n with reads := n.reads.tail }
  have hready : s.atMatchEnd = true := by
    simp [State.atMatchEnd, State.isNext_of_queue hq, hreads, AnalyserRead.isMatch, AnalyserJob.size, hlen]
  have hword : s.wordOperation .numberAnalyser = u.prefixMatchDone digits all false := by
    refine (State.analyserWord_last hreads (by simp [AnalyserJob.size, hlen])).trans ?_
    simp only [State.analyserDone, AnalyserJob.offset, hlen]
    rfl
  obtain ⟨queue, hturn⟩ := State.turnsUntil_form hlive hbus hq hready
  rw [hword] at hturn
  obtain ⟨hmatched, hdone⟩ := u.prefixMatchDone_form digits all
  obtain ⟨hentry, hzone, hmin, hmax⟩ := by simpa only [NumberState.matched, Prod.mk.injEq] using hmatched
  refine ⟨_, congrArg Host.Outcome.next hturn, fun e he => ?_, fun he => ?_, rfl, ?_, ?_, ?_, ?_, ?_, ?_⟩
  · have happly : u.number.applyMatch all digits u.setup.settings.defaultZone = { u.number with
        matchEntry := some e, zone := some (prefixEntry all e).zone, minLength := some (prefixEntry all e).minLength,
        maxLength := some (prefixEntry all e).maxLength } := by
      simp only [NumberState.applyMatch, he]
    rw [happly] at hentry hzone hmin hmax hdone
    exact ⟨hentry, hzone, hmin, hmax, hdone _ rfl⟩
  · have happly : u.number.applyMatch all digits u.setup.settings.defaultZone = { u.number with
        matchEntry := none, zone := some s.setup.settings.defaultZone, minLength := some 1, maxLength := some 20 } := by
      simp only [NumberState.applyMatch, he]
      rfl
    rw [happly] at hentry hzone hmin hmax hdone
    exact ⟨hentry, hzone, hmin, hmax, hdone _ rfl⟩
  all_goals simp [u]

/-- Settles O34: the last word of each of the two reads, by what it has found. -/
theorem analyserReadsEnd : Obligations.AnalyserReadsEnd := by
  refine ⟨prefixMatchEnds, fun s rest zone ws more hlive hbus hq hreads hlen => ?_⟩
  intro entry keys
  let u := s.updNumber fun n => { n with reads := n.reads.tail }
  have hready : s.atEntryEnd = true := by
    simp [State.atEntryEnd, State.isNext_of_queue hq, hreads, AnalyserRead.isMatch, AnalyserJob.size, hlen]
  have hword : s.wordOperation .numberAnalyser = u.checkEntry entry := by
    refine (State.analyserWord_last hreads (by simp [AnalyserJob.size, hlen])).trans ?_
    simp only [State.analyserDone, AnalyserJob.offset, hlen]
    rfl
  obtain ⟨queue, hturn⟩ := State.turnsUntil_form hlive hbus hq hready
  rw [hword] at hturn
  have hway := u.checkEntry_effect entry
  obtain ⟨hnone, hbarred, hkeys, hfree, hemergency, hpaid⟩ := hway
  refine ⟨_, congrArg Host.Outcome.next hturn, ?_, ?_, ?_, ?_, rfl, u.checkEntry_digits entry, fun h => ?_, fun h => ?_,
    fun hlow hhigh hkey => ?_, fun h hkey => ?_, fun h hkey => ?_, fun h hkey => ?_⟩
  · simp [u]
  · simp [u]
  · simp [u]
  · simp [u]
  · rw [hnone h]
    obtain ⟨hphase, hcause, -⟩ := u.refuseNumber_fixes .noTariff
    exact ⟨hphase, hcause⟩
  · rw [hbarred h]
    obtain ⟨hphase, hcause, -, hkind, -⟩ := (u.storeKind .barred).refuseNumber_fixes .barred
    exact ⟨hphase, hcause, hkind⟩
  · obtain ⟨k, hk⟩ := hkeys hlow hhigh (u.keysRefused_iff.2 hkey)
    rw [hk]
    obtain ⟨hphase, hcause, -⟩ := (u.storeKind k).refuseNumber_fixes .notDiallable
    exact ⟨hphase, hcause⟩
  · rw [hfree h (eq_false_of_ne_true fun hr => hkey (u.keysRefused_iff.1 hr))]
    obtain ⟨hphase, -, hkind, -⟩ := (u.storeKind .free).toWaitLine_fixes
    exact ⟨hphase, hkind⟩
  · rw [hemergency h (eq_false_of_ne_true fun hr => hkey (u.keysRefused_iff.1 hr))]
    obtain ⟨hphase, -, hkind, -⟩ := (u.storeKind .emergency).toWaitLine_fixes
    exact ⟨hphase, hkind⟩
  · rw [hpaid h (eq_false_of_ne_true fun hr => hkey (u.keysRefused_iff.1 hr))]
    obtain ⟨hreason, hcharges, hrange⟩ := (u.storeKind .paid).checkPaidEntry_effect entry
    have hservice : (u.storeKind .paid).coin.reasons.unavailable = s.coin.reasons.unavailable := rfl
    rw [hservice] at hreason hcharges hrange
    refine ⟨(u.storeKind .paid).checkPaidEntry_kind entry, fun h => ?_, fun h hc => ?_, fun h hc => ?_⟩
    · rw [hreason h]
      obtain ⟨hphase, hcause, -⟩ := (u.storeKind .paid).refuseNumber_fixes .serviceUnavailable
      exact ⟨hphase, hcause⟩
    · rw [hcharges h hc]
      obtain ⟨hphase, hcause, -⟩ := (u.storeKind .paid).refuseNumber_fixes .noTariff
      exact ⟨hphase, hcause⟩
    · rw [hrange h hc]
      exact ⟨rfl, rfl⟩

/-- Settles O35: the deposit is fixed, and the checks 4 and 6 to 8 choose the way. -/
theorem snapshotReadEnds : Obligations.SnapshotReadEnds := by
  intro s rest entry ws more hlive hbus hq hreads hlen snap d
  have hready : s.atSnapshotEnd = true := by
    simp [State.atSnapshotEnd, State.isNext_of_queue hq, hreads, hlen]
  let rated := ratedUnit snap s.clock
  let u := (((s.updRating fun x => { x with reads := more }).storeSnapshot snap (snapshotFlags entry rated.2)).updNumber
    fun n => { n with deposit := some d })
  have hword : s.wordOperation .ratingEngine = u.checkDeposit d := by
    refine (State.ratingWord_last hreads hlen).trans ?_
    simp only [hlen]
    rfl
  obtain ⟨queue, hturn⟩ := State.turnsUntil_form hlive hbus hq hready
  rw [hword] at hturn
  obtain ⟨hreason, hservice⟩ := u.checkDeposit_effect d
  refine ⟨_, congrArg Host.Outcome.next hturn, u.checkDeposit_deposit d, ?_, ?_, ?_, ?_, rfl, fun h => ?_, fun h =>
    ⟨fun hcap => ?_, fun hcap hcredit => ?_, fun hcap hcredit => ?_⟩⟩
  · simp [u]
  · simp [u]
  · simp [u]
  · simp [u]
  · rw [hreason h]
    obtain ⟨hphase, hcause, -, -, -, hcontext⟩ := u.refuseNumber_fixes .serviceUnavailable
    exact ⟨hphase, hcause, hcontext⟩
  · rw [(hservice h).1 hcap]
    obtain ⟨hphase, hcause, -, -, -, hcontext⟩ := u.refuseNumber_fixes .depositAboveCap
    exact ⟨hphase, hcause, hcontext⟩
  · rw [(hservice h).2.1 hcap hcredit]
    exact ⟨u.toWaitDeposit_fixes.1, u.toWaitDeposit_fixes.2.2⟩
  · rw [(hservice h).2.2 hcap hcredit]
    refine ⟨u.toWaitLine_fixes.1, fun c hc => ?_⟩
    refine ⟨{ (c.addFlags (snapshotFlags entry rated.2)) with snapshot := some snap }, ?_, rfl⟩
    simp [u, State.storeSnapshot, State.updRating, State.updNumber, hc]
end

section
/-! The host's turn of a write (R157, R162), and the postings of the host (R27, R29). -/

namespace Sys2Proof.Machine

/-! ### The turn of a write -/

/-- A word write and the end of its host turn change memory, the part-owed mark and the flash count alone. -/
theorem State.storeWord_written (u : State) (addr : Nat) (v : Word) :
    let t := (u.storeWord addr v).hostTurnEnds
    t = { u with mem := t.mem, path := { u.path with partOwed := true, flashCycles := t.path.flashCycles } } := by
  by_cases h : addr < Config.flashBase
  · simp only [State.storeWord, State.countFlash, if_pos h, State.putByte, State.hostTurnEnds, State.updMem,
      State.updPath]
  · simp only [State.storeWord, State.countFlash, if_neg h, State.putByte, State.hostTurnEnds, State.updMem,
      State.updPath]

/-- The same for a byte write. -/
theorem State.storeByte_written (u : State) (addr : Nat) (b : Byte) :
    let t := (u.storeByte addr b).hostTurnEnds
    t = { u with mem := t.mem, path := { u.path with partOwed := true, flashCycles := t.path.flashCycles } } := by
  by_cases h : addr < Config.flashBase
  · simp only [State.storeByte, State.countFlash, if_pos h, State.putByte, State.hostTurnEnds, State.updMem,
      State.updPath]
  · simp only [State.storeByte, State.countFlash, if_neg h, State.putByte, State.hostTurnEnds, State.updMem,
      State.updPath]

theorem State.storeWord_sameOutside (u : State) (addr : Nat) (v : Word) :
    sameOutside u.mem (u.storeWord addr v).mem addr 2 := fun other h =>
  u.storeWord_readByte_other addr other v (by omega) (by omega)

theorem State.storeByte_sameOutside (u : State) (addr : Nat) (b : Byte) :
    sameOutside u.mem (u.storeByte addr b).mem addr 1 := fun other h => by
  rw [State.storeByte_mem]
  exact readByte_writeByte_other _ _ _ _ (by omega)

/-- A write of a special word that passes: the word of the access alone is written in its turn (R153, R157). -/
theorem State.takeSpecial_writes {s : State} {w : SpecialWord} {v : Word} (h : s.specialPasses w v = true) :
    s.writesAt (s.specialAction w v) (s.takeSpecial w v) (s.specialAddr w) 2 ∧
      (s.specialAddr w + 1 < Config.flashBase → Memory.wf (s.atHostTurn (s.specialAction w v)).mem = true →
        readWord (s.takeSpecial w v).mem (s.specialAddr w) = v) := by
  rw [State.takeSpecial_of_passes h]
  exact ⟨⟨State.storeWord_written _ _ _, State.storeWord_sameOutside _ _ _⟩,
    fun hsram hwf => State.storeWord_readWord _ _ _ hsram hwf⟩

theorem State.hostAccess_of_free {s : State} (h : s.holdsHost = false) (c : Instr) (f : State → State) :
    s.hostAccess c f = f s := by
  simp [State.hostAccess, h]

/-! ### What the emitter leaves of the number -/

/-- The emitter takes the oldest symbol of the FIFO of a customer, or none. -/
theorem State.emitNext_fifo (s : State) :
    s.emitNext.number.fifo = s.number.fifo ∨ s.emitNext.number.fifo = s.number.fifo.tail := by
  have hshift (u : State) : u.shiftFifo.number.fifo = u.number.fifo.tail := State.setFifo_fifo _ _
  simp only [State.emitNext]
  split
  · exact .inl rfl
  split
  · simp only [State.nextCustomerItem]
    split
    · exact .inl (by simp)
    split
    · exact .inl rfl
    split
    · exact .inr (by simpa using hshift s)
    split
    · exact .inr (by simpa using hshift s)
    · exact .inl rfl
  · simp only [State.nextReportItem]
    (repeat' split) <;> exact .inl (by simp)
  · exact .inl rfl

/-- A busy emitter, or one with no owner of the line, begins nothing. -/
theorem State.emitNext_of_nothing {s : State} (h : s.emitter.item ≠ none ∨ s.line.owner = none) : s.emitNext = s := by
  rcases h with h | h
  · exact if_pos (Option.isSome_iff_ne_none.2 h)
  · simp [State.emitNext, h]

/-- Only a free emitter of a customer call touches the number. -/
theorem State.emitNext_number_of_not_free {s : State} (h : ¬ (s.emitter.item = none ∧ s.line.owner = some .customer)) :
    s.emitNext.number = s.number := by
  simp only [State.emitNext]
  split
  · rfl
  · next hitem =>
    have hnone : s.emitter.item = none := by simpa using hitem
    split
    · next howner => exact absurd ⟨hnone, howner⟩ h
    · simp only [State.nextReportItem]
      (repeat' split) <;> simp
    · rfl

/-- A number that is collected hands no symbol to the emitter (R37). -/
theorem State.emitNext_number_of_collecting {s : State} (h : s.number.phase = .collecting) :
    s.emitNext.number = s.number := by
  simp only [State.emitNext]
  split
  · rfl
  split
  · simp only [State.nextCustomerItem, h]
    (repeat' split) <;> simp_all
  · simp only [State.nextReportItem]
    (repeat' split) <;> simp
  · rfl

/-! ### Symbols joining the number (R29) -/

theorem State.takeSymbol_of_match {s : State} (h : s.number.matchInFlight = true) : s.takeSymbol = s := by
  simp [State.takeSymbol, h]

/-- The oldest symbol not yet taken joins the number, and its match begins. -/
theorem State.takeSymbol_of_free {s : State} {d : Nat} (hphase : s.number.phase = .collecting)
    (hdecided : s.number.decided = false) (hmatch : s.number.matchInFlight = false)
    (hd : s.number.fifo[s.number.digits.length]? = some d) :
    s.takeSymbol = (s.updNumber fun n => { n with
      digits := n.digits ++ [d], reads := n.reads ++ [⟨.prefixMatch (n.digits ++ [d]), [], false⟩] }).join
        .numberAnalyser := by
  simp [State.takeSymbol, hphase, hdecided, hmatch, hd]

/-- A requester that joins stands in the part queue. -/
theorem State.join_mem (s : State) (r : Requester) : r ∈ (s.join r).path.partQueue := by
  by_cases h : r ∈ s.path.partQueue
  · simpa [State.join, State.updPath, h] using h
  · simp [State.join, State.updPath, h]

/-- A symbol taken changes the digits and the reads of the number alone. -/
theorem State.takeSymbol_number (s : State) : s.takeSymbol.number =
    { s.number with digits := s.takeSymbol.number.digits, reads := s.takeSymbol.number.reads } := by
  simp only [State.takeSymbol]
  (repeat' split) <;> rfl

/-! ### Postings (R27, R29) -/

/-- The five cases in which a posting is dropped (R27). -/
theorem State.dropsPosting_iff (s : State) (code : Nat) : s.dropsPosting code = true ↔
    (s.hook.phase = .cleared ∨ 12 ≤ code ∨ 32 ≤ s.number.fifo.length ∨
      (s.number.phase = .collecting ∧ 20 ≤ s.number.digits.length + s.number.untaken) ∨
      (s.setup.settings.dialMode = .pulse ∧ s.number.inCall = true)) := by
  simp only [State.dropsPosting, Bool.or_eq_true, Bool.and_eq_true, beq_iff_eq, decide_eq_true_iff, or_assoc]
  exact Iff.rfl

theorem State.postSymbol_of_drop {s : State} {code : Nat} (h : s.dropsPosting code = true) :
    s.postSymbol code = s.raise .dialRefused := if_pos h

/-- A posting in EMPTY or REFUSED starts a new number. -/
theorem State.postSymbol_of_start {s : State} {code : Nat} (h : s.dropsPosting code = false)
    (hphase : s.number.phase = .empty ∨ s.number.phase = .refused) : s.postSymbol code = s.startNumber code := by
  rw [State.postSymbol, if_neg (by simp [h])]
  rcases hphase with hp | hp <;> simp only [hp]

/-- A posting before the completion decision joins the number. -/
theorem State.postSymbol_of_collecting {s : State} {code : Nat} (h : s.dropsPosting code = false)
    (hphase : s.number.phase = .collecting) (hdecided : s.number.decided = false) :
    s.postSymbol code = ((s.appendSymbol code).startInterDigit).takeSymbol := by
  rw [State.postSymbol, if_neg (by simp [h])]
  simp [hphase, hdecided]

/-- A posting after it is an in-call symbol. -/
theorem State.postSymbol_of_inCall {s : State} {code : Nat} (h : s.dropsPosting code = false)
    (hcall : s.number.inCall = true) : s.postSymbol code = s.appendSymbol code := by
  rw [State.postSymbol, if_neg (by simp [h])]
  simp only [NumberState.inCall] at hcall
  split at hcall <;> simp_all

/-- The record as a posting begins it: of one symbol in the FIFO, with the inter-digit timer from full. -/
theorem State.startNumber_record {s : State} (code : Nat) (hfifo : s.number.fifo = []) : ∃ (armed : Bool) (v : State),
    s.startNumber code = v.takeSymbol ∧ v.number =
      { s.number.blank with phase := .collecting, fifo := [code], lowArmed := armed, keptExpiry := false,
                            interDigitTimer := some (s.now + 1000 * s.setup.settings.interDigitTimeout) } := by
  obtain ⟨st₁, h₁⟩ := State.setNumberPhase_form s .collecting
  obtain ⟨armed, st₂, h₂⟩ := State.setFifo_form ((s.setNumberPhase .collecting).updNumber NumberState.blank)
    (((s.setNumberPhase .collecting).updNumber NumberState.blank).number.fifo ++ [code])
  refine ⟨armed, _, rfl, ?_⟩
  rw [State.appendSymbol, h₂, h₁]
  simp only [State.startInterDigit, State.updNumber, NumberState.blank, hfifo]
  rfl

/-- A new number of one digit, or of none yet while a discarded match still runs (R29). -/
theorem State.startNumber_effect {s : State} (code : Nat) (hfifo : s.number.fifo = []) :
    let t := s.startNumber code
    t.number.phase = .collecting ∧ t.number.digits = (if s.number.matchInFlight then [] else [code]) ∧
      t.number.fifo = [code] ∧ t.number.cause = none ∧ t.number.keptExpiry = false ∧
      t.number.interDigitTimer = some (s.now + 1000 * s.setup.settings.interDigitTimeout) ∧
      t.number.reads = s.number.reads ++
        (if s.number.matchInFlight then [] else [⟨.prefixMatch [code], [], false⟩]) := by
  obtain ⟨armed, v, hstart, hv⟩ := State.startNumber_record code hfifo
  have hreads : v.number.matchInFlight = s.number.matchInFlight := by rw [hv]; rfl
  by_cases hmatch : s.number.matchInFlight = true
  · have htake : v.takeSymbol = v := State.takeSymbol_of_match (hreads.trans hmatch)
    simp only [hstart, hmatch, if_true, List.append_nil]
    rw [htake, hv]
    exact ⟨rfl, rfl, rfl, rfl, rfl, rfl, rfl⟩
  · have hfree : s.number.matchInFlight = false := eq_false_of_ne_true hmatch
    have htake := State.takeSymbol_of_free (s := v) (d := code) (by rw [hv]) (by rw [hv]; rfl) (hreads.trans hfree)
      (by rw [hv]; rfl)
    have hnumber : v.takeSymbol.number = { v.number with
        digits := v.number.digits ++ [code], reads := v.number.reads ++ [⟨.prefixMatch (v.number.digits ++ [code]), [], false⟩] } := by
      rw [htake]
      rfl
    simp only [hstart, hfree, Bool.false_eq_true, if_false]
    rw [hnumber, hv]
    exact ⟨rfl, rfl, rfl, rfl, rfl, rfl, rfl⟩

/-- A new number is a change of state, which sets NUMBER (R28). -/
theorem State.startNumber_flag {s : State} (code : Nat) (h : s.number.phase ≠ .collecting) :
    EventFlag.number.isIn (s.startNumber code).status.flags = true := by
  have hfifo := (State.flagsStay_self ((s.setNumberPhase .collecting).updNumber NumberState.blank)).setFifo
    (((s.setNumberPhase .collecting).updNumber NumberState.blank).number.fifo ++ [code]) .number (by decide)
    (State.setNumberPhase_flag h)
  simp only [State.startNumber, State.takeSymbol_frame]
  exact hfifo

/-- A symbol that joins a number before its completion decision (R29, R32). -/
theorem State.joinNumber_record (s : State) (code : Nat) : ∃ armed, 
    ((s.appendSymbol code).startInterDigit).number =
      { s.number with fifo := s.number.fifo ++ [code], lowArmed := armed, keptExpiry := false,
                      interDigitTimer := some (s.now + 1000 * s.setup.settings.interDigitTimeout) } := by
  obtain ⟨armed, st, h⟩ := State.setFifo_form s (s.number.fifo ++ [code])
  refine ⟨armed, ?_⟩
  rw [State.appendSymbol, h]
  rfl

end Sys2Proof.Machine

open Sys2Proof Sys2Proof.Machine

/-- A dropped posting (R27): the first of the four cases of O33. -/
theorem State.dialPost_dropped {s : State} {code : Nat} (hdrop : s.dropsPosting code = true) :
    let a := (s.postSymbol code).emitNext
    let free := s.emitter.item = none ∧ s.line.owner = some .customer
    EventFlag.dialRefused.isIn a.status.flags = true ∧
      a.number = { s.number with fifo := a.number.fifo, lowArmed := a.number.lowArmed } ∧
      (¬ free → a.number = s.number) ∧
      (free → a.number.fifo = s.number.fifo ∨ a.number.fifo = s.number.fifo.tail) ∧
      (s.emitter.item ≠ none ∨ s.line.owner = none →
        a = { s with status := { s.status with flags := s.status.flags ||| EventFlag.dialRefused.only } }) := by
  simp only [State.postSymbol_of_drop hdrop]
  let u := s.raise .dialRefused
  exact ⟨(State.flagsStay_self u).emitNext .dialRefused (by decide) (State.raise_self _ _), u.emitNext_number,
    fun h => State.emitNext_number_of_not_free (s := u) h, fun _ => u.emitNext_fifo,
    fun h => (State.emitNext_of_nothing (s := u) h).trans rfl⟩

/-- Settles O33: what a posting leaves, by whether it is dropped and by the number's state, and the rules of DIAL_LOW. -/
theorem dialPost : Obligations.DialPost := by
  refine ⟨fun access value s hfree => ?_, fun s q => ?_⟩
  · intro v addr a code drops
    have hcode : (lowByte v).toNat = code := lowByte_toNat v
    have ha : a = (s.postSymbol code).emitNext := congrArg (fun c => (s.postSymbol c).emitNext) hcode
    have hdrops : s.dropsPosting code = true ↔ drops := s.dropsPosting_iff code
    have hkeeps (h : ¬ drops) : s.dropsPosting code = false := eq_false_of_ne_true fun h' => h (hdrops.1 h')
    refine ⟨?_, ?_, ?_, ?_, ?_, ?_, ?_, fun h => ?_, fun h hphase hfifo => ?_, fun h hphase hdecided _ => ?_,
      fun h hcall => ⟨fun hbusy => ?_, fun hfree hline hphase hfifo hpips => ?_⟩⟩
    · have hexec : exec (.dialPost access value) s = .next (s.takeSpecial .dialPost v) :=
        congrArg Host.Outcome.next (State.hostAccess_of_free hfree _ _)
      exact ⟨_, hexec, State.takeSpecial_writes (w := .dialPost) (v := v) rfl⟩
    · simp [ha]
    · simp [ha]
    · simp [ha]
    · simp [ha]
    · simp [ha]
    · simp [a]
    · rw [ha]
      exact State.dialPost_dropped (hdrops.2 h)
    · have hpost := State.postSymbol_of_start (hkeeps h) hphase
      obtain ⟨h1, h2, h3, h4, h5, h6, h7⟩ := State.startNumber_effect code hfifo
      have hnumber : a.number = (s.startNumber code).number := by
        rw [ha, hpost]
        exact State.emitNext_number_of_collecting h1
      have hflag : EventFlag.number.isIn a.status.flags = true := by
        rw [ha, hpost]
        refine (State.flagsStay_self (s.startNumber code)).emitNext .number (by decide) (State.startNumber_flag code ?_)
        rcases hphase with hp | hp <;> simp [hp]
      rw [hnumber]
      exact ⟨h1, h2, h3, h4, h5, h6, hflag, h7⟩
    · have hpost := State.postSymbol_of_collecting (hkeeps h) hphase hdecided
      let u := (s.appendSymbol code).startInterDigit
      obtain ⟨armed, hu⟩ := s.joinNumber_record code
      have htaken := u.takeSymbol_number
      have hnumber : a.number = u.takeSymbol.number := by
        rw [ha, hpost]
        refine State.emitNext_number_of_collecting ?_
        rw [htaken, hu]
        exact hphase
      have hpath : a.path = u.takeSymbol.path := by
        rw [ha, hpost]
        simp [u]
      rw [hnumber, hpath]
      refine ⟨?_, ?_, ?_, ?_, ?_, fun hmatch => ?_, fun d hmatch hd => ?_⟩
      · rw [htaken]
        exact (congrArg NumberState.phase hu).trans hphase
      · rw [htaken]
        exact (congrArg NumberState.decided hu).trans hdecided
      · rw [htaken]
        exact congrArg NumberState.fifo hu
      · rw [htaken]
        exact congrArg NumberState.interDigitTimer hu
      · rw [htaken]
        exact congrArg NumberState.keptExpiry hu
      · rw [State.takeSymbol_of_match (s := u) (by rw [hu]; exact hmatch), hu]
        exact ⟨rfl, rfl⟩
      · have htake := State.takeSymbol_of_free (s := u) (d := d) (by rw [hu]; exact hphase)
          (by rw [hu]; exact hdecided) (by rw [hu]; exact hmatch) (by rw [hu]; exact hd)
        rw [htake]
        refine ⟨?_, ?_, State.join_mem _ _⟩
        · exact (congrArg (fun n : NumberState => n.digits ++ [d]) hu :)
        · exact (congrArg (fun n : NumberState => n.reads ++ [⟨.prefixMatch (n.digits ++ [d]), [], false⟩]) hu :)
    · have hpost := State.postSymbol_of_inCall (hkeeps h) hcall
      obtain ⟨armed, st, happend⟩ := State.setFifo_form s (s.number.fifo ++ [code])
      have hnumber : a.number = (s.appendSymbol code).number := by
        rw [ha, hpost]
        exact State.emitNext_number_of_not_free (by simpa [State.appendSymbol] using hbusy)
      rw [hnumber, State.appendSymbol, happend]
    · have hpost := State.postSymbol_of_inCall (hkeeps h) hcall
      obtain ⟨armed, st, happend⟩ := State.setFifo_form s (s.number.fifo ++ [code])
      have hnext : (s.appendSymbol code).emitNext = (s.appendSymbol code).shiftFifo.beginTone code .inCallSymbol := by
        rw [State.appendSymbol, happend]
        simp [State.emitNext, State.nextCustomerItem, hfree, hline, hphase, hfifo, hpips]
      obtain ⟨armed', st', hshift⟩ := State.setFifo_form (s.appendSymbol code) (s.appendSymbol code).number.fifo.tail
      rw [ha, hpost, hnext, State.shiftFifo, hshift, State.appendSymbol, happend]
      simp [State.beginTone, State.beginItem, State.updEmitter, State.later, hfifo]
  · exact ⟨State.setFifo_fifo _ _, by simp, by simp, (s.setFifo_dialLow q).1, (s.setFifo_dialLow q).2.1,
      (s.setFifo_dialLow q).2.2.1, (s.setFifo_dialLow q).2.2.2, fun f hf => s.setFifo_otherFlag q hf⟩
end

section
/-! Changes of the field inputs (chapters 1, 3 and 6). -/

namespace Sys2Proof.Machine

/-! ### The tamper switches -/

@[simp] theorem TamperState.get_put_same (t : TamperState) (i : TamperInput) (w : TamperSwitch) :
    (t.put i w).get i = w := by
  cases i <;> rfl

theorem TamperState.get_put_other (t : TamperState) {i j : TamperInput} (w : TamperSwitch) (h : j ≠ i) :
    (t.put i w).get j = t.get j := by
  cases i <;> cases j <;> simp_all [TamperState.put, TamperState.get]

@[simp] theorem TamperState.put_firstSet (t : TamperState) (i : TamperInput) (w : TamperSwitch) :
    (t.put i w).firstSet = t.firstSet := by
  cases i <;> rfl

@[simp] theorem TamperState.put_sessionOpen (t : TamperState) (i : TamperInput) (w : TamperSwitch) :
    (t.put i w).sessionOpen = t.sessionOpen := by
  cases i <;> rfl

@[simp] theorem TamperLevels.get_set_same (t : TamperLevels) (i : TamperInput) (v : Bool) : (t.set i v).get i = v := by
  cases i <;> rfl

/-- A debounced level that stands is kept as the raw level changes (R105). -/
theorem Debounce.later_rawChange {d : Debounce} {l h : Bool} {now : Nat} (hlevel : d.level = some l) (expiry : Timer) :
    (d.keepFirst (!h) now).rawChange h expiry = ⟨some l, if l = h then none else expiry⟩ := by
  simp [Debounce.keepFirst, Debounce.rawChange, hlevel]

/-- A first level that has held its time is taken before the raw level changes again (R105). -/
theorem Debounce.first_rawChange {d : Debounce} {h : Bool} {now : Nat} (hlevel : d.level = none) (expiry : Timer) :
    (d.keepFirst (!h) now).rawChange h expiry =
      ⟨match d.timer with
        | some m => if m ≤ now then some (!h) else none
        | none => none, expiry⟩ := by
  simp only [Debounce.keepFirst, if_pos hlevel, Debounce.atMoment]
  cases htimer : d.timer with
  | none => simp [Debounce.rawChange, hlevel]
  | some m =>
    by_cases hm : m ≤ now
    · simp [Debounce.rawChange, hm]
    · simp [Debounce.rawChange, hm, hlevel]

/-- A change of the monitor that is none of a switch leaves every switch. -/
theorem TamperState.get_of_switches {t u : TamperState} (hdoor : u.door = t.door) (hhousing : u.housing = t.housing)
    (hvault : u.vault = t.vault) (hcord : u.cord = t.cord) (hshock : u.shock = t.shock) (hkey : u.key = t.key) :
    u.get = t.get := by
  funext j
  cases j
  case door => exact hdoor
  case housing => exact hhousing
  case vault => exact hvault
  case cord => exact hcord
  case shock => exact hshock
  case key => exact hkey

/-- What the opening of a session leaves of the tamper monitor (R138). -/
theorem State.openSession_tamper (s : State) :
    s.openSession.tamper = { s.tamper with sessionOpen := true, vaultOut := !s.tamper.vault.active } := by
  simp [State.openSession, State.updTamper]

@[simp] theorem State.standingConditions_tamper (s : State) : s.standingConditions.tamper = s.tamper := by
  simp only [State.standingConditions]
  (repeat' split) <;> simp

/-- What the closing of a session leaves of the tamper monitor (R140). -/
theorem State.closeSession_tamper (s : State) :
    s.closeSession.tamper = { s.tamper with sessionOpen := false, vaultOut := false } := by
  simp only [State.closeSession]
  split <;> simp [State.updTamper]

theorem State.vaultEdge_get (s : State) (active : Bool) : (s.vaultEdge active).tamper.get = s.tamper.get := by
  simp only [State.vaultEdge]
  (repeat' split)
  · simp
    exact TamperState.get_of_switches rfl rfl rfl rfl rfl rfl
  · rfl
  · exact TamperState.get_of_switches rfl rfl rfl rfl rfl rfl
  · rfl
  · simp

theorem State.shockEdge_get (s : State) : s.shockEdge.tamper.get = s.tamper.get := by
  simp only [State.shockEdge]
  split
  · simp
    exact TamperState.get_of_switches rfl rfl rfl rfl rfl rfl
  · exact TamperState.get_of_switches rfl rfl rfl rfl rfl rfl

/-- The detections that act on an edge leave every level and status. -/
theorem State.actOnEdge_get (s : State) (i : TamperInput) (active : Bool) :
    (s.actOnEdge i active).tamper.get = s.tamper.get := by
  cases i
  case door =>
    simp only [State.actOnEdge]
    split <;> simp
  case housing =>
    simp only [State.actOnEdge]
    split <;> simp
  case vault => exact s.vaultEdge_get active
  case cord => exact TamperState.get_of_switches rfl rfl rfl rfl rfl rfl
  case shock =>
    simp only [State.actOnEdge]
    split
    · exact s.shockEdge_get
    · rfl
  case key =>
    simp only [State.actOnEdge]
    split
    · split
      · rfl
      · rw [State.openSession_tamper]
        exact TamperState.get_of_switches rfl rfl rfl rfl rfl rfl
    · split
      · rw [State.closeSession_tamper]
        exact TamperState.get_of_switches rfl rfl rfl rfl rfl rfl
      · rfl

/-- The input with the level it has settled at, and the status of that level (R105). -/
theorem State.settleLevel_get {s : State} (i : TamperInput) (hfirst : s.tamper.firstSet = true) :
    (s.settleLevel i).tamper.get i =
      ⟨⟨some (s.pins.tamper.get i), none⟩, s.setup.settings.activeLevels.get i == s.pins.tamper.get i⟩ := by
  let u := s.updSwitch i fun w => { w with debounce := ⟨some (s.pins.tamper.get i), none⟩ }
  have hu : u.tamper.get i = { s.tamper.get i with debounce := ⟨some (s.pins.tamper.get i), none⟩ } :=
    TamperState.get_put_same _ _ _
  have hset : u.tamper.firstSet = true := by
    rw [← hfirst]
    cases i <;> rfl
  have hlevel : (u.tamper.get i).debounce.level = some (s.pins.tamper.get i) := by rw [hu]
  have hstatus : u.setup.settings.statusOf i (s.pins.tamper.get i) =
      (s.setup.settings.activeLevels.get i == s.pins.tamper.get i) := rfl
  change (u.followLevel i).tamper.get i = _
  simp only [State.followLevel, hlevel, hset, Bool.true_and]
  by_cases h : u.setup.settings.statusOf i (s.pins.tamper.get i) = (u.tamper.get i).active
  · rw [if_neg (by simp [h]), hu, ← hstatus, h, hu]
  · rw [if_pos (by simpa using h), State.actOnEdge_get, ← hstatus]
    refine (TamperState.get_put_same _ _ _).trans ?_
    rw [hu]

end Sys2Proof.Machine

open Sys2Proof Sys2Proof.Machine

/-- Settles O39: each input with its pin, and the count or timer that the change of level concerns. -/
theorem inputChanges : Obligations.InputChanges := by
  intro s hlive
  have hpins (p : Pins) : State.isHeld { s with pins := p } = false := hlive
  have hdebounces (p : Pins) : State.debounces { s with pins := p } = s.restored := by
    rw [State.debounces, hpins]
    rfl
  let u (i : TamperInput) (h : Bool) : State :=
    (s.updPins fun p => { p with tamper := p.tamper.set i h }).tamperChanges i h
  have hu (i : TamperInput) (h : Bool) {d : Debounce} (hd : ((s.tamper.get i).debounce.keepFirst (!h) s.now).rawChange h
      (some (s.now + s.setup.settings.tamperDebounce)) = d) : u i h =
      { s with pins := { s.pins with tamper := s.pins.tamper.set i h }
               tamper := s.tamper.put i { s.tamper.get i with debounce := d } } := by
    subst hd
    rfl
  have hchange (i : TamperInput) (h : Bool) (hother : s.pins.tamper.get i ≠ h) (hrest : s.restored = true) :
      exec (.tamperRawChange i h) s = .next ((u i h).settleAtOnce i) :=
    congrArg Host.Outcome.next ((if_neg hother).trans (if_pos ((hdebounces _).trans hrest)))
  refine ⟨fun p => ?_, fun r => ?_, fun p => ?_, fun h => ?_, fun p => ?_, fun i h hsame => ?_, fun i h hother hrest => ?_,
    fun i h l hother hrest hlevel => ⟨fun hdeb => ?_, fun hdeb hfirst hne => ?_⟩,
    fun i h hother hrest hfirst hlevel => ?_⟩
  · refine congrArg Host.Outcome.next ?_
    by_cases hs : s.pins.tonePresent = p
    · rw [if_pos hs, if_pos hs]
    · rw [if_neg hs, if_neg hs]
      exact State.whenLive_of_live (hpins _)
  · refine congrArg Host.Outcome.next ?_
    by_cases hs : s.pins.reversed = r
    · rw [if_pos hs, if_pos hs]
    · rw [if_neg hs, if_neg hs]
      exact State.whenLive_of_live (hpins _)
  · refine congrArg Host.Outcome.next ?_
    by_cases hs : s.pins.loopCurrent = p
    · rw [if_pos hs, if_pos hs]
    · rw [if_neg hs, if_neg hs]
      refine (State.whenLive_of_live (hpins _)).trans ?_
      by_cases hconnected : s.line.owner = some .customer ∧ s.line.phase = .connected
      · rw [if_pos hconnected]
        refine (if_pos ?_).trans rfl
        simpa [State.customerConnected, State.updPins] using hconnected
      · rw [if_neg hconnected]
        refine (if_neg ?_).trans rfl
        simpa [State.customerConnected, State.updPins] using hconnected
  · refine congrArg Host.Outcome.next ?_
    by_cases hs : s.pins.onHook = h
    · rw [if_pos hs, if_pos hs]
    · rw [if_neg hs, if_neg hs]
      by_cases hrest : s.restored = true
      · rw [if_pos hrest]
        exact if_pos ((hdebounces _).trans hrest)
      · rw [if_neg hrest]
        exact if_neg fun hd => hrest ((hdebounces _).symm.trans hd)
  · refine congrArg Host.Outcome.next ?_
    by_cases hs : s.pins.linePresent = p
    · rw [if_pos hs, if_pos hs]
    · rw [if_neg hs, if_neg hs]
      exact State.whenLive_of_live (hpins _)
  · exact congrArg Host.Outcome.next (if_pos hsame)
  · refine congrArg Host.Outcome.next ((if_neg hother).trans (if_neg ?_))
    exact fun hd => Bool.false_ne_true (hrest.symm.trans ((hdebounces _).symm.trans hd))
  · rw [hchange i h hother hrest, hu i h (Debounce.later_rawChange hlevel _)]
    exact congrArg Host.Outcome.next (if_neg (by simp [Nat.pos_iff_ne_zero.1 hdeb]))
  · have hraw := hu i h (Debounce.later_rawChange hlevel _)
    rw [if_neg hne] at hraw
    have hexec : exec (.tamperRawChange i h) s = .next ((u i h).settleLevel i) := by
      rw [hchange i h hother hrest]
      refine congrArg Host.Outcome.next (if_pos ?_)
      simp [hraw, hdeb, hfirst]
    have hswitch := State.settleLevel_get (s := u i h) i (by simp [hraw, hfirst])
    have hpin : (u i h).pins.tamper.get i = h := TamperLevels.get_set_same _ _ _
    rw [hpin] at hswitch
    refine ⟨_, hexec, ?_, ?_, ?_, ?_⟩
    · rw [hswitch]
    · rw [hswitch]
      rfl
    · exact (State.settleLevel_frame _ _).2.1
    · simp [hraw]
  · rw [hchange i h hother hrest, hu i h (Debounce.first_rawChange hlevel _)]
    exact congrArg Host.Outcome.next (if_neg (by simp [hfirst]))
end

section
/-! The grant order, the guard and the grant (R46 to R50). -/

namespace Sys2Proof.Machine

/-- A kind of class URGENT stands in the report queue. -/
theorem State.urgentQueued_iff (s : State) :
    s.urgentQueued = true ↔ ∃ k ∈ s.alarms.queue, k.isIn s.setup.settings.urgentKinds = true := by
  simp [State.urgentQueued]

/-! ### The grant order (R48) -/

theorem State.nextGrant_of_emergency {s : State} (h : s.line.customerRequest = some .emergency) :
    s.nextGrant = some .customer := by
  cases hr : s.line.reportRequest <;> simp [State.nextGrant, h, hr]

theorem State.nextGrant_of_paidFree_alone {s : State} (h : s.line.customerRequest = some .paidFree)
    (hr : s.line.reportRequest = none) : s.nextGrant = some .customer := by
  simp [State.nextGrant, h, hr]

theorem State.nextGrant_of_report_alone {s : State} {t : Nat} (h : s.line.customerRequest = none)
    (hr : s.line.reportRequest = some t) : s.nextGrant = some .report := by
  simp [State.nextGrant, h, hr]

theorem State.nextGrant_of_none {s : State} (h : s.line.customerRequest = none) (hr : s.line.reportRequest = none) :
    s.nextGrant = none := by
  simp [State.nextGrant, h, hr]

/-- Beside a PAID_FREE request the report request stands first when a kind is URGENT or it has waited 30 minutes. -/
theorem State.nextGrant_of_both {s : State} {t : Nat} (h : s.line.customerRequest = some .paidFree)
    (hr : s.line.reportRequest = some t) : s.nextGrant =
      if (∃ k ∈ s.alarms.queue, k.isIn s.setup.settings.urgentKinds = true) ∨ 1800000 ≤ s.now - t then some .report
      else some .customer := by
  simp only [State.nextGrant, h, hr, Bool.or_eq_true, State.urgentQueued_iff, decide_eq_true_iff]
  rfl

/-! ### The grant to the customer (R36, R48, R145) -/

theorem State.grantCustomer_of_kind {s : State} {k : ZoneKind} (hk : s.number.kind = some k) :
    s.grantCustomer = (((s.takeLine .customer).raise .call).tallyGrant k).openMirror k := by
  simp only [State.grantCustomer, State.raise_frame, State.takeLine_frame, hk]

theorem State.grantCustomer_line (s : State) : s.grantCustomer.line = (s.takeLine .customer).line := by
  simp only [State.grantCustomer]
  split <;> simp

/-- The grant sets CALL, opens the mirror of the call, and raises the tally of the number's kind. -/
theorem State.grantCustomer_effect (s : State) :
    EventFlag.call.isIn s.grantCustomer.status.flags = true ∧
      (∀ k, s.number.kind = some k →
        s.grantCustomer.cash.openCall = some ⟨k, s.number.zone, some s.calendar, 0, s.callStatus⟩) ∧
      (s.number.kind = some .paid → s.tallyRises s.grantCustomer .paidSeized) ∧
      (s.number.kind = some .free → s.tallyRises s.grantCustomer .free) ∧
      (s.number.kind = some .emergency → s.tallyRises s.grantCustomer .emergency) := by
  let u := (s.takeLine .customer).raise .call
  have hmirror (k : ZoneKind) (name : TallyName) :
      ((u.tallyGrant k).openMirror k).pendingTally name = (u.tallyGrant k).pendingTally name := by
    refine State.pendingTally_congr ?_ name
    exact State.cashChanged_tallies _
  have hbefore (name : TallyName) : u.pendingTally name = s.pendingTally name := rfl
  refine ⟨?_, fun k hk => ?_, fun hk => ?_, fun hk => ?_, fun hk => ?_⟩
  · have hflag : EventFlag.call.isIn u.status.flags = true := State.raise_self _ _
    simp only [State.grantCustomer]
    split
    · simpa using hflag
    · exact hflag
  · rw [State.grantCustomer_of_kind hk]
    simp only [State.openMirror, State.cashChanged_items, State.updCash_cash, State.tallyGrant_frame, State.raise_frame,
      State.takeLine_frame]
    simp [State.callStatus, State.calendar_congr (t := (((s.takeLine .customer).raise .call).tallyGrant k)) (s := s)]
  all_goals
    rw [State.grantCustomer_of_kind hk, State.tallyRises, hmirror, ← hbefore]
    exact State.tally_rises u _

theorem State.grantWaiting_customer {s : State} (h : s.line.phase = .idle) (hg : s.nextGrant = some .customer) :
    s.grantWaiting = s.grantCustomer := by
  simp only [State.grantWaiting, if_pos h, hg]

theorem State.grantWaiting_report {s : State} (h : s.line.phase = .idle) (hg : s.nextGrant = some .report) :
    s.grantWaiting = s.takeLine .report := by
  simp only [State.grantWaiting, if_pos h, hg]

theorem State.grantWaiting_none {s : State} (hg : s.nextGrant = none) : s.grantWaiting = s := by
  simp only [State.grantWaiting, hg, ite_self]

theorem State.guardEnds_of_owner {s : State} (h : s.line.owner ≠ none) : s.guardEnds = s.enterSeizing := by
  obtain ⟨o, ho⟩ := Option.ne_none_iff_exists'.1 h
  simp only [State.guardEnds, ho]

theorem State.guardEnds_of_no_owner {s : State} (h : s.line.owner = none) :
    s.guardEnds = (s.updLine fun l => { l with phase := .idle, guardTimer := none }).grantWaiting := by
  simp only [State.guardEnds, h]

end Sys2Proof.Machine

open Sys2Proof Sys2Proof.Machine

/-- Settles O40: the grant order case by case, and the guard's end by it. -/
theorem guardEndsAndGrants : Obligations.GuardEndsAndGrants := by
  refine ⟨fun s => ⟨State.nextGrant_of_emergency, fun t h hr => ?_, State.nextGrant_of_paidFree_alone,
    fun t => State.nextGrant_of_report_alone, State.nextGrant_of_none⟩, fun s m hlive hrun => ?_⟩
  · rw [State.nextGrant_of_both h hr]
    split
    · next hfirst => exact ⟨iff_of_true rfl hfirst, .inl rfl⟩
    · next hfirst => exact ⟨iff_of_false (by decide) hfirst, .inr rfl⟩
  · intro n seized
    have hexec : exec .guardExpiry s = .next (s.reach m).guardEnds := by
      refine congrArg Host.Outcome.next ?_
      rw [State.whenLive_of_live hlive, State.onExpiry_of_running hrun]
    let u := (s.reach m).updLine fun l => { l with phase := .idle, guardTimer := none }
    rw [hexec]
    refine ⟨fun ho => ?_, fun ho hc hr => ?_, fun r ho hr hfirst => ?_, fun ho hfirst => ?_⟩
    · rw [State.guardEnds_of_owner (s := s.reach m) ho]
      rfl
    · rw [State.guardEnds_of_no_owner (s := s.reach m) ho, 
        State.grantWaiting_none (State.nextGrant_of_none (s := u) hc hr)]
      rfl
    · have hgrant : u.nextGrant = some .report := by
        rcases hfirst with hc | ⟨hc, hfirst⟩
        · exact State.nextGrant_of_report_alone (s := u) hc hr
        · exact (State.nextGrant_of_both (s := u) hc hr).trans (if_pos hfirst)
      rw [State.guardEnds_of_no_owner (s := s.reach m) ho, State.grantWaiting_report (s := u) rfl hgrant]
      rfl
    · have hgrant : u.nextGrant = some .customer := by
        rcases hfirst with hc | ⟨hc, hnone | ⟨hurgent, hwait⟩⟩
        · exact State.nextGrant_of_emergency (s := u) hc
        · exact State.nextGrant_of_paidFree_alone (s := u) hc hnone
        · cases hr : s.line.reportRequest with
          | none => exact State.nextGrant_of_paidFree_alone (s := u) hc hr
          | some r =>
            rw [hr] at hwait
            refine (State.nextGrant_of_both (s := u) hc hr).trans (if_neg ?_)
            rintro (h | h)
            · exact hurgent h
            · exact absurd h (Nat.not_le.2 hwait)
      rw [State.guardEnds_of_no_owner (s := s.reach m) ho, State.grantWaiting_customer (s := u) rfl hgrant]
      obtain ⟨hcall, hopen, hpaid, hfree, hemergency⟩ := u.grantCustomer_effect
      refine ⟨_, rfl, ?_, hcall, hopen, hpaid, hfree, hemergency, ?_, ?_, ?_, ?_, ?_⟩
      · rw [State.grantCustomer_line]
        rfl
      all_goals simp [u] <;> rfl
end

section
/-! What the close of a call leaves (R46, R58, R90, R92, R133). -/

namespace Sys2Proof.Machine

/-! ### A line that is not IDLE: no request is granted -/

/-- The line but for the report caller's waiting request. -/
def LineState.busy (l : LineState) : LineState := { l with reportRequest := none }

theorem LineState.busy_fields {l k : LineState} (h : k.busy = l.busy) :
    k.phase = l.phase ∧ k.owner = l.owner ∧ k.attempt = l.attempt ∧ k.guardTimer = l.guardTimer ∧
      k.dialToneTimer = l.dialToneTimer ∧ k.answerWaitTimer = l.answerWaitTimer ∧
      k.timedAnswerTimer = l.timedAnswerTimer ∧ k.clearTimer = l.clearTimer ∧
      k.customerRequest = l.customerRequest ∧ k.status = l.status ∧ k.qualifyTimer = l.qualifyTimer :=
  ⟨(congrArg LineState.phase h :), (congrArg LineState.owner h :), (congrArg LineState.attempt h :),
    (congrArg LineState.guardTimer h :), (congrArg LineState.dialToneTimer h :),
    (congrArg LineState.answerWaitTimer h :), (congrArg LineState.timedAnswerTimer h :),
    (congrArg LineState.clearTimer h :), (congrArg LineState.customerRequest h :), (congrArg LineState.status h :),
    (congrArg LineState.qualifyTimer h :)⟩

/-- A line that is not IDLE grants nothing (R47). -/
theorem State.grantWaiting_of_busy {s : State} (h : s.line.phase ≠ .idle) : s.grantWaiting = s := if_neg h

/-- There a report request is placed and waits. -/
theorem State.placeReport_of_busy {s : State} (h : s.line.phase ≠ .idle) (runTime : Nat) :
    s.placeReport runTime = s.updLine fun l => { l with reportRequest := some runTime } :=
  State.grantWaiting_of_busy (s := s.updLine fun l => { l with reportRequest := some runTime }) h

/-- What an event leaves in the parts that a grant would change, on a line that is not IDLE: the line but for the
report caller's request, the emitter, and the open-call mirror. -/
def State.noGrant (s t : State) : Prop :=
  t.line.busy = s.line.busy ∧ t.emitter = s.emitter ∧ t.cash.openCall = s.cash.openCall

theorem State.noGrant.trans {s t u : State} (h : s.noGrant t) (h' : t.noGrant u) : s.noGrant u :=
  ⟨h'.1.trans h.1, h'.2.1.trans h.2.1, h'.2.2.trans h.2.2⟩

theorem State.noGrant_beginRun {s : State} (h : s.line.phase ≠ .idle) : s.noGrant s.beginRun := by
  rw [State.beginRun, State.placeReport_of_busy (by exact h)]
  exact ⟨rfl, rfl, rfl⟩

theorem State.noGrant_checkQueue {s : State} (h : s.line.phase ≠ .idle) : s.noGrant s.checkQueue := by
  simp only [State.checkQueue]
  split
  · exact State.noGrant_beginRun h
  · exact ⟨rfl, rfl, rfl⟩

theorem State.noGrant_noticeNewKind {s : State} (h : s.line.phase ≠ .idle) : s.noGrant s.noticeNewKind := by
  simp only [State.noticeNewKind]
  split
  · exact State.noGrant_checkQueue h
  · exact State.noGrant_beginRun h
  · exact State.noGrant_beginRun h
  · exact ⟨rfl, rfl, rfl⟩

theorem State.noGrant_occurrence {s : State} (h : s.line.phase ≠ .idle) (k : AlarmKind) :
    s.noGrant (s.occurrence k) := by
  let u := ((s.updAlarms fun a => a.occur k (k.isIn s.setup.settings.reportEnables) s.calendar).raise
    .alarm).cashChanged
  have hu : s.noGrant u := ⟨by simp [u], by simp [u], by simp [u]⟩
  simp only [State.occurrence]
  split
  · exact hu.trans (State.noGrant_noticeNewKind (by simpa [u] using h))
  · exact hu

theorem State.noGrant_trapCheck {s : State} (h : s.line.phase ≠ .idle) (f : RatingFlags) :
    s.noGrant (s.trapCheck f) := by
  have hupd (t : State) : t.noGrant (t.updCash fun c => { c with summary := c.summary ||| f }).cashChanged :=
    ⟨by simp, by simp, by simp⟩
  simp only [State.trapCheck]
  by_cases hfresh : f &&& s.setup.settings.trapMask &&& ~~~ s.cash.summary = 0#8
  · simp only [if_pos hfresh]
    split
    · exact ⟨rfl, rfl, rfl⟩
    · exact hupd _
  · simp only [if_neg hfresh]
    split
    · exact State.noGrant_occurrence h _
    · exact (State.noGrant_occurrence h _).trans (hupd _)

/-! ### The release (R46) -/

/-- The line as the release of a call leaves it: in GUARD it only loses its kept owner. -/
def LineState.released (l : LineState) (now : Nat) : LineState :=
  if l.phase = .guarded then l.disown else (l.guardFrom now).disown

theorem State.releaseLine_line {s : State} (h : s.line.phase ≠ .idle) : s.releaseLine.line = s.line.released s.now := by
  simp only [State.releaseLine, LineState.released]
  split
  · next hidle => exact absurd hidle h
  · next hguard => rw [if_pos hguard]; rfl
  · next hguard => rw [if_neg hguard]; rfl

/-- The release of a call that holds the line abandons the item in progress (R41). -/
theorem State.releaseLine_item {s : State} (h : s.line.phase ≠ .idle) (hguard : s.line.phase ≠ .guarded) :
    s.releaseLine.emitter.item = none ∧ s.releaseLine.emitter.timer = none := by
  simp only [State.releaseLine]
  exact ⟨rfl, rfl⟩

/-- The fields of a released line. -/
theorem LineState.released_fields (l : LineState) (now : Nat) :
    (l.released now).phase = .guarded ∧ (l.released now).owner = none ∧ (l.released now).attempt = none ∧
      (l.released now).status = l.status ∧ (l.released now).qualifyTimer = l.qualifyTimer ∧
      (l.phase = .guarded → (l.released now).guardTimer = l.guardTimer) ∧
      (l.phase ≠ .guarded → (l.released now).guardTimer = some (now + 800) ∧
        (l.released now).dialToneTimer = none ∧ (l.released now).answerWaitTimer = none ∧
        (l.released now).timedAnswerTimer = none ∧ (l.released now).clearTimer = none) := by
  by_cases h : l.phase = .guarded
  · rw [LineState.released, if_pos h]
    exact ⟨h, rfl, rfl, rfl, rfl, fun _ => rfl, fun hn => absurd h hn⟩
  · rw [LineState.released, if_neg h]
    exact ⟨rfl, rfl, rfl, rfl, rfl, fun hg => absurd hg h, fun _ => ⟨rfl, rfl, rfl, rfl, rfl⟩⟩

/-! ### The close of a customer call (R58, R90, R95) -/

/-- The mirror of a call is cleared (R145). -/
theorem State.clearMirror_openCall (s : State) : s.clearMirror.cash.openCall = none := by
  simp only [State.clearMirror]
  split
  · simp
  · next h => exact h

theorem State.clearMirror_summary (s : State) : s.clearMirror.cash.summary = s.cash.summary := by
  simp only [State.clearMirror]
  split <;> simp

/-- The number after a call: refused or ended, it has given up its request (R34, R39). -/
theorem State.numberAfterCall_line (s : State) (cause : EndCause) :
    (s.numberAfterCall cause).line = { s.line with customerRequest := none } := by
  cases cause
  case noDialTone =>
    obtain ⟨_, _, h⟩ := State.refuseNumber_form s .noDialTone
    exact congrArg State.line h
  all_goals exact s.endNumber_effect.2.2.2.2

/-- A call that does not end for want of a dial tone ends its number (R39, R58). -/
theorem State.numberAfterCall_of_end (s : State) {cause : EndCause} (h : cause ≠ .noDialTone) :
    s.numberAfterCall cause = s.endNumber := by
  cases cause
  case noDialTone => exact absurd rfl h
  all_goals rfl

/-- A customer call on a line that is not IDLE ends: the line goes through its guard without an owner or a customer
request, and the item in progress and the pips are given up. -/
theorem State.endCall_line {s : State} (h : s.line.phase ≠ .idle) (cause : EndCause) :
    (s.endCall cause).line.busy = LineState.busy { s.line.released s.now with customerRequest := none } ∧
      (s.endCall cause).emitter.pipsDue = 0 ∧
      (s.line.phase ≠ .guarded → (s.endCall cause).emitter.item = none) := by
  let u := s.releaseLine.endPips
  have hline : u.line = s.line.released s.now := by
    simpa [u] using State.releaseLine_line h
  have hbusy : u.line.phase ≠ .idle := by
    rw [hline, (s.line.released_fields s.now).1]
    decide
  obtain ⟨hcheck, hemitter, -⟩ := State.noGrant_trapCheck hbusy s.callStatus
  have hend : (s.endCall cause).line = { (u.trapCheck s.callStatus).line with customerRequest := none } := by
    simp only [State.endCall, State.raise_frame, State.numberAfterCall_line, State.offerRecord_frame,
      State.clearMirror_frame]
    rfl
  have hitem : (s.endCall cause).emitter = u.emitter := by
    simp [State.endCall, u]
  refine ⟨?_, ?_, fun hguard => ?_⟩
  · rw [hend, ← hline]
    exact congrArg (fun l : LineState => { l with customerRequest := none }) hcheck
  · rw [hitem]
    rfl
  · rw [hitem]
    exact (State.releaseLine_item h hguard).1

/-- The end of a customer call leaves in the cash image no open call, and the call's status in the summary; its record
is offered, and CALL is set. -/
theorem State.endCall_effect (s : State) (cause : EndCause) :
    (s.endCall cause).cash.openCall = none ∧
      (s.endCall cause).cash.summary = s.cash.summary ||| s.callStatus ∧
      (s.endCall cause).records = (s.offerRecord (s.customerRecord cause)).records ∧
      EventFlag.call.isIn (s.endCall cause).status.flags = true := by
  refine ⟨?_, ?_, ?_, State.endCall_callFlag s cause⟩
  · simp only [State.endCall, State.raise_frame, State.numberAfterCall_frame, State.offerRecord_frame,
      State.clearMirror_openCall]
  · simp only [State.endCall, State.raise_frame, State.numberAfterCall_frame, State.offerRecord_frame,
      State.clearMirror_summary, State.trapCheck_summary, State.endPips_frame, State.releaseLine_frame]
  · simp only [State.endCall, State.raise_frame, State.numberAfterCall_frame]
    exact State.offerRecord_records_congr _ (by simp)

/-- A call that does not end for want of a dial tone leaves an EMPTY number and no context (R39, R58). -/
theorem State.endCall_number (s : State) {cause : EndCause} (h : cause ≠ .noDialTone) :
    (s.endCall cause).number.phase = .empty ∧ (s.endCall cause).number.digits = [] ∧
      (s.endCall cause).number.fifo = [] ∧ (s.endCall cause).rating.context = none := by
  let u := (((s.releaseLine.endPips).trapCheck s.callStatus).clearMirror).offerRecord (s.customerRecord cause)
  have hend : s.endCall cause = u.endNumber.raise .call :=
    congrArg (fun t : State => t.raise .call) (u.numberAfterCall_of_end h)
  obtain ⟨hphase, hdigits, hfifo, hcontext, -⟩ := u.endNumber_effect
  rw [hend]
  exact ⟨hphase, hdigits, hfifo, hcontext⟩

/-- A call that ends for want of a dial tone leaves its number refused and no context (R50, R58). -/
theorem State.endCall_noDialTone (s : State) :
    (s.endCall .noDialTone).number.phase = .refused ∧ (s.endCall .noDialTone).number.cause = some .noDialTone ∧
      (s.endCall .noDialTone).rating.context = none := by
  let u := (((s.releaseLine.endPips).trapCheck s.callStatus).clearMirror).offerRecord (s.customerRecord .noDialTone)
  obtain ⟨hphase, hcause, -, -, -, hcontext⟩ := u.refuseNumber_fixes .noDialTone
  exact ⟨hphase, hcause, hcontext⟩

/-! ### The end of a report attempt (R133) -/

theorem State.failReporting_alarms (s : State) : s.failReporting.alarms = s.alarms.fail := by
  simp only [State.failReporting]
  split
  · next h => exact h.symm
  · simp

/-- The attempt closed with an outcome, before what the outcome itself does to the run: steps 1, 2 and 4 of R133. -/
def State.attemptClosed (s : State) (outcome : EndCause) (seize : CalTime) : State :=
  ((if outcome = .ok then s else s.failReporting).offerRecord
    ((if outcome = .ok then s else s.failReporting).reportRecord outcome seize)).clearAttempt

theorem State.closeAttempt_eq (s : State) (outcome : EndCause) (seize : CalTime) :
    s.closeAttempt outcome seize = (s.attemptClosed outcome seize).attemptOutcome outcome := rfl

/-- The report caller after an attempt: buffer, go time and timers cleared, the run as it was (R133). -/
def ReportState.cleared (r : ReportState) : ReportState :=
  { r with message := [], handed := 0, digitsHanded := 0, carriedKinds := 0#12, goTime := none, goTimer := none,
           ackTimer := none }

theorem State.attemptClosed_effect (s : State) (outcome : EndCause) (seize : CalTime) :
    (s.attemptClosed outcome seize).line = s.line ∧ (s.attemptClosed outcome seize).emitter = s.emitter ∧
      (s.attemptClosed outcome seize).now = s.now ∧
      (s.attemptClosed outcome seize).report = s.report.cleared ∧
      (s.attemptClosed outcome seize).alarms = (if outcome = .ok then s.alarms else s.alarms.fail) ∧
      (s.attemptClosed outcome seize).records = (s.offerRecord (s.reportRecord outcome seize)).records := by
  let u := if outcome = .ok then s else s.failReporting
  have hu : u.line = s.line ∧ u.emitter = s.emitter ∧ u.now = s.now ∧ u.report = s.report ∧ u.records = s.records ∧
      u.clock = s.clock ∧ u.setup = s.setup ∧ u.alarms = if outcome = .ok then s.alarms else s.alarms.fail := by
    by_cases h : outcome = .ok
    · simp [u, h]
    · simp [u, h, State.failReporting_alarms]
  obtain ⟨hline, hemitter, hnow, hreport, hrecords, hclock, hsetup, halarms⟩ := hu
  have hrecord : u.reportRecord outcome seize = s.reportRecord outcome seize := by
    simp only [State.reportRecord, hsetup, hreport, State.calendar_congr hclock]
  have hclosed : s.attemptClosed outcome seize = (u.offerRecord (s.reportRecord outcome seize)).clearAttempt := by
    rw [← hrecord]
    rfl
  rw [hclosed]
  refine ⟨by simpa [State.clearAttempt] using hline, by simpa [State.clearAttempt] using hemitter,
    by simpa [State.clearAttempt] using hnow, ?_, by simpa [State.clearAttempt] using halarms, ?_⟩
  · simp [State.clearAttempt, State.updReport, hreport, ReportState.cleared]
  · exact State.offerRecord_records_congr (s := u) (t := s) _ hrecords

/-- The outcome of an attempt leaves a line that is not IDLE but for the report caller's request, and the emitter. -/
theorem State.noGrant_attemptOutcome {s : State} (h : s.line.phase ≠ .idle) (outcome : EndCause) :
    s.noGrant (s.attemptOutcome outcome) := by
  have hresume : s.noGrant s.resumeRun := by
    rw [State.resumeRun, State.placeReport_of_busy (by exact h)]
    exact ⟨rfl, rfl, rfl⟩
  have hfailed : s.noGrant s.failedAttempt := by
    rw [State.failedAttempt, State.tally_eq]
    exact ⟨rfl, rfl, rfl⟩
  cases outcome
  case ok =>
    have hack : s.noGrant s.acknowledgedAttempt := by
      rw [State.acknowledgedAttempt, State.tally_eq, State.tally_eq]
      exact ⟨rfl, rfl, rfl⟩
    exact hack.trans (State.noGrant_checkQueue (by simpa using h))
  case preempted => exact hresume
  case restart => exact hresume
  all_goals exact hfailed

/-- The end of a report attempt on a line that is not IDLE: the line goes through its guard without an owner. -/
theorem State.endReport_line {s : State} (h : s.line.phase ≠ .idle) (outcome : EndCause) :
    (s.endReport outcome).line.busy = (s.line.released s.now).busy ∧
      (s.line.phase ≠ .guarded → (s.endReport outcome).emitter.item = none) := by
  let u := s.releaseLine.attemptClosed outcome (s.line.seizeTime.getD s.calendar)
  obtain ⟨hline, hemitter, -⟩ :=
    s.releaseLine.attemptClosed_effect outcome (s.line.seizeTime.getD s.calendar)
  have hu : u.line = s.line.released s.now := hline.trans (State.releaseLine_line h)
  have hbusy : u.line.phase ≠ .idle := by
    rw [hu, (s.line.released_fields s.now).1]
    decide
  obtain ⟨hend, hitem, -⟩ := State.noGrant_attemptOutcome hbusy outcome
  refine ⟨hend.trans (congrArg LineState.busy hu), fun hguard => ?_⟩
  have hgone : (s.endReport outcome).emitter = s.releaseLine.emitter := hitem.trans hemitter
  rw [hgone]
  exact (State.releaseLine_item h hguard).1

/-- What an attempt itself holds of the report caller: all but its place in the run. -/
def ReportState.attempt (r : ReportState) : ReportState :=
  { r with phase := .idle, attempts := 0, runTime := none, statusMark := false, retryTimer := none, holdTimer := none }

theorem State.checkQueue_attempt (s : State) : s.checkQueue.report.attempt = s.report.attempt := by
  simp only [State.checkQueue]
  split
  · simp only [State.beginRun, State.placeReport_frame]
    rfl
  · rfl

/-- The outcome of an attempt is a step of the run: it leaves what the attempt holds. -/
theorem State.attemptOutcome_attempt (s : State) (outcome : EndCause) :
    (s.attemptOutcome outcome).report.attempt = s.report.attempt := by
  have hresume : s.resumeRun.report.attempt = s.report.attempt := by
    simp only [State.resumeRun, State.placeReport_frame]
    rfl
  have hfailed : s.failedAttempt.report.attempt = s.report.attempt := by
    simp only [State.failedAttempt, State.tally_frame]
    by_cases h : s.report.attempts + 1 < Config.attemptLimit
    · simp only [State.updReport, if_pos h]
      rfl
    · simp only [State.updReport, if_neg h]
      rfl
  cases outcome
  case ok =>
    refine (State.checkQueue_attempt _).trans ?_
    simp only [State.acknowledgedAttempt, State.tally_frame]
    rfl
  case preempted => exact hresume
  case restart => exact hresume
  all_goals exact hfailed

/-- Whatever the outcome, the record of the attempt is offered and the message buffer, the go time and the timers of the
attempt are cleared (R96, R133). -/
theorem State.endReport_effect (s : State) (outcome : EndCause) :
    (s.endReport outcome).records =
        (s.offerRecord (s.reportRecord outcome (s.line.seizeTime.getD s.calendar))).records ∧
      (s.endReport outcome).alarms = (if outcome = .ok then s.alarms else s.alarms.fail) ∧
      (s.endReport outcome).report.message = [] ∧ (s.endReport outcome).report.goTime = none ∧
      (s.endReport outcome).report.goTimer = none ∧ (s.endReport outcome).report.ackTimer = none ∧
      EventFlag.report.isIn (s.endReport outcome).status.flags = true := by
  let seize := s.line.seizeTime.getD s.calendar
  let u := s.releaseLine.attemptClosed outcome seize
  obtain ⟨-, -, -, hreport, halarms, hrecords⟩ := s.releaseLine.attemptClosed_effect outcome seize
  have hattempt : (s.endReport outcome).report.attempt = s.report.cleared.attempt := by
    refine (u.attemptOutcome_attempt outcome).trans ?_
    rw [hreport]
    simp only [State.releaseLine_frame]
  have hrecord : s.releaseLine.reportRecord outcome seize = s.reportRecord outcome seize := by
    simp only [State.reportRecord, State.releaseLine_frame, State.calendar_congr (t := s.releaseLine) (s := s) (by simp)]
  refine ⟨?_, ?_, (congrArg ReportState.message hattempt :), (congrArg ReportState.goTime hattempt :),
    (congrArg ReportState.goTimer hattempt :), (congrArg ReportState.ackTimer hattempt :), State.endReport_reportFlag s outcome⟩
  · have hkeeps : (u.attemptOutcome outcome).records = u.records := by simp
    refine hkeeps.trans (hrecords.trans ?_)
    rw [hrecord]
    exact State.offerRecord_records_congr _ (by simp)
  · have hkeeps : (u.attemptOutcome outcome).alarms = u.alarms := by simp
    refine hkeeps.trans (halarms.trans ?_)
    simp

end Sys2Proof.Machine
end

section
/-! The ends of a customer call on the line (R54, R56, R58). -/

namespace Sys2Proof.Machine

/-- The trap check touches no money total, and no owed close (R92). -/
theorem State.trapCheck_totals (s : State) (f : RatingFlags) :
    (s.trapCheck f).cash.totals = s.cash.totals ∧ (s.trapCheck f).cash.closeOwed = s.cash.closeOwed := by
  have hoccurred : (s.occurrence .ratingAnomaly).cash.totals = s.cash.totals :=
    (CashState.kept_fields (s.occurrence_kept .ratingAnomaly)).1
  simp only [State.trapCheck]
  by_cases hfresh : f &&& s.setup.settings.trapMask &&& ~~~ s.cash.summary = 0#8
  · simp only [if_pos hfresh]
    split <;> simp
  · simp only [if_neg hfresh]
    split <;> simp [hoccurred]

/-- The end of a customer call touches no money total, and no owed close (R58). -/
theorem State.endCall_totals (s : State) (cause : EndCause) :
    (s.endCall cause).cash.totals = s.cash.totals ∧ (s.endCall cause).cash.closeOwed = s.cash.closeOwed := by
  let u := s.releaseLine.endPips.trapCheck s.callStatus
  have hcheck := s.releaseLine.endPips.trapCheck_totals s.callStatus
  have hmirror := CashState.kept_fields u.clearMirror_kept
  have hend : (s.endCall cause).cash = u.clearMirror.cash := by
    simp only [State.endCall, State.raise_frame, State.numberAfterCall_frame, State.offerRecord_frame]
    rfl
  rw [hend]
  refine ⟨hmirror.1.trans ?_, hmirror.2.2.2.2.2.2.1.trans ?_⟩
  · simpa using hcheck.1
  · simpa using hcheck.2

/-- The fields of the line after the end of a customer call on a line that is not IDLE. -/
theorem State.endCall_line_fields {s : State} (h : s.line.phase ≠ .idle) (cause : EndCause) :
    (s.endCall cause).line.phase = .guarded ∧ (s.endCall cause).line.owner = none ∧
      (s.endCall cause).line.attempt = none ∧ (s.endCall cause).line.customerRequest = none ∧
      (s.endCall cause).line.status = s.line.status ∧ (s.endCall cause).line.qualifyTimer = s.line.qualifyTimer ∧
      (s.line.phase = .guarded → (s.endCall cause).line.guardTimer = s.line.guardTimer) ∧
      (s.line.phase ≠ .guarded → (s.endCall cause).line.guardTimer = some (s.now + 800) ∧
        (s.endCall cause).line.dialToneTimer = none ∧ (s.endCall cause).line.answerWaitTimer = none ∧
        (s.endCall cause).line.timedAnswerTimer = none ∧ (s.endCall cause).line.clearTimer = none) := by
  obtain ⟨hphase, howner, hattempt, hguard, hdial, hwait, htimed, hclear, hrequest, hstatus, hqualify⟩ :=
    LineState.busy_fields (State.endCall_line h cause).1
  obtain ⟨rphase, rowner, rattempt, rstatus, rqualify, rkept, rguard⟩ := s.line.released_fields s.now
  refine ⟨hphase.trans rphase, howner.trans rowner, hattempt.trans rattempt, hrequest, hstatus.trans rstatus,
    hqualify.trans rqualify, fun hg => hguard.trans (rkept hg), fun hg => ?_⟩
  obtain ⟨r1, r2, r3, r4, r5⟩ := rguard hg
  exact ⟨hguard.trans r1, hdial.trans r2, hwait.trans r3, htimed.trans r4, hclear.trans r5⟩

end Sys2Proof.Machine

open Sys2Proof Sys2Proof.Machine

/-- Settles O43: each of the three events ends the call at its moment. -/
theorem customerCallCloses : Obligations.CustomerCallCloses := by
  intro s c cause n hlive howner hevent record
  obtain ⟨m, hexec, hn, hphase, hcause⟩ : ∃ m, exec c s = .next ((s.reach m).endCall cause) ∧ n = max s.now m ∧
      (s.line.phase = .awaitAnswer ∨ s.line.phase = .connected) ∧ cause ≠ .noDialTone := by
    rcases hevent with ⟨m, rfl, rfl, hphase, hrun, hn⟩ | ⟨m, rfl, rfl, hphase, hrun, hn⟩ |
      ⟨rfl, rfl, hphase, hsource, hpin, hn⟩
    · refine ⟨m, congrArg Host.Outcome.next ?_, hn, .inl hphase, by decide⟩
      rw [State.whenLive_of_live hlive, if_pos, State.onExpiry_of_running hrun]
      simp [State.customerAwaits, State.customerOwns, howner, hphase]
    · refine ⟨m, congrArg Host.Outcome.next ?_, hn, .inr hphase, by decide⟩
      rw [State.whenLive_of_live hlive, if_pos, State.onExpiry_of_running hrun]
      simp [State.customerConnected, howner, hphase]
    · refine ⟨_, congrArg Host.Outcome.next ?_, hn, .inr hphase, by decide⟩
      rw [State.whenLive_of_live hlive, if_pos]
      · rfl
      · simp [State.customerConnected, howner, hphase, hsource, hpin]
  let u := s.reach m
  have hidle : u.line.phase ≠ .idle := by
    rcases hphase with h | h <;> simp [u, h]
  have hguarded : u.line.phase ≠ .guarded := by
    rcases hphase with h | h <;> simp [u, h]
  obtain ⟨hline, hpips, hitem⟩ := State.endCall_line hidle cause
  obtain ⟨lphase, lowner, lattempt, lrequest, -, -, -, lguard⟩ := State.endCall_line_fields hidle cause
  obtain ⟨lguard, -, lwait, -, lclear⟩ := lguard hguarded
  obtain ⟨nphase, ndigits, nfifo, ncontext⟩ := u.endCall_number hcause
  obtain ⟨hopen, hsummary, hrecords, hflag⟩ := u.endCall_effect cause
  refine ⟨_, hexec, ?_, lphase, lowner, lattempt, ?_, lclear, lwait, lrequest, nphase, ndigits, nfifo, ncontext, hopen,
    ?_, hsummary, hflag, hitem hguarded, hpips, ?_, (u.endCall_totals cause).1, ?_, ?_, ?_⟩
  · rw [hn]
    simp
  · rw [hn]
    exact lguard
  · exact hrecords.trans (State.offerRecord_records_congr (t := s) _ rfl)
  all_goals simp
end

section
/-! The search for dial tone (R37, R50, R128, R133). -/

namespace Sys2Proof.Machine

/-! ### A failed report attempt (R133) -/

/-- The outcomes that count as a failed attempt (R133). -/
def EndCause.fails (c : EndCause) : Prop := c ≠ .ok ∧ c ≠ .preempted ∧ c ≠ .restart

theorem State.attemptOutcome_of_fails (s : State) {c : EndCause} (h : c.fails) :
    s.attemptOutcome c = s.failedAttempt := by
  obtain ⟨hok, hpreempted, hrestart⟩ := h
  cases c
  case ok => exact absurd rfl hok
  case preempted => exact absurd rfl hpreempted
  case restart => exact absurd rfl hrestart
  all_goals rfl

/-- A failed attempt is counted: the pause is the retry, or after the third the hold (R133). -/
theorem State.failedAttempt_report (s : State) :
    (s.report.attempts + 1 < 3 → s.failedAttempt.report.phase = .retryWait ∧
      s.failedAttempt.report.attempts = s.report.attempts + 1 ∧
      s.failedAttempt.report.retryTimer = some (s.now + 120000)) ∧
    (3 ≤ s.report.attempts + 1 → s.failedAttempt.report.phase = .held ∧ s.failedAttempt.report.attempts = 3 ∧
      s.failedAttempt.report.holdTimer = some (s.now + 3600000)) := by
  have hreport : s.failedAttempt.report = if s.report.attempts + 1 < Config.attemptLimit then
      { s.report with attempts := s.report.attempts + 1, phase := .retryWait, retryTimer := s.later Config.retryMs }
    else
      { s.report with attempts := min (s.report.attempts + 1) Config.attemptLimit, phase := .held,
                      holdTimer := s.later Config.holdMs } := by
    simp only [State.failedAttempt, State.tally_frame]
    rfl
  rw [hreport]
  constructor
  · intro h
    rw [if_pos (show s.report.attempts + 1 < Config.attemptLimit from h)]
    exact ⟨rfl, rfl, rfl⟩
  · intro h
    rw [if_neg (show ¬ s.report.attempts + 1 < Config.attemptLimit from Nat.not_lt.2 h)]
    exact ⟨rfl, Nat.min_eq_right h, rfl⟩

/-- Closing an attempt raises no tally of its own but that of a merged record. -/
theorem State.attemptClosed_pendingTally (s : State) (outcome : EndCause) (seize : CalTime) {name : TallyName}
    (h : name ≠ .merges) : (s.attemptClosed outcome seize).pendingTally name = s.pendingTally name := by
  have hoffer (u : State) (r : CallRecord) : (u.offerRecord r).pendingTally name = u.pendingTally name := by
    simp only [State.offerRecord]
    split
    · exact State.tally_pendingTally _ h
    split
    · exact State.pendingTally_congr (by simp) name
    · exact State.pendingTally_congr (by simp) name
  have hfail : s.failReporting.pendingTally name = s.pendingTally name := by
    simp only [State.failReporting]
    split
    · rfl
    · exact State.pendingTally_congr (by simp) name
  refine (hoffer _ _).trans ?_
  split
  · rfl
  · exact hfail

/-- The end of a report attempt as a failed one (R133, R159). -/
theorem State.endReport_failed (s : State) {outcome : EndCause} (h : outcome.fails) :
    (s.report.attempts + 1 < 3 → (s.endReport outcome).report.phase = .retryWait ∧
      (s.endReport outcome).report.attempts = s.report.attempts + 1 ∧
      (s.endReport outcome).report.retryTimer = some (s.now + 120000)) ∧
    (3 ≤ s.report.attempts + 1 → (s.endReport outcome).report.phase = .held ∧
      (s.endReport outcome).report.attempts = 3 ∧
      (s.endReport outcome).report.holdTimer = some (s.now + 3600000)) ∧
    s.tallyRises (s.endReport outcome) .reportAttempts := by
  let seize := s.line.seizeTime.getD s.calendar
  let u := s.releaseLine.attemptClosed outcome seize
  obtain ⟨-, -, hnow, hreport, -, -⟩ := s.releaseLine.attemptClosed_effect outcome seize
  have hend : s.endReport outcome = u.failedAttempt := u.attemptOutcome_of_fails h
  obtain ⟨hretry, hhold⟩ := u.failedAttempt_report
  have hattempts : u.report.attempts = s.report.attempts := by
    rw [show u.report = _ from hreport]
    simp [ReportState.cleared]
  have hmoment : u.now = s.now := hnow.trans (by simp)
  rw [hend]
  rw [hattempts, hmoment] at hretry hhold
  refine ⟨hretry, hhold, ?_⟩
  have hpending : u.pendingTally .reportAttempts = s.pendingTally .reportAttempts :=
    (State.attemptClosed_pendingTally _ outcome seize (by decide)).trans
      (State.pendingTally_congr (by simp) _)
  rw [State.tallyRises, ← hpending]
  exact State.tally_rises _ _

/-! ### A first symbol -/

/-- Dial tone found for a customer: an idle emitter begins the oldest symbol of the number (R37). -/
theorem State.emitNext_of_numberSymbol {s : State} {code : Nat} {rest : List Nat} (hitem : s.emitter.item = none)
    (howner : s.line.owner = some .customer) (hpips : s.emitter.pipsDue = 0) (hfifo : s.number.fifo = code :: rest)
    (hline : s.line.phase = .dialling) (hphase : s.number.phase = .dialling)
    (hmore : s.number.emitted < s.number.digits.length) :
    s.emitNext = s.shiftFifo.beginDigit code .numberSymbol := by
  simp [State.emitNext, State.nextCustomerItem, hitem, howner, hpips, hfifo, hline, hphase, hmore]

theorem State.emitNext_of_reportDigit {s : State} {code : Nat} (hitem : s.emitter.item = none)
    (howner : s.line.owner = some .report) (hphase : s.report.phase = .dialling)
    (hdigit : s.setup.settings.reportNumber[s.report.digitsHanded]? = some code) :
    s.emitNext = (s.updReport fun r => { r with digitsHanded := r.digitsHanded + 1 }).beginDigit code .reportDigit := by
  simp [State.emitNext, State.nextReportItem, hitem, howner, hphase, hdigit]

theorem State.dialToneReady_customer {s : State} (h : s.line.owner = some .customer) :
    s.dialToneReady = ((s.updLine fun l => { l with phase := .dialling, dialToneTimer := none }).setNumberPhase
      .dialling).emitNext := by
  simp only [State.dialToneReady, h]

theorem State.dialToneReady_report {s : State} (h : s.line.owner = some .report) :
    s.dialToneReady = ((s.updLine fun l => { l with phase := .dialling, dialToneTimer := none }).updReport fun r =>
      { r with phase := .dialling, digitsHanded := 0 }).emitNext := by
  simp only [State.dialToneReady, h]

theorem State.dialToneReady_line (s : State) :
    s.dialToneReady.line = { s.line with phase := .dialling, dialToneTimer := none } := by
  simp only [State.dialToneReady]
  split <;> simp

/-- Dial tone found leaves the digits of the number. -/
theorem State.dialToneReady_digits (s : State) : s.dialToneReady.number.digits = s.number.digits := by
  cases howner : s.line.owner with
  | none => simp only [State.dialToneReady, howner]; rfl
  | some o =>
    cases o with
    | customer =>
      rw [State.dialToneReady_customer howner, State.emitNext_number]
      obtain ⟨_, h⟩ := State.setNumberPhase_form
        (s.updLine fun l => { l with phase := .dialling, dialToneTimer := none }) .dialling
      rw [h]
      rfl
    | report =>
      rw [State.dialToneReady_report howner, State.emitNext_number]
      rfl

/-- The emitter leaves the report caller's place in its attempt. -/
theorem State.emitNext_reportPhase (s : State) : s.emitNext.report.phase = s.report.phase := by
  simp only [State.emitNext]
  split
  · rfl
  split
  · simp only [State.nextCustomerItem]
    (repeat' split) <;> simp
  · simp only [State.nextReportItem]
    (repeat' split) <;> simp
  · rfl

/-- The end of the line's call, whoever owns it, is none of the purse or the takings. -/
theorem State.incidental.endOwner {kinds : List AlarmKind} {s₀ s : State} (h : s₀.incidental kinds s)
    (hk : .ratingAnomaly ∈ kinds) (c : EndCause) : s₀.incidental kinds (s.endOwner c) := by
  simp only [State.endOwner]
  split
  · exact h.endCall hk c
  · exact h.endReport c
  · exact h

end Sys2Proof.Machine

open Sys2Proof Sys2Proof.Machine

/-- The first part of O41: dial tone has been present for 200 ms. -/
theorem dialToneFound (s : State) (f : Nat) (hlive : s.isHeld = false) (hseizing : s.line.phase = .seizing)
    (htone : s.line.toneFrom = some f) :
    exec .dialToneFound s = .next (s.reach (f + 200)).dialToneReady := by
  refine congrArg Host.Outcome.next ?_
  rw [State.whenLive_of_live hlive, if_pos hseizing]
  refine State.onExpiry_of_running ?_
  rw [State.toneMoment, htone]
  rfl

/-- Settles O41: the owner told of the tone found, and the two tries. -/
theorem dialToneSearchEnds : Obligations.DialToneSearchEnds := by
  refine ⟨fun s f hlive hseizing htone => ?_, fun s m hlive hrun hseizing => ?_⟩
  · intro n begun
    let u := s.reach (f + 200)
    refine ⟨_, dialToneFound s f hlive hseizing htone, ?_, ?_, ?_, ?_, ?_, ?_, ?_, fun howner => ?_, fun howner => ?_⟩
    · simp
      rfl
    · exact u.dialToneReady_line
    · simp
    · simp
    · simp
    · simp
    · exact u.dialToneReady_digits
    · let v := u.updLine fun l => { l with phase := .dialling, dialToneTimer := none }
      have hready := State.dialToneReady_customer (s := u) howner
      obtain ⟨st, hphase⟩ := State.setNumberPhase_form v .dialling
      rw [hready]
      refine ⟨?_, fun code rest hitem hpips hfifo hmore => ?_⟩
      · rw [State.emitNext_number, hphase]
      · have hnext := State.emitNext_of_numberSymbol (s := v.setNumberPhase .dialling) (code := code) (rest := rest)
          (by rw [hphase]; exact hitem) (by rw [hphase]; exact howner) (by rw [hphase]; exact hpips)
          (by rw [hphase]; exact hfifo) (by rw [hphase]; rfl) (by rw [hphase]) (by rw [hphase]; exact hmore)
        rw [hnext]
        obtain ⟨armed, st', hshift⟩ := State.setFifo_form (v.setNumberPhase .dialling)
          (v.setNumberPhase .dialling).number.fifo.tail
        have hw : (v.setNumberPhase .dialling).shiftFifo.now = n ∧
            (v.setNumberPhase .dialling).shiftFifo.setup = s.setup := by
          rw [State.shiftFifo, hshift, hphase]
          exact ⟨rfl, rfl⟩
        obtain ⟨hnow, hsetup⟩ := hw
        have hbegun := State.beginDigit_begun (v.setNumberPhase .dialling).shiftFifo code .numberSymbol
        rw [hnow, hsetup] at hbegun
        refine ⟨?_, hbegun⟩
        simp only [State.beginDigit_frame, State.shiftFifo, State.setFifo_fifo, hphase]
        exact congrArg List.tail hfifo
    · let v := (u.updLine fun l => { l with phase := .dialling, dialToneTimer := none }).updReport fun r =>
        { r with phase := .dialling, digitsHanded := 0 }
      have hready : u.dialToneReady = v.emitNext := State.dialToneReady_report (s := u) howner
      have hreport : v.emitNext.report.phase = v.report.phase := State.emitNext_reportPhase v
      rw [hready]
      refine ⟨hreport, ?_, fun code rest hitem hnumber => ?_⟩
      · refine State.emitNext_number_of_not_free (s := v) fun h => ?_
        exact absurd (howner.symm.trans h.2) (by decide)
      · have hdigit : v.setup.settings.reportNumber[v.report.digitsHanded]? = some code := by
          have hlist : v.setup.settings.reportNumber = code :: rest := hnumber
          rw [hlist]
          rfl
        rw [State.emitNext_of_reportDigit (s := v) hitem howner rfl hdigit]
        let w := v.updReport fun r => { r with digitsHanded := r.digitsHanded + 1 }
        have hbegun : (w.beginDigit code .reportDigit).report.digitsHanded = 1 := by
          simp only [State.beginDigit_frame]
          rfl
        exact ⟨hbegun, w.beginDigit_begun code .reportDigit⟩
  · intro n guarded
    let u := s.reach m
    have hexec : exec .dialToneTimeout s = .next u.tryFails := by
      refine congrArg Host.Outcome.next ?_
      rw [State.whenLive_of_live hlive, State.onExpiry_of_running hrun]
    refine ⟨fun hfirst => ?_, ?_⟩
    · rw [hexec]
      exact congrArg Host.Outcome.next (if_pos hfirst)
    · intro customerRecord reportRecord hsecond
      let v := u.tally .seizeFailures
      have hfails : u.tryFails = v.endOwner .noDialTone := if_neg hsecond
      have hv : v.line = s.line ∧ v.now = n ∧ v.records = s.records ∧ v.number = s.number ∧ v.report = s.report := by
        refine ⟨?_, ?_, ?_, ?_, ?_⟩ <;> simp [v, u] <;> rfl
      obtain ⟨hline, hnow, hrecords, hnumber, hreport⟩ := hv
      have hbusy : v.line.phase ≠ .idle := by
        rw [hline, hseizing]
        decide
      have hunguarded : v.line.phase ≠ .guarded := by
        rw [hline, hseizing]
        decide
      have hrises : s.tallyRises v .seizeFailures := u.tally_rises .seizeFailures
      have hkeeps : v.incidental [.ratingAnomaly] (v.endOwner .noDialTone) :=
        (State.incidental_self _ v).endOwner (by simp) .noDialTone
      rw [hexec, hfails]
      refine ⟨_, rfl, ?_, ?_, ?_, ?_, fun howner => ?_, fun howner => ?_⟩
      · simp [v, u]
      · simp [v, u]
      · simp [v, u]
      · rw [State.tallyRises, hkeeps.tallies _ rfl]
        exact hrises
      · have hend : v.endOwner .noDialTone = v.endCall .noDialTone := by
          simp only [State.endOwner, hline, howner]
        obtain ⟨lphase, lowner, -, -, -, -, -, lguard⟩ := State.endCall_line_fields hbusy .noDialTone
        obtain ⟨nphase, ncause, ncontext⟩ := v.endCall_noDialTone
        obtain ⟨hopen, -, hoffered, hflag⟩ := v.endCall_effect .noDialTone
        rw [hend]
        refine ⟨lphase, lowner, ?_, nphase, ncause, ncontext, hopen, ?_, hflag⟩
        · rw [← hnow]
          exact (lguard hunguarded).1
        · have hrecord : v.customerRecord .noDialTone = customerRecord := by
            simp only [State.customerRecord, v, State.tally_frame, State.callStatus]
            rfl
          rw [hoffered, hrecord]
          exact State.offerRecord_records_congr _ hrecords
      · have hend : v.endOwner .noDialTone = v.endReport .noDialTone := by
          simp only [State.endOwner, hline, howner]
        obtain ⟨hretry, hhold, hattempt⟩ := v.endReport_failed (outcome := .noDialTone) (by simp [EndCause.fails])
        obtain ⟨hoffered, -, -, -, -, -, hflag⟩ := v.endReport_effect .noDialTone
        obtain ⟨lphase, lowner, -, lguard, -⟩ := LineState.busy_fields (State.endReport_line hbusy .noDialTone).1
        obtain ⟨rphase, rowner, -, -, -, -, rguard⟩ := v.line.released_fields v.now
        rw [hend]
        rw [hreport, hnow] at hretry hhold
        refine ⟨lphase.trans rphase, lowner.trans rowner, ?_, ?_, ?_, ?_, hflag, hretry, hhold⟩
        · rw [← hnow]
          exact lguard.trans (rguard hunguarded).1
        · simp [v, u]
        · have hrecord : v.reportRecord .noDialTone (v.line.seizeTime.getD v.calendar) = reportRecord := by
            simp only [State.reportRecord, v, State.tally_frame]
            rfl
          rw [hoffered, hrecord]
          exact State.offerRecord_records_congr _ hrecords
        · have hother : v.pendingTally .reportAttempts = s.pendingTally .reportAttempts :=
            State.tally_pendingTally u (by decide)
          rw [State.tallyRises, ← hother]
          exact hattempt
end

section
/-! The report caller: its pauses, the go tone, and the ends of an attempt (chapter 7). -/

namespace Sys2Proof.Machine

/-- Something is to be reported: a kind stands in the queue, or a status report is due (R126). -/
theorem State.reportWanted_iff (s : State) :
    s.reportWanted = true ↔ s.alarms.queue ≠ [] ∨ s.report.statusMark = true := by
  simp [State.reportWanted]

/-- A request of the report caller on an IDLE line with no customer request is granted at once (R47, R48). -/
theorem State.placeReport_of_idle {s : State} (h : s.line.phase = .idle) (hc : s.line.customerRequest = none)
    (runTime : Nat) : s.placeReport runTime =
      (s.updLine fun l => { l with reportRequest := some runTime }).takeLine .report :=
  State.grantWaiting_report (s := s.updLine fun l => { l with reportRequest := some runTime }) h
    (State.nextGrant_of_report_alone (s := s.updLine fun l => { l with reportRequest := some runTime }) hc rfl)

/-- The report caller at the end of a pause, with something to report: in WAIT_LINE, in a run of its own. -/
def ReportState.resumed (r : ReportState) (attempts run : Nat) : ReportState :=
  { r with phase := .waitLine, attempts := attempts, runTime := some run, retryTimer := none, holdTimer := none }

/-- The end of the retry pause (R126). -/
theorem State.retryExpired_eq {s : State} {run : Nat} (hhold : s.report.holdTimer = none)
    (hrun : s.report.runTime = some run) : s.retryExpired =
      if s.reportWanted then
        State.placeReport { s with report := s.report.resumed s.report.attempts run } run
      else { s with report := { s.report with
        phase := .idle, attempts := 0, runTime := none, retryTimer := none, holdTimer := none } } := by
  let t := s.updReport fun r => { r with retryTimer := none }
  have hwanted : t.reportWanted = s.reportWanted := rfl
  have hexpired : s.retryExpired = if t.reportWanted then t.resumeRun else t.endRun := rfl
  rw [hexpired, hwanted]
  congr 1
  · simp only [t, State.resumeRun, State.updReport, ReportState.resumed, hhold, hrun, Option.getD_some]
  · simp only [t, State.endRun, State.updReport, hhold]

/-- The end of the hold pause (R126). -/
theorem State.holdExpired_eq {s : State} (hretry : s.report.retryTimer = none) : s.holdExpired =
      if s.reportWanted then State.placeReport { s with report := s.report.resumed 0 s.now } s.now
      else { s with report := { s.report with
        phase := .idle, attempts := 0, runTime := none, retryTimer := none, holdTimer := none } } := by
  let t := s.updReport fun r => { r with holdTimer := none }
  have hwanted : t.reportWanted = s.reportWanted := rfl
  have hexpired : s.holdExpired = if t.reportWanted then t.beginRun else t.endRun := rfl
  rw [hexpired, hwanted]
  congr 1
  simp only [t, State.endRun, State.updReport, hretry]

end Sys2Proof.Machine

open Sys2Proof Sys2Proof.Machine

/-- Settles O52: either pause ends in IDLE, in a waiting request, or in a grant. -/
theorem reportPausesEnd : Obligations.ReportPausesEnd := by
  intro s c m run attempts hlive hevent n wanted resumed
  have hexec : exec c s = .next (if (s.reach m).reportWanted then
        State.placeReport { s with now := n, report := s.report.resumed attempts run } run
      else { s with now := n, report := { s.report with
        phase := .idle, attempts := 0, runTime := none, retryTimer := none, holdTimer := none } }) := by
    rcases hevent with ⟨rfl, hrun, hhold, hrunTime, rfl⟩ | ⟨rfl, hrun, hretry, rfl, rfl⟩
    · refine congrArg Host.Outcome.next ?_
      rw [State.whenLive_of_live hlive, State.onExpiry_of_running hrun,
        State.retryExpired_eq (s := s.reach m) hhold hrunTime]
      rfl
    · refine congrArg Host.Outcome.next ?_
      rw [State.whenLive_of_live hlive, State.onExpiry_of_running hrun, State.holdExpired_eq (s := s.reach m) hretry]
      rfl
  have hwanted : (s.reach m).reportWanted = true ↔ wanted := (s.reach m).reportWanted_iff
  rw [hexec]
  refine ⟨fun hnone => ?_, fun hsome hbusy => ?_, fun hsome hidle hcustomer => ?_⟩
  · rw [if_neg fun h => hnone (hwanted.1 h)]
  · rw [if_pos (hwanted.2 hsome), State.placeReport_of_busy (by exact hbusy)]
    rfl
  · rw [if_pos (hwanted.2 hsome), State.placeReport_of_idle (by exact hidle) (by exact hcustomer)]
    rfl

/-! ### The go tone (R129 to R131) -/

namespace Sys2Proof.Machine

/-- A build takes each queued kind once, and no other (R116). -/
theorem AlarmState.get_build (a : AlarmState) (hq : a.queue.Nodup) (k : AlarmKind) : a.build.get k =
    if k ∈ a.queue then { a.get k with phase := .reporting, carried := (a.get k).count } else a.get k := by
  rw [AlarmState.build]
  exact AlarmState.get_foldl (f := fun e => { e with phase := .reporting, carried := e.count })
    (fun a k => AlarmState.get_put_same a k _) (fun a j k h => AlarmState.get_put_other a _ h) hq a k

/-- With an empty queue a build changes nothing (R116). -/
theorem AlarmState.build_of_empty {a : AlarmState} (h : a.queue = []) : a.build = a := by
  rw [AlarmState.build, h]
  rfl

@[simp] theorem State.carryQueue_alarms (s : State) : s.carryQueue.alarms = s.alarms.build := by
  simp only [State.carryQueue]
  split
  · next h => exact (AlarmState.build_of_empty h).symm
  · simp

@[simp] theorem State.carryQueue_totals (s : State) : s.carryQueue.cash.totals = s.cash.totals := by
  simp only [State.carryQueue]
  split <;> simp

/-- The report caller as the emitter leaves it: only what it has handed over has changed. -/
theorem State.emitNext_report (s : State) : s.emitNext.report =
    { s.report with handed := s.emitNext.report.handed, digitsHanded := s.emitNext.report.digitsHanded } := by
  simp only [State.emitNext]
  split
  · rfl
  split
  · simp only [State.nextCustomerItem]
    (repeat' split) <;> simp
  · simp only [State.nextReportItem]
    (repeat' split) <;> simp [State.updReport]
  · rfl

/-- An idle emitter of the report call begins the next symbol of the message (R131). -/
theorem State.emitNext_of_messageSymbol {s : State} {code : Nat} (hitem : s.emitter.item = none)
    (howner : s.line.owner = some .report) (hphase : s.report.phase = .sending)
    (hcode : s.report.message[s.report.handed]? = some code) :
    s.emitNext = (s.updReport fun r => { r with handed := r.handed + 1 }).beginTone code .messageSymbol := by
  simp [State.emitNext, State.nextReportItem, hitem, howner, hphase, hcode]

/-- The report call as the go tone has connected it, before the emitter takes the first symbol. -/
def State.goToned (s : State) : State :=
  ((s.updLine fun l => { l with phase := .connected, answerTime := some s.calendar }).buildReport).updReport fun r =>
    { r with goTimer := none, goTime := some s.calendar, phase := .sending }

theorem State.goTone_eq (s : State) : s.goTone = s.goToned.emitNext := rfl

theorem State.goToned_report (s : State) : s.goToned.report =
    { s.report with phase := .sending, goTimer := none, goTime := some s.calendar, handed := 0
                    message := reportMessage s.setup.settings.phoneIdentity s.alarms.build s.cash.totals.collected
                    carriedKinds := kindSetOf s.alarms.build.queue } := by
  simp [State.goToned, State.buildReport, State.updReport]


end Sys2Proof.Machine

open Sys2Proof Sys2Proof.Machine

/-- Settles O53: the message is built over the queue just fixed, and its start symbol begins. -/
theorem goToneBuildsTheMessage : Obligations.GoToneBuildsTheMessage := by
  intro s f hlive hphase htone
  let u := s.reach (f + 300)
  let v := u.goToned
  have hexec : exec .goToneFound s = .next v.emitNext := by
    refine congrArg Host.Outcome.next ?_
    rw [State.whenLive_of_live hlive, if_pos hphase]
    refine State.onExpiry_of_running (f := State.goTone) ?_
    rw [htone]
    rfl
  have hreport := v.emitNext_report
  rw [show v.report = _ from u.goToned_report] at hreport
  refine ⟨_, hexec, ?_, ?_, ?_, ?_, ?_, ?_, ?_, ?_, fun k hraised hk hq => ?_, fun howner hitem => ?_, fun hempty => ?_,
    ?_, ?_, ?_, ?_⟩
  · simp [v, State.goToned, u]
  · simp [v, State.goToned, u]
  · simp [v, State.goToned, u, State.buildReport]
  · rw [hreport]
  · rw [hreport]
  · rw [hreport]
    rfl
  · rw [hreport]
    rfl
  · rw [hreport]
    rfl
  · have halarms : v.emitNext.alarms = s.alarms.build := by
      simp [v, State.goToned, u, State.buildReport]
    rw [halarms, AlarmState.get_build _ hq, if_pos hk]
    exact ⟨rfl, rfl, rfl⟩
  · have hcode : v.report.message[v.report.handed]? = some 10 := by
      rw [show v.report = _ from u.goToned_report]
      rfl
    have hsending : v.report.phase = .sending := by
      rw [show v.report = _ from u.goToned_report]
    have hhanded : v.report.handed = 0 := by
      rw [show v.report = _ from u.goToned_report]
    rw [State.emitNext_of_messageSymbol (s := v) (by simpa [v, State.goToned, u] using hitem)
      (by simpa [v, State.goToned, u] using howner) hsending hcode]
    refine ⟨rfl, ?_⟩
    simp [State.beginTone, State.beginItem, hhanded]
  · have hcash : v.emitNext.cash = (u.updLine fun l => { l with phase := .connected, answerTime := some u.calendar }).carryQueue.cash := by
      simp [v, State.goToned, State.buildReport]
    rw [hcash, State.carryQueue, if_pos (by simpa [u] using hempty)]
    rfl
  · simp [v, State.goToned, State.buildReport, u]
  · simp [v, State.goToned, State.buildReport, u]
  · rw [State.emitNext_number]
    simp [v, State.goToned, State.buildReport, u]
  · simp [v, State.goToned, State.buildReport, u]
end

section
/-! A mailbox command that is posted to a FREE mailbox whose port has no other work, up to its being carried out (R170;
log entry 3). -/

namespace Sys2Proof.Machine

theorem readWord_congr {m m' : Memory} {addr : Nat} (h : readByte m' addr = readByte m addr)
    (h' : readByte m' (addr + 1) = readByte m (addr + 1)) : readWord m' addr = readWord m addr := by
  simp only [readWord, h, h']

theorem readWord_writeWord_other (m : Memory) {addr other : Nat} (w : Word)
    (h : other + 1 < addr ∨ addr + 1 < other) : readWord (writeWord m addr w) other = readWord m other :=
  readWord_congr (readByte_writeWord_other m addr other w (by omega) (by omega))
    (readByte_writeWord_other m addr (other + 1) w (by omega) (by omega))

/-- The state with another memory and another part-owed mark: what host writes in SRAM leave at an idle port. -/
def State.withMemory (s : State) (m : Memory) (owed : Bool) : State :=
  { s with mem := m, path := { s.path with partOwed := owed } }

/-- A word write of the host in SRAM with no part work waiting (R162). -/
theorem State.passWrite_of_quiet {s : State} {addr : Nat} (hq : s.path.partQueue = []) (h : addr + 1 < Config.flashBase)
    (w : Word) : s.passWrite addr .word w = s.withMemory (writeWord s.mem addr w) true := by
  have hturn : s.passWrite addr .word w = ((s.atHostTurn s).storeWord addr w).hostTurnEnds := rfl
  rw [hturn, State.atHostTurn_of_no_work _ hq, State.storeWord_sram _ _ _ (by omega), State.storeWord_mem_sram _ _ _ h]
  rfl

/-- The arguments as they stand in memory after their writes: each at its word, and every byte outside them as it was. -/
def argumentsWritten (m m' : Memory) (base k : Nat) (arguments : List Word) : Prop :=
  (∀ i (h : i < arguments.length), readWord m' (base + 2 * (k + i)) = arguments[i]) ∧
    ∀ a, (a < base + 2 * k ∨ base + 2 * (k + arguments.length) ≤ a) → readByte m' a = readByte m a

/-- The argument words of a command, written at an idle port (R170). -/
theorem State.writeArguments_of_quiet (arguments : List Word) {s : State} {base k : Nat}
    (hbase : s.setup.settings.bases.mailbox = base) (hq : s.path.partQueue = []) (hwf : Memory.wf s.mem = true)
    (hsram : base + 2 * (k + arguments.length) ≤ Config.flashBase) :
    ∃ m owed, s.writeArguments k arguments = s.withMemory m owed ∧ Memory.wf m = true ∧
      argumentsWritten s.mem m base k arguments := by
  induction arguments generalizing s k with
  | nil => exact ⟨s.mem, s.path.partOwed, rfl, hwf, fun i h => absurd h (Nat.not_lt_zero i), fun _ _ => rfl⟩
  | cons w rest ih =>
    simp only [List.length_cons] at hsram
    let t := s.withMemory (writeWord s.mem (base + 2 * k) w) true
    have hfirst : s.passWrite (wordAddr s.setup.settings.bases.mailbox k) .word w = t := by
      rw [hbase]
      exact State.passWrite_of_quiet hq (show base + 2 * k + 1 < Config.flashBase by omega) w
    obtain ⟨m, owed, hrest, hm, hwritten, houtside⟩ := ih (s := t) (k := k + 1) hbase hq (writeWord_wf _ _ _ hwf)
      (by omega)
    refine ⟨m, owed, ?_, hm, fun i hi => ?_, fun a ha => ?_⟩
    · rw [State.writeArguments, hfirst, hrest]
      rfl
    · cases i with
      | zero =>
        have hkept : readWord m (base + 2 * k) = readWord t.mem (base + 2 * k) :=
          readWord_congr (houtside _ (.inl (by omega))) (houtside _ (.inl (by omega)))
        exact hkept.trans (readWord_writeWord_same _ _ _ hwf)
      | succ i =>
        have hi' : i < rest.length := Nat.lt_of_succ_lt_succ hi
        have hnext := hwritten i hi'
        rw [show k + 1 + i = k + (i + 1) by omega] at hnext
        exact hnext
    · simp only [List.length_cons] at ha
      have hlater : readByte m a = readByte t.mem a := houtside a (by omega)
      exact hlater.trans (readByte_writeWord_other _ _ _ _ (by omega) (by omega))

/-- The state in which a command is carried out: taken, word 0 cleared, and its arguments read. -/
def State.atStep4 (s : State) (m : Memory) (path : PathState) (c : Command) : State :=
  { s with mem := m, path := path
           status := { s.status with flags := s.status.flags &&& ~~~ EventFlag.mailboxDone.only }
           mailbox := ⟨some c⟩ }

/-- The five argument words as the mailbox reads them (R170). -/
def argumentWords (m : Memory) (base : Nat) : List Word :=
  [readWord m (base + 2), readWord m (base + 4), readWord m (base + 6), readWord m (base + 8), readWord m (base + 10)]

theorem wordAt_argumentWords (m : Memory) (base : Nat) {i : Nat} (h : i < 5) :
    wordAt (argumentWords m base) i = readWord m (base + 2 * (1 + i)) := by
  match i, h with
  | 0, _ => rfl
  | 1, _ => rfl
  | 2, _ => rfl
  | 3, _ => rfl
  | 4, _ => rfl

/-- The state right after a command has been posted to a FREE mailbox, with no other work at the port. -/
def State.posted (s : State) (m : Memory) (base : Nat) (code : Word) : State :=
  s.atStep4 m { s.path with partQueue := [.mailbox], partOwed := true } ⟨code, base, [], .readArguments, 0#16, []⟩

/-- The post of a command (R169, R171). -/
theorem State.post_of_quiet {s : State} {base : Nat} (hbase : s.setup.settings.bases.mailbox = base)
    (hq : s.path.partQueue = []) (hsram : base + 1 < Config.flashBase) (hfree : s.mailbox.command = none) {code : Word}
    (hcode : code ≠ 0#16) : s.takeSpecial .commandPost code = s.posted (writeWord s.mem base code) base code := by
  subst hbase
  have hpasses : s.specialPasses .commandPost code = true := by
    simp [State.specialPasses, State.postPasses, hfree]
  have haction : s.specialAction .commandPost code = s.takeCommand code := by
    simp [State.specialAction, State.postCommand, hcode, hfree]
  have haddr : s.specialAddr .commandPost = s.setup.settings.bases.mailbox := rfl
  rw [State.takeSpecial_of_passes hpasses, State.atHostTurn_of_no_work _ hq, haction, haddr,
    State.storeWord_sram _ _ _ (by omega), State.storeWord_mem_sram _ _ _ hsram]
  simp only [State.takeCommand, State.join, State.updPath, State.updMailbox, State.lower, State.updStatus, hq]
  rfl

/-- The turns that bring a posted command to step 4 and carry it out (R170). -/
theorem State.bringToStep4_of_posted {s : State} {m : Memory} {base : Nat} {code : Word} (hlive : s.isHeld = false)
    (hsram : base + 1 < Config.flashBase) : ∃ path queue, path.tallies = s.path.tallies ∧
      let c : Command := ⟨code, base, argumentWords m base, .clearSlot, 0#16, []⟩
      let v := (s.atStep4 (writeWord m base 0#16) path c).carryOut c
      (s.posted m base code).bringToStep4 =
        { v with path := { v.path with partQueue := queue, partOwed := false } } := by
  let c : Command := ⟨code, base, argumentWords m base, .clearSlot, 0#16, []⟩
  let path : PathState := { s.path with partQueue := [.mailbox], partOwed := false }
  let w := s.atStep4 m path c
  have hbring : (s.posted m base code).bringToStep4 = w.partTurn :=
    State.bringToStep4_of_taken (u := s.posted m base code) hlive rfl rfl
  have hstore : w.storeWord c.base 0#16 = s.atStep4 (writeWord m base 0#16) path c := by
    rw [State.storeWord_sram _ _ _ (show base < Config.flashBase by omega), State.storeWord_mem_sram _ _ _ hsram]
    rfl
  have hturn := State.partTurn_carryOut (u := w) (c := c) hlive rfl rfl rfl
  rw [hstore] at hturn
  obtain ⟨queue, hrejoin⟩ := State.rejoin_form
    (((s.atStep4 (writeWord m base 0#16) path c).carryOut c).updPath fun p => { p with partQueue := p.partQueue.tail })
    .mailbox
  refine ⟨path, queue, rfl, ?_⟩
  rw [hbring, hturn, hrejoin]
  rfl

/-- A command posted to a FREE mailbox in SRAM with no work at the port is carried out over the state it was posted in,
with its arguments in hand and word 0 clear (R170). -/
theorem State.mailboxCommand_run {s : State} {base : Nat} (hbase : s.setup.settings.bases.mailbox = base)
    (hlive : s.isHeld = false) (hq : s.path.partQueue = []) (hwf : Memory.wf s.mem = true)
    (hsram : base + 31 < Config.flashBase) (hfree : s.mailbox.command = none) {code : Word} (hcode : code ≠ 0#16)
    {arguments : List Word} (hargs : arguments.length ≤ 5) : ∃ m path words queue,
      sameOutside s.mem m base 12 ∧ readWord m base = 0#16 ∧
      (∀ i (h : i < arguments.length),
        wordAt words i = arguments[i] ∧ readWord m (base + 2 * (1 + i)) = arguments[i]) ∧
      path.tallies = s.path.tallies ∧
      let c : Command := ⟨code, base, words, .clearSlot, 0#16, []⟩
      let v := (s.atStep4 m path c).carryOut c
      s.mailboxCommand code arguments = { v with path := { v.path with partQueue := queue, partOwed := false } } := by
  obtain ⟨m₁, owed, hwritten, hwf₁, hargument, houtside⟩ :=
    State.writeArguments_of_quiet arguments (k := 1) hbase hq hwf (by omega)
  let t := s.withMemory m₁ owed
  let m₂ := writeWord m₁ base code
  have hpost : t.takeSpecial .commandPost code = t.posted m₂ base code :=
    State.post_of_quiet (s := t) hbase hq (by omega) hfree hcode
  have hrun : s.mailboxCommand code arguments = (t.posted m₂ base code).bringToStep4 := by
    have hcommand : s.mailboxCommand code arguments = if t.mailbox.command.isSome then t.takeSpecial .commandPost code
        else (t.takeSpecial .commandPost code).bringToStep4 := by
      simp only [State.mailboxCommand, hwritten]
      rfl
    rw [hcommand, hpost, if_neg]
    simp [t, State.withMemory, hfree]
  obtain ⟨path, queue, htallies, hbring⟩ :=
    State.bringToStep4_of_posted (s := t) (m := m₂) (base := base) (code := code) hlive (by omega)
  have hlater {a : Nat} (ha : base + 2 ≤ a) : readByte (writeWord m₂ base 0#16) a = readByte m₁ a :=
    (readByte_writeWord_other _ _ _ _ (by omega) (by omega)).trans
      (readByte_writeWord_other _ _ _ _ (by omega) (by omega))
  refine ⟨writeWord m₂ base 0#16, path, argumentWords m₂ base, queue, fun a ha => ?_,
    readWord_writeWord_same _ _ _ (writeWord_wf _ _ _ hwf₁), fun i hi => ?_, htallies, hrun.trans hbring⟩
  · refine (readByte_writeWord_other _ _ _ _ (by omega) (by omega)).trans
      ((readByte_writeWord_other _ _ _ _ (by omega) (by omega)).trans (houtside a (by omega)))
  · have hword : readWord m₂ (base + 2 * (1 + i)) = readWord m₁ (base + 2 * (1 + i)) :=
      readWord_writeWord_other _ _ (.inr (by omega))
    refine ⟨(wordAt_argumentWords _ _ (by omega)).trans (hword.trans (hargument i hi)), ?_⟩
    exact (readWord_congr (hlater (by omega)) (hlater (by omega))).trans (hargument i hi)

end Sys2Proof.Machine
end

section
/-! The mailbox commands (R172 to R177, R187). -/

namespace Sys2Proof.Machine

/-! ### The purse after the test of an owed close (R142) -/

/-- The test after an event touches of the coin handler only the fill marks (R143). -/
theorem State.thenTest_coin (s : State) (event : State → State) : ∃ w r, (s.thenTest event).coin =
    { (event s).coin with fillWarned := w, reasons := { (event s).coin.reasons with vaultFull := r } } := by
  simp only [State.thenTest]
  split
  · exact ⟨(event s).coin.fillWarned, (event s).coin.reasons.vaultFull, rfl⟩
  · exact (event s).closeTest_coin

/-- A refund request leaves what the purse holds. -/
theorem State.requestRefund_purse (s : State) :
    s.requestRefund.coin.banked = s.coin.banked ∧ s.requestRefund.coin.escrow = s.coin.escrow ∧
      s.requestRefund.coin.gate = s.coin.gate ∧ s.requestRefund.coin.reasons = s.coin.reasons := by
  simp only [State.requestRefund]
  (repeat' split) <;> exact ⟨rfl, rfl, rfl, rfl⟩

/-! ### An emitter at rest -/

/-- The emitter is IDLE with no pip due (R41, R44). -/
def State.silent (s : State) : Prop := s.emitter = ⟨none, none, 0, none⟩

theorem State.silent.releaseLine {s : State} (h : s.silent) : s.releaseLine.silent := by
  have habandon : s.abandonItem.silent := by
    have : s.abandonItem.emitter = { s.emitter with item := none, timer := none } := rfl
    rw [State.silent, this, h]
  simp only [State.releaseLine]
  split
  · exact h
  · exact h
  · exact habandon

theorem State.silent.same {s t : State} (h : s.silent) (ht : t.emitter = s.emitter) : t.silent := ht.trans h

theorem State.silent.endReport {s : State} (h : s.silent) (c : EndCause) : (s.endReport c).silent :=
  h.releaseLine.same (by simp [State.endReport])

theorem State.silent.toWaitLine {s : State} (h : s.silent) : s.toWaitLine.silent := by
  let u := s.stopNumberTimers.setNumberPhase .waitLine
  have hu (cls : RequestClass) : (u.updLine fun l => { l with customerRequest := some cls }).silent :=
    h.same (by simp [u])
  have hplaced (cls : RequestClass) : (u.placeCustomer cls).silent := by
    cases cls
    case paidFree => exact (hu .paidFree).same (by simp [State.placeCustomer])
    case emergency =>
      have hpreempt : (u.updLine fun l => { l with customerRequest := some .emergency }).preemptReport.silent := by
        simp only [State.preemptReport]
        split
        · exact (hu .emergency).endReport _
        · exact hu .emergency
      exact hpreempt.same (by simp [State.placeCustomer])
  exact hplaced _

theorem State.silent.recheckDeposit {s : State} (h : s.silent) : s.recheckDeposit.silent := by
  simp only [State.recheckDeposit]
  split
  · exact h
  split
  · split
    · exact h.toWaitLine
    · exact h
  split
  · exact h.same (by simp)
  · exact h

theorem State.silent.forfeit {s : State} (h : s.silent) : s.forfeit.silent := by
  simp only [State.forfeit]
  split
  · exact h
  · refine State.silent.recheckDeposit ?_
    exact h.same (by simp)

/-! ### A service restart (R25, R187) -/

theorem State.restartNumber_phase (s : State) : s.restartNumber.number.phase = .empty := by
  simp only [State.restartNumber]
  split
  · assumption
  · exact s.endNumber_effect.1

/-- A service restart: banked credit is forfeited, the number has ended and the emitter rests; the coins stay in the
escrow, and the start cause is RESTART. -/
theorem State.serviceRestart_effect (s : State) :
    s.serviceRestart.power = { s.power with cause := .restart } ∧ s.serviceRestart.coin.banked = 0 ∧
      s.serviceRestart.coin.escrow = s.coin.escrow ∧ s.serviceRestart.number.phase = .empty ∧
      s.serviceRestart.emitter = ⟨none, none, 0, none⟩ := by
  let u := s.restartLine.restartEmitter
  let v := (u.forfeit.requestRefund.restartNumber).updPower fun p => { p with cause := .restart }
  obtain ⟨w, r, hcoin⟩ := s.thenTest_coin fun s =>
    ((((s.restartLine.restartEmitter).forfeit).requestRefund).restartNumber).updPower fun p => { p with cause := .restart }
  have hpurse := u.forfeit.requestRefund_purse
  have hv : v.coin = u.forfeit.requestRefund.coin := by simp [v]
  have hu : u.coin = s.coin := by simp [u]
  have hrest : u.silent := rfl
  have hend : v.silent := hrest.forfeit.same (by simp [v])
  have hphase : v.number.phase = .empty := u.forfeit.requestRefund.restartNumber_phase
  refine ⟨?_, ?_, ?_, ?_, ?_⟩
  · simp [State.serviceRestart]
  · refine (congrArg CoinState.banked hcoin).trans ((congrArg CoinState.banked hv).trans (hpurse.1.trans ?_))
    rw [State.forfeit_coin]
  · refine (congrArg CoinState.escrow hcoin).trans ((congrArg CoinState.escrow hv).trans (hpurse.2.1.trans ?_))
    rw [State.forfeit_coin, hu]
  · simp only [State.serviceRestart, State.thenTest_frame]
    exact hphase
  · simp only [State.serviceRestart, State.thenTest_frame]
    exact hend

/-! ### The alarm table and a clear (R119, R175) -/

theorem AlarmState.clear_of_not_clearable {a : AlarmState} {k : AlarmKind} (h : (a.get k).phase.clearable = false) :
    a.clear k = a := by
  simp [AlarmState.clear, h]

/-- A clear of a table with nothing to clear changes nothing. -/
theorem AlarmState.clearAll_of_none {a : AlarmState} (h : a.clearableCount = 0) : a.clearAll = a := by
  have hnone (k : AlarmKind) : (a.get k).phase.clearable = false :=
    eq_false_of_ne_true (List.countP_eq_zero.1 h k (AlarmKind.mem_all k))
  have hfold (l : List AlarmKind) : l.foldl AlarmState.clear a = a := by
    induction l with
    | nil => rfl
    | cons k l ih => rw [List.foldl_cons, AlarmState.clear_of_not_clearable (hnone k), ih]
  exact hfold _

theorem State.clearAlarms_alarms (s : State) : s.clearAlarms.alarms = s.alarms.clearAll := by
  simp only [State.clearAlarms]
  split
  · next h => exact (AlarmState.clearAll_of_none h).symm
  · simp

/-- The clear of a kind that is REPORTED or NOTED returns it to QUIET (R119). -/
theorem AlarmState.clear_of_clearable {a : AlarmState} {k : AlarmKind}
    (h : (a.get k).phase = .reported ∨ (a.get k).phase = .noted) : a.clear k = a.put k ⟨.quiet, 0, 0, none, none⟩ := by
  refine (if_pos ?_).trans rfl
  rcases h with h | h <;> simp [AlarmPhase.clearable, h]

theorem AlarmKind.ofCode_code (k : AlarmKind) : AlarmKind.ofCode k.code = some k := by
  cases k <;> rfl

theorem AlarmKind.ofCode_of_large {n : Nat} (h : 12 < n) : AlarmKind.ofCode n = none := by
  obtain ⟨m, rfl⟩ : ∃ m, n = m + 13 := ⟨n - 13, by omega⟩
  rfl

theorem AlarmKind.code_pos (k : AlarmKind) : 0 < k.code := by
  cases k <;> decide

/-! ### The answer of a command (R170) -/

/-- The answer of a command touches the mailbox alone. -/
theorem State.answerCommand_eq (s : State) (result data : Word) :
    s.answerCommand result data = { s with mailbox := (s.answerCommand result data).mailbox } := rfl

/-- A command in hand is answered: its result and data word 1 (R170). -/
theorem State.answerCommand_command {s : State} {c : Command} (h : s.mailbox.command = some c) (result data : Word) :
    (s.answerCommand result data).mailbox.command =
      some { c with step := .respond 0, result := result, data := [data] } := by
  simp [State.answerCommand, State.updCommand, State.updMailbox, h]

end Sys2Proof.Machine
end

section
/-! A mailbox command carried out, by its code (O58). -/

namespace Sys2Proof.Machine

/-- The state after a command has been carried out at its turn of the port (R170). -/
def State.carried (s : State) (m : Memory) (path : PathState) (c : Command) (queue : List Requester) : State :=
  { (s.atStep4 m path c).carryOut c with
    path := { ((s.atStep4 m path c).carryOut c).path with partQueue := queue, partOwed := false } }

/-- A command in hand has been answered with a result and data word 1 (R170). -/
def State.hasAnswered (t : State) (code : Word) (base : Nat) (result data : Word) : Prop :=
  ∃ args, t.mailbox.command = some ⟨code, base, args, .respond 0, result, [data]⟩

/-- The run of a command: it is carried out over the state that it was posted in. -/
theorem State.command_runs {s : State} {base : Nat} (hbase : s.setup.settings.bases.mailbox = base)
    (hlive : s.isHeld = false) (hq : s.path.partQueue = []) (hwf : Memory.wf s.mem = true)
    (hsram : base + 31 < Config.flashBase) (hfree : s.mailbox.command = none) {i : Instr} {code : Word}
    (hcode : code ≠ 0#16) {arguments : List Word} (hargs : arguments.length ≤ 5)
    (hexec : exec i s = .next (s.mailboxCommand code arguments)) {p : State → Prop}
    (hp : ∀ m path words queue,
      (∀ i (h : i < arguments.length),
        wordAt words i = arguments[i] ∧ readWord m (base + 2 * (1 + i)) = arguments[i]) →
      path.tallies = s.path.tallies → p (s.carried m path ⟨code, base, words, .clearSlot, 0#16, []⟩ queue)) :
    ∃ t, exec i s = .next t ∧ sameOutside s.mem t.mem base 12 ∧ readWord t.mem base = 0#16 ∧ p t := by
  obtain ⟨m, path, words, queue, hsame, hclear, hwords, htallies, hrun⟩ :=
    State.mailboxCommand_run hbase hlive hq hwf hsram hfree hcode hargs
  have hmem : (s.carried m path ⟨code, base, words, .clearSlot, 0#16, []⟩ queue).mem = m :=
    ((s.atStep4 m path _).carryOut_frame _).2.1
  refine ⟨s.carried m path ⟨code, base, words, .clearSlot, 0#16, []⟩ queue,
    hexec.trans (congrArg Host.Outcome.next hrun), ?_, ?_, hp m path words queue hwords htallies⟩
  · rw [hmem]
    exact hsame
  · rw [hmem]
    exact hclear

theorem State.carried_of_eq {s u : State} {m : Memory} {path : PathState} {c : Command} (queue : List Requester)
    (h : (s.atStep4 m path c).carryOut c = u) :
    s.carried m path c queue = { u with path := { u.path with partQueue := queue, partOwed := false } } := by
  subst h
  rfl

theorem State.mayReload_iff (s : State) : s.mayReload = true ↔ s.line.phase = .idle ∧ s.hook.phase = .cleared ∧
    s.coin.escrow = [] ∧ s.coin.gate = none ∧ s.coin.banked = 0 := by
  simp [State.mayReload, and_assoc]

theorem ReportPhase.takesReportNow_iff (p : ReportPhase) :
    p.takesReportNow = true ↔ p = .idle ∨ p = .retryWait ∨ p = .held := by
  simp [ReportPhase.takesReportNow, or_assoc]

/-- A run that REPORT_NOW begins (R127). -/
theorem State.reportNow_effect (s : State) :
    s.reportNow.report = { s.report with
        phase := .waitLine, attempts := 0, runTime := some s.now, retryTimer := none, holdTimer := none
        statusMark := if s.alarms.queue = [] then true else s.report.statusMark } ∧
      (s.line.phase ≠ .idle → s.reportNow.line = { s.line with reportRequest := some s.now }) := by
  let u := if s.alarms.queue = [] then s.updReport fun r => { r with statusMark := true } else s
  have hu : u = { s with report := { s.report with
      statusMark := if s.alarms.queue = [] then true else s.report.statusMark } } := by
    by_cases h : s.alarms.queue = []
    · simp only [u, if_pos h]
      rfl
    · simp only [u, if_neg h]
  have hrun : s.reportNow = u.beginRun := rfl
  rw [hrun, hu]
  refine ⟨?_, fun hbusy => ?_⟩
  · simp only [State.beginRun, State.placeReport_frame]
    rfl
  · rw [State.beginRun, State.placeReport_of_busy (by exact hbusy)]
    rfl

section Commands

variable (s : State) (m : Memory) (path : PathState) (queue : List Requester) (base : Nat) (words : List Word)

/-- SET_MASK (R172). -/
theorem State.carried_setMask :
    let t := s.carried m path ⟨1#16, base, words, .clearSlot, 0#16, []⟩ queue
    t.hasAnswered 1#16 base 1#16 s.status.mask ∧
      t.status = ⟨s.status.flags &&& ~~~ EventFlag.mailboxDone.only, wordAt words 0⟩ ∧ t.coin = s.coin ∧
      t.line = s.line ∧ t.number = s.number ∧ t.mem = m :=
  ⟨⟨words, rfl⟩, rfl, rfl, rfl, rfl, rfl⟩

/-- SET_CLOCK (R68, R172). -/
theorem State.carried_setClock (date weekday hour minute second : Word)
    (hwords : wordAt words 0 = date ∧ wordAt words 1 = weekday ∧ wordAt words 2 = hour ∧ wordAt words 3 = minute ∧
      wordAt words 4 = second) :
    let t := s.carried m path ⟨2#16, base, words, .clearSlot, 0#16, []⟩ queue
    (clockInRange date weekday hour minute second = true →
      t.hasAnswered 2#16 base 1#16 0#16 ∧ t.clock = clockSet s.now date weekday hour minute second) ∧
    (clockInRange date weekday hour minute second = false → t.hasAnswered 2#16 base 4#16 0#16 ∧ t.clock = s.clock) ∧
    t.status = ⟨s.status.flags &&& ~~~ EventFlag.mailboxDone.only, s.status.mask⟩ ∧ t.coin = s.coin ∧
      t.line = s.line := by
  intro t
  let v := s.atStep4 m path ⟨2#16, base, words, .clearSlot, 0#16, []⟩
  obtain ⟨h0, h1, h2, h3, h4⟩ := hwords
  have hcarry : v.carryOut ⟨2#16, base, words, .clearSlot, 0#16, []⟩ =
      v.commandSetClock date weekday hour minute second := by
    rw [← h0, ← h1, ← h2, ← h3, ← h4]
    rfl
  have ht := State.carried_of_eq queue hcarry
  by_cases hgood : clockInRange date weekday hour minute second = true
  · rw [State.commandSetClock, if_pos hgood] at ht
    rw [show t = _ from ht]
    refine ⟨fun _ => ⟨⟨words, rfl⟩, rfl⟩, fun hbad => ?_, rfl, rfl, rfl⟩
    exact absurd (hgood.symm.trans hbad) (by decide)
  · rw [State.commandSetClock, if_neg hgood] at ht
    rw [show t = _ from ht]
    exact ⟨fun h => absurd h hgood, fun _ => ⟨⟨words, rfl⟩, rfl⟩, rfl, rfl, rfl⟩

/-- END_CALL (R173). -/
theorem State.carried_endCall :
    let t := s.carried m path ⟨3#16, base, words, .clearSlot, 0#16, []⟩ queue
    (s.line.owner = some .customer → s.line.phase ≠ .idle → t.hasAnswered 3#16 base 1#16 0#16 ∧
      t.line.phase = .guarded ∧ t.line.owner = none ∧ t.number.phase = .empty ∧
      t.line.guardTimer = (if s.line.phase = .guarded then s.line.guardTimer else some (s.now + 800)) ∧
      t.rating.context = none ∧ t.records = (s.offerRecord (s.customerRecord .hostEnd)).records ∧
      t.cash.openCall = none ∧ EventFlag.call.isIn t.status.flags = true ∧ t.coin = s.coin) ∧
    (s.line.owner ≠ some .customer → t.hasAnswered 3#16 base 3#16 0#16 ∧ t.line = s.line ∧ t.number = s.number ∧
      t.coin = s.coin ∧ t.status = ⟨s.status.flags &&& ~~~ EventFlag.mailboxDone.only, s.status.mask⟩) := by
  intro t
  let v := s.atStep4 m path ⟨3#16, base, words, .clearSlot, 0#16, []⟩
  refine ⟨fun howner hidle => ?_, fun howner => ?_⟩
  · have hcarry : v.carryOut ⟨3#16, base, words, .clearSlot, 0#16, []⟩ =
        (v.endCall .hostEnd).answerCommand resultOk 0#16 := by
      have howns : v.customerOwns = true := by simp [State.customerOwns, v, State.atStep4, howner]
      have hcommand : v.carryOut ⟨3#16, base, words, .clearSlot, 0#16, []⟩ = v.commandEndCall := rfl
      rw [hcommand, State.commandEndCall, if_pos howns]
    have ht := State.carried_of_eq queue hcarry
    have hrecords : (v.endCall .hostEnd).records = (s.offerRecord (s.customerRecord .hostEnd)).records :=
      (v.endCall_effect .hostEnd).2.2.1.trans (State.offerRecord_records_congr (s := v) (t := s) _ rfl)
    have hguardTimer : (v.endCall .hostEnd).line.guardTimer =
        if s.line.phase = .guarded then s.line.guardTimer else some (s.now + 800) := by
      obtain ⟨-, -, -, -, -, -, lkept, lguard⟩ := State.endCall_line_fields (s := v) hidle .hostEnd
      by_cases hguard : s.line.phase = .guarded
      · rw [if_pos hguard]
        exact lkept hguard
      · rw [if_neg hguard]
        exact (lguard hguard).1
    obtain ⟨lphase, lowner, -⟩ := State.endCall_line_fields (s := v) hidle .hostEnd
    obtain ⟨nphase, -, -, ncontext⟩ := v.endCall_number (cause := .hostEnd) (by decide)
    obtain ⟨hopen, -, -, hflag⟩ := v.endCall_effect .hostEnd
    have hcoin : (v.endCall .hostEnd).coin = s.coin := by simp [v, State.atStep4]
    have hmailbox : (v.endCall .hostEnd).mailbox.command =
        some ⟨3#16, base, words, .clearSlot, 0#16, []⟩ := by simp [v, State.atStep4]
    generalize v.endCall .hostEnd = u at ht hrecords hguardTimer lphase lowner nphase ncontext hopen hflag hcoin hmailbox
    rw [show t = _ from ht]
    exact ⟨⟨words, State.answerCommand_command hmailbox _ _⟩, lphase, lowner, nphase, hguardTimer, ncontext,
      hrecords, hopen, hflag, hcoin⟩
  · have hcarry : v.carryOut ⟨3#16, base, words, .clearSlot, 0#16, []⟩ = v.answerCommand resultRefused 0#16 :=
      if_neg (by simpa [State.customerOwns, v, State.atStep4] using howner)
    rw [show t = _ from State.carried_of_eq queue hcarry]
    exact ⟨⟨words, rfl⟩, rfl, rfl, rfl, rfl⟩

/-- REPORT_NOW (R127, R174). -/
theorem State.carried_reportNow :
    let t := s.carried m path ⟨4#16, base, words, .clearSlot, 0#16, []⟩ queue
    (s.report.phase = .idle ∨ s.report.phase = .retryWait ∨ s.report.phase = .held →
      t.hasAnswered 4#16 base 1#16 (BitVec.ofNat 16 s.alarms.queue.length) ∧ t.report.phase = .waitLine ∧
      t.report.attempts = 0 ∧ t.report.runTime = some s.now ∧ t.report.retryTimer = none ∧
      t.report.holdTimer = none ∧ (s.alarms.queue = [] → t.report.statusMark = true) ∧
      (s.line.phase ≠ .idle → t.line = { s.line with reportRequest := some s.now })) ∧
    (s.report.phase ≠ .idle → s.report.phase ≠ .retryWait → s.report.phase ≠ .held →
      t.hasAnswered 4#16 base 2#16 (BitVec.ofNat 16 s.alarms.queue.length) ∧ t.report = s.report ∧
      t.line = s.line) ∧ t.alarms = s.alarms ∧ t.coin = s.coin := by
  intro t
  let v := s.atStep4 m path ⟨4#16, base, words, .clearSlot, 0#16, []⟩
  let kinds := wordOf s.alarms.queue.length
  have hcarry : v.carryOut ⟨4#16, base, words, .clearSlot, 0#16, []⟩ =
      if s.report.phase.takesReportNow then v.reportNow.answerCommand resultOk kinds
      else v.answerCommand resultBusy kinds := rfl
  by_cases htakes : s.report.phase.takesReportNow = true
  · rw [if_pos htakes] at hcarry
    obtain ⟨hreport, hline⟩ := v.reportNow_effect
    rw [show t = _ from State.carried_of_eq queue hcarry]
    refine ⟨fun _ => ⟨⟨words, ?_⟩, ?_, ?_, ?_, ?_, ?_, fun hempty => ?_, hline⟩, fun h1 h2 h3 => ?_, ?_, ?_⟩
    · refine State.answerCommand_command (s := v.reportNow) (c := ⟨4#16, base, words, .clearSlot, 0#16, []⟩) ?_ _ _
      simp [v, State.atStep4]
    · exact (congrArg ReportState.phase hreport :)
    · exact (congrArg ReportState.attempts hreport :)
    · exact (congrArg ReportState.runTime hreport :)
    · exact (congrArg ReportState.retryTimer hreport :)
    · exact (congrArg ReportState.holdTimer hreport :)
    · exact (congrArg ReportState.statusMark hreport :).trans (if_pos hempty)
    · rcases (s.report.phase.takesReportNow_iff).1 htakes with h | h | h
      · exact absurd h h1
      · exact absurd h h2
      · exact absurd h h3
    · simp [v, State.atStep4]
    · simp [v, State.atStep4]
  · rw [if_neg htakes] at hcarry
    rw [show t = _ from State.carried_of_eq queue hcarry]
    exact ⟨fun h => absurd ((s.report.phase.takesReportNow_iff).2 h) htakes, fun _ _ _ => ⟨⟨words, rfl⟩, rfl, rfl⟩, rfl, rfl⟩

/-- CLEAR_ALARM (R119, R175). -/
theorem State.carried_clearAlarm (w : Word) (hw : wordAt words 0 = w) :
    let t := s.carried m path ⟨5#16, base, words, .clearSlot, 0#16, []⟩ queue
    (w = 0#16 → t.hasAnswered 5#16 base 1#16 (BitVec.ofNat 16 (AlarmKind.all.filter fun k =>
        (s.alarms.get k).phase == .reported || (s.alarms.get k).phase == .noted).length) ∧
      t.alarms = s.alarms.clearAll) ∧
    (∀ k : AlarmKind, w.toNat = k.code →
      ((s.alarms.get k).phase = .reported ∨ (s.alarms.get k).phase = .noted →
        t.hasAnswered 5#16 base 1#16 1#16 ∧ t.alarms = s.alarms.put k ⟨.quiet, 0, 0, none, none⟩ ∧
        EventFlag.alarm.isIn t.status.flags = true) ∧
      ((s.alarms.get k).phase = .quiet → t.hasAnswered 5#16 base 1#16 0#16 ∧ t.alarms = s.alarms) ∧
      ((s.alarms.get k).phase = .raised ∨ (s.alarms.get k).phase = .reporting →
        t.hasAnswered 5#16 base 3#16 0#16 ∧ t.alarms = s.alarms)) ∧
    (12 < w.toNat → t.hasAnswered 5#16 base 4#16 0#16 ∧ t.alarms = s.alarms) ∧
    t.coin = s.coin ∧ t.line = s.line := by
  intro t
  let v := s.atStep4 m path ⟨5#16, base, words, .clearSlot, 0#16, []⟩
  have hcarry : v.carryOut ⟨5#16, base, words, .clearSlot, 0#16, []⟩ = v.commandClearAlarm w := by
    rw [← hw]
    rfl
  have ht := State.carried_of_eq queue hcarry
  have hnonzero (h : 0 < w.toNat) : w ≠ 0#16 := fun h0 => by simp [h0] at h
  have hanswer {u : State} (hu : u.mailbox = v.mailbox) (result data : Word) (q : PathState) :
      State.hasAnswered { u.answerCommand result data with path := q } 5#16 base result data :=
    ⟨words, State.answerCommand_command (s := u) (c := ⟨5#16, base, words, .clearSlot, 0#16, []⟩)
      (congrArg MailboxState.command hu) result data⟩
  refine ⟨fun h0 => ?_, fun k hk => ?_, fun hlarge => ?_, ?_, ?_⟩
  · have hclear : v.commandClearAlarm w = v.clearAlarms.answerCommand resultOk (wordOf s.alarms.clearableCount) :=
      if_pos h0
    rw [hclear] at ht
    rw [show t = _ from ht]
    refine ⟨?_, v.clearAlarms_alarms⟩
    have hcount : s.alarms.clearableCount = (AlarmKind.all.filter fun k =>
        (s.alarms.get k).phase == .reported || (s.alarms.get k).phase == .noted).length :=
      List.countP_eq_length_filter
    rw [← hcount]
    exact hanswer (by simp) _ _ _
  · have hkind : v.commandClearAlarm w = v.clearKind k := by
      rw [State.commandClearAlarm, if_neg (hnonzero (hk ▸ k.code_pos)), hk, AlarmKind.ofCode_code]
    rw [hkind] at ht
    rw [show t = _ from ht]
    refine ⟨fun hphase => ?_, fun hphase => ?_, fun hphase => ?_⟩
    · have hstep : v.clearKind k =
          (((v.updAlarms fun a => a.clear k).raise .alarm).cashChanged).answerCommand resultOk 1#16 :=
        if_pos (by rcases hphase with h | h <;> simp [AlarmPhase.clearable, v, State.atStep4, h])
      rw [hstep]
      refine ⟨hanswer (by simp) _ _ _, ?_, ?_⟩
      · exact (by simp : _ = v.alarms.clear k).trans (AlarmState.clear_of_clearable hphase)
      · simp [State.raise_self]
    · have hstep : v.clearKind k = v.answerCommand resultOk 0#16 :=
        (if_neg (by simp [AlarmPhase.clearable, v, State.atStep4, hphase])).trans (if_pos hphase)
      rw [hstep]
      exact ⟨hanswer rfl _ _ _, rfl⟩
    · have hstep : v.clearKind k = v.answerCommand resultRefused 0#16 := by
        refine (if_neg ?_).trans (if_neg ?_)
        · rcases hphase with h | h <;> simp [AlarmPhase.clearable, v, State.atStep4, h]
        · rcases hphase with h | h <;> simp [v, State.atStep4, h]
      rw [hstep]
      exact ⟨hanswer rfl _ _ _, rfl⟩
  · have hbad : v.commandClearAlarm w = v.answerCommand resultBadArgument 0#16 := by
      rw [State.commandClearAlarm, if_neg (hnonzero (by omega)), AlarmKind.ofCode_of_large hlarge]
    rw [hbad] at ht
    rw [show t = _ from ht]
    exact ⟨hanswer rfl _ _ _, rfl⟩
  · rw [show t = _ from ht]
    simp [v, State.atStep4]
  · rw [show t = _ from ht]
    simp [v, State.atStep4]

/-- RELOAD_SETUP (R176). -/
theorem State.carried_reloadSetup :
    let t := s.carried m path ⟨6#16, base, words, .clearSlot, 0#16, []⟩ queue
    (s.mayReload = true → t.setup = { s.setup with load := some ⟨.reload, []⟩ } ∧
      ∃ args, t.mailbox.command = some ⟨6#16, base, args, .waitReload, 0#16, []⟩) ∧
    (s.mayReload = false → t.hasAnswered 6#16 base 2#16 0#16 ∧ t.setup = s.setup) := by
  intro t
  let v := s.atStep4 m path ⟨6#16, base, words, .clearSlot, 0#16, []⟩
  refine ⟨fun hmay => ?_, fun hmay => ?_⟩
  · have hcarry : v.carryOut ⟨6#16, base, words, .clearSlot, 0#16, []⟩ =
        ((v.updCommand fun c => { c with step := .waitReload }).updSetup fun u =>
          { u with load := some ⟨.reload, []⟩ }).join .setupLoader := if_pos hmay
    rw [show t = _ from State.carried_of_eq queue hcarry]
    exact ⟨rfl, words, rfl⟩
  · have hcarry : v.carryOut ⟨6#16, base, words, .clearSlot, 0#16, []⟩ = v.answerCommand resultBusy 0#16 :=
      if_neg (by rw [show v.mayReload = s.mayReload from rfl, hmay]; decide)
    rw [show t = _ from State.carried_of_eq queue hcarry]
    exact ⟨⟨words, rfl⟩, rfl⟩

/-- RESTART_SERVICE (R177, R187). -/
theorem State.carried_restartService :
    let t := s.carried m path ⟨7#16, base, words, .clearSlot, 0#16, []⟩ queue
    t.hasAnswered 7#16 base 1#16 0#16 ∧ t.power = { s.power with cause := .restart } ∧ t.coin.banked = 0 ∧
      t.number.phase = .empty ∧ t.emitter = ⟨none, none, 0, none⟩ ∧ t.coin.escrow = s.coin.escrow ∧
      t.setup = s.setup ∧ t.clock = s.clock := by
  intro t
  let v := s.atStep4 m path ⟨7#16, base, words, .clearSlot, 0#16, []⟩
  have hcarry : v.carryOut ⟨7#16, base, words, .clearSlot, 0#16, []⟩ =
      v.serviceRestart.answerCommand resultOk 0#16 := rfl
  obtain ⟨hpower, hbanked, hescrow, hphase, hemitter⟩ := v.serviceRestart_effect
  rw [show t = _ from State.carried_of_eq queue hcarry]
  refine ⟨⟨words, ?_⟩, hpower, hbanked, hphase, hemitter, hescrow, ?_, ?_⟩
  · refine State.answerCommand_command (s := v.serviceRestart) (c := ⟨7#16, base, words, .clearSlot, 0#16, []⟩) ?_ _ _
    simp [v, State.atStep4]
  · simp [v, State.atStep4]
  · simp [v, State.atStep4]

/-- A code from 8 upward (chapter 10.5). -/
theorem State.carried_unknown {code : Word} (hcode : 8 ≤ code.toNat) :
    let t := s.carried m path ⟨code, base, words, .clearSlot, 0#16, []⟩ queue
    t.hasAnswered code base 5#16 0#16 ∧
      t.status = ⟨s.status.flags &&& ~~~ EventFlag.mailboxDone.only, s.status.mask⟩ ∧ t.coin = s.coin ∧
      t.line = s.line ∧ t.alarms = s.alarms := by
  intro t
  let v := s.atStep4 m path ⟨code, base, words, .clearSlot, 0#16, []⟩
  have hcarry : v.carryOut ⟨code, base, words, .clearSlot, 0#16, []⟩ = v.answerCommand resultUnknown 0#16 := by
    obtain ⟨n, hn⟩ : ∃ n, code.toNat = n + 8 := ⟨code.toNat - 8, by omega⟩
    simp only [State.carryOut, hn]
    rfl
  rw [show t = _ from State.carried_of_eq queue hcarry]
  exact ⟨⟨words, rfl⟩, rfl, rfl, rfl, rfl⟩

end Commands

end Sys2Proof.Machine
end

section
/-! The mailbox commands of the host (O58). -/

namespace Sys2Proof.Machine

/-- A code posted while a command is in hand is refused, and its arguments alone have passed (R171). -/
theorem State.mailboxCommand_refused {s : State} {code : Word} {arguments : List Word} (hcode : code ≠ 0#16)
    (h : (s.writeArguments 1 arguments).mailbox.command ≠ none) :
    s.mailboxCommand code arguments = (s.writeArguments 1 arguments).raise .mailboxRefused := by
  have hsome : (s.writeArguments 1 arguments).mailbox.command.isSome = true := Option.isSome_iff_ne_none.2 h
  have hdropped : (s.writeArguments 1 arguments).specialPasses .commandPost code = false := by
    simpa [State.specialPasses, State.postPasses, hcode] using hsome
  simp only [State.mailboxCommand]
  rw [if_pos hsome, State.takeSpecial_of_dropped hdropped, State.specialAction, State.postCommand, if_neg hcode,
    if_pos hsome]

theorem State.hostAccess_posts {s : State} (h : s.holdsHost = false) (i : Instr) (code : Word) (arguments : List Word) :
    (Host.Outcome.next (s.hostAccess i fun s => s.mailboxCommand code arguments) : Result) =
      .next (s.mailboxCommand code arguments) :=
  congrArg Host.Outcome.next (State.hostAccess_of_free h i _)

/-- The clock that a good SET_CLOCK sets (R68). -/
theorem clockSet_eq (now : Nat) (date weekday hour minute second : Word) :
    clockSet now date weekday hour minute second =
      ⟨date.toNat / 256, date.toNat % 256, weekday.toNat, hour.toNat, minute.toNat, second.toNat, true, now + 1000⟩ := by
  simp only [clockSet, highByte_toNat, lowByte_toNat, Config.secondMs]

theorem clockInRange_iff (date weekday hour minute second : Word) :
    clockInRange date weekday hour minute second = true ↔
      1 ≤ date.toNat / 256 ∧ date.toNat / 256 ≤ 12 ∧ 1 ≤ date.toNat % 256 ∧
        date.toNat % 256 ≤ (if date.toNat / 256 = 2 then 29 else monthLength (date.toNat / 256)) ∧
        1 ≤ weekday.toNat ∧ weekday.toNat ≤ 7 ∧ hour.toNat ≤ 23 ∧ minute.toNat ≤ 59 ∧ second.toNat ≤ 59 := by
  simp [clockInRange, settableLength, highByte_toNat, lowByte_toNat, and_assoc]

end Sys2Proof.Machine

open Sys2Proof Sys2Proof.Machine

/-- Settles O58, the commands by their codes over the state that step 4 of R170 reaches; a post while another command
is in hand stops at its arguments. -/
theorem mailboxCommandsAct : Obligations.MailboxCommandsAct := by
  refine ⟨fun s hfree hq hwf hsram => ?_, fun s c arguments hfree hform => ?_⟩
  · intro base cleared answered runs hcommand
    have hlive : s.isHeld = false := by
      simp only [State.holdsHost, Bool.or_eq_false_iff] at hfree
      exact hfree.1
    refine ⟨fun m => ?_, fun date weekday hour minute second => ?_, ?_, ?_, fun w => ?_, ?_, ?_, fun code hcode => ?_⟩
    · refine State.command_runs rfl hlive hq hwf hsram hcommand (i := .setMask m) (code := 1#16) (by decide) (arguments := [m])
        (by simp) (State.hostAccess_posts hfree (.setMask m) 1#16 [m]) fun memory path words queue hwords _ => ?_
      obtain ⟨hword, hread⟩ := hwords 0 (by simp)
      obtain ⟨hanswer, hstatus, hcoin, hline, hnumber, hmem⟩ :=
        s.carried_setMask memory path queue base words
      refine ⟨hanswer, hstatus.trans (by rw [hword]; rfl), hcoin, hline, hnumber, ?_⟩
      rw [hmem]
      exact hread
    · refine State.command_runs rfl hlive hq hwf hsram hcommand (i := .setClock date weekday hour minute second) (code := 2#16) (by decide)
        (arguments := [date, weekday, hour, minute, second]) (by simp)
        (State.hostAccess_posts hfree (.setClock date weekday hour minute second) 2#16 [date, weekday, hour, minute, second]) fun memory path words queue hwords _ => ?_
      obtain ⟨hgood, hbad, hrest⟩ := s.carried_setClock memory path queue base words date weekday hour minute second
        ⟨(hwords 0 (by simp)).1, (hwords 1 (by simp)).1, (hwords 2 (by simp)).1, (hwords 3 (by simp)).1,
          (hwords 4 (by simp)).1⟩
      refine ⟨fun h => ?_, fun h => ?_, hrest⟩
      · rw [← clockSet_eq]
        exact hgood ((clockInRange_iff date weekday hour minute second).2 h)
      · exact hbad (Bool.eq_false_iff.2 fun hin => h ((clockInRange_iff date weekday hour minute second).1 hin))
    · exact State.command_runs rfl hlive hq hwf hsram hcommand (i := .endCall) (code := 3#16) (by decide) (arguments := []) (by simp)
        (State.hostAccess_posts hfree .endCall 3#16 []) fun memory path words queue _ _ =>
          s.carried_endCall memory path queue base words
    · exact State.command_runs rfl hlive hq hwf hsram hcommand (i := .reportNow) (code := 4#16) (by decide) (arguments := []) (by simp)
        (State.hostAccess_posts hfree .reportNow 4#16 []) fun memory path words queue _ _ =>
          s.carried_reportNow memory path queue base words
    · exact State.command_runs rfl hlive hq hwf hsram hcommand (i := .clearAlarm w) (code := 5#16) (by decide) (arguments := [w]) (by simp)
        (State.hostAccess_posts hfree (.clearAlarm w) 5#16 [w]) fun memory path words queue hwords _ =>
          s.carried_clearAlarm memory path queue base words w (hwords 0 (by simp)).1
    · refine State.command_runs rfl hlive hq hwf hsram hcommand (i := .reloadSetup) (code := 6#16) (by decide) (arguments := []) (by simp)
        (State.hostAccess_posts hfree .reloadSetup 6#16 []) fun memory path words queue _ _ => ?_
      obtain ⟨hmay, hnot⟩ := s.carried_reloadSetup memory path queue base words
      exact ⟨fun h => hmay (s.mayReload_iff.2 h), fun h => hnot (Bool.eq_false_iff.2 fun hin => h (s.mayReload_iff.1 hin))⟩
    · exact State.command_runs rfl hlive hq hwf hsram hcommand (i := .restartService) (code := 7#16) (by decide) (arguments := []) (by simp)
        (State.hostAccess_posts hfree .restartService 7#16 []) fun memory path words queue _ _ =>
          s.carried_restartService memory path queue base words
    · exact State.command_runs rfl hlive hq hwf hsram hcommand (i := .unknownCommand code) (code := code)
        (fun h => by rw [h] at hcode; exact absurd hcode (by decide)) (arguments := []) (by simp)
        (State.hostAccess_posts hfree (.unknownCommand code) code []) fun memory path words queue _ _ =>
          s.carried_unknown memory path queue base words hcode
  · refine ⟨fun h => ?_, fun a h => ?_, fun hcommand => ?_⟩
    · rw [h]
      rfl
    · rw [h]
      exact ⟨State.storeWord_written _ _ _, State.storeWord_sameOutside _ _ _⟩
    · have hrefused {code : Word} (hcode : code ≠ 0#16) :
          (Host.Outcome.next (s.hostAccess c fun s => s.mailboxCommand code arguments) : Result) =
            .next ((s.writeArguments 1 arguments).raise .mailboxRefused) := by
        rw [State.hostAccess_posts hfree, State.mailboxCommand_refused hcode hcommand]
      rcases hform with ⟨m, rfl, rfl⟩ | ⟨date, weekday, hour, minute, second, rfl, rfl⟩ | ⟨k, rfl, rfl⟩ |
        ⟨rfl, rfl | rfl | rfl | rfl | ⟨code, rfl, hcode⟩⟩
      · exact hrefused (code := 1#16) (by decide)
      · exact hrefused (code := 2#16) (by decide)
      · exact hrefused (code := 5#16) (by decide)
      · exact hrefused (code := 3#16) (by decide)
      · exact hrefused (code := 4#16) (by decide)
      · exact hrefused (code := 6#16) (by decide)
      · exact hrefused (code := 7#16) (by decide)
      · exact hrefused hcode
end

section
/-! SUPPORT. The requester whose turn is next stays at the oldest end of the part queue while the operations of its
word ready others: they join at the newest end (R161). -/

namespace Sys2Proof.Machine

@[simp] theorem State.join_next (s : State) (r : Requester) {r' : Requester}
    (hnext : s.path.partQueue.head? = some r') : (s.join r).path.partQueue.head? = some r' := by
  simp only [State.join, State.updPath_path]
  split <;> simp [hnext]

@[simp] theorem State.tally_next (s : State) (t : TallyName) {r' : Requester}
    (hnext : s.path.partQueue.head? = some r') : (s.tally t).path.partQueue.head? = some r' := by
  simp [State.tally, hnext]

@[simp] theorem State.cashChanged_next (s : State) {r' : Requester}
    (hnext : s.path.partQueue.head? = some r') : s.cashChanged.path.partQueue.head? = some r' := by
  simp only [State.cashChanged]
  (repeat' split) <;> simp [hnext]

@[simp] theorem State.offerRecord_next (s : State) (rec : CallRecord) {r' : Requester}
    (hnext : s.path.partQueue.head? = some r') : (s.offerRecord rec).path.partQueue.head? = some r' := by
  simp only [State.offerRecord]
  (repeat' split) <;> simp [hnext]

@[simp] theorem State.moveRecords_next (s : State) (base : Nat) {r' : Requester}
    (hnext : s.path.partQueue.head? = some r') : (s.moveRecords base).path.partQueue.head? = some r' := by
  simp only [State.moveRecords]
  (repeat' split) <;> simp [hnext]

@[simp] theorem State.openMirror_next (s : State) (k : ZoneKind) {r' : Requester}
    (hnext : s.path.partQueue.head? = some r') : (s.openMirror k).path.partQueue.head? = some r' := by
  simp [State.openMirror, hnext]

@[simp] theorem State.tallyGrant_next (s : State) (x0 : ZoneKind) {r' : Requester}
    (hnext : s.path.partQueue.head? = some r') : (s.tallyGrant x0).path.partQueue.head? = some r' := by
  cases x0 <;> simp [State.tallyGrant, hnext]

@[simp] theorem State.grantCustomer_next (s : State) {r' : Requester}
    (hnext : s.path.partQueue.head? = some r') : s.grantCustomer.path.partQueue.head? = some r' := by
  simp only [State.grantCustomer]
  (repeat' split) <;> simp [hnext]

@[simp] theorem State.grantWaiting_next (s : State) {r' : Requester}
    (hnext : s.path.partQueue.head? = some r') : s.grantWaiting.path.partQueue.head? = some r' := by
  simp only [State.grantWaiting]
  (repeat' split) <;> simp [hnext]

@[simp] theorem State.placeReport_next (s : State) (runTime : Nat) {r' : Requester}
    (hnext : s.path.partQueue.head? = some r') : (s.placeReport runTime).path.partQueue.head? = some r' := by
  simp [State.placeReport, hnext]

@[simp] theorem State.beginRun_next (s : State) {r' : Requester}
    (hnext : s.path.partQueue.head? = some r') : s.beginRun.path.partQueue.head? = some r' := by
  simp [State.beginRun, hnext]

@[simp] theorem State.checkQueue_next (s : State) {r' : Requester}
    (hnext : s.path.partQueue.head? = some r') : s.checkQueue.path.partQueue.head? = some r' := by
  simp only [State.checkQueue]
  (repeat' split) <;> simp [hnext]

@[simp] theorem State.noticeNewKind_next (s : State) {r' : Requester}
    (hnext : s.path.partQueue.head? = some r') : s.noticeNewKind.path.partQueue.head? = some r' := by
  simp only [State.noticeNewKind]
  (repeat' split) <;> simp [hnext]

@[simp] theorem State.occurrence_next (s : State) (k : AlarmKind) {r' : Requester}
    (hnext : s.path.partQueue.head? = some r') : (s.occurrence k).path.partQueue.head? = some r' := by
  simp only [State.occurrence]
  (repeat' split) <;> simp [hnext]

@[simp] theorem State.resumeRun_next (s : State) {r' : Requester}
    (hnext : s.path.partQueue.head? = some r') : s.resumeRun.path.partQueue.head? = some r' := by
  simp [State.resumeRun, hnext]

@[simp] theorem State.failReporting_next (s : State) {r' : Requester}
    (hnext : s.path.partQueue.head? = some r') : s.failReporting.path.partQueue.head? = some r' := by
  simp only [State.failReporting]
  (repeat' split) <;> simp [hnext]

@[simp] theorem State.failedAttempt_next (s : State) {r' : Requester}
    (hnext : s.path.partQueue.head? = some r') : s.failedAttempt.path.partQueue.head? = some r' := by
  simp [State.failedAttempt, hnext]

@[simp] theorem State.acknowledgedAttempt_next (s : State) {r' : Requester}
    (hnext : s.path.partQueue.head? = some r') : s.acknowledgedAttempt.path.partQueue.head? = some r' := by
  simp [State.acknowledgedAttempt, hnext]

@[simp] theorem State.attemptOutcome_next (s : State) (x0 : EndCause) {r' : Requester}
    (hnext : s.path.partQueue.head? = some r') : (s.attemptOutcome x0).path.partQueue.head? = some r' := by
  cases x0 <;> simp [State.attemptOutcome, hnext]

@[simp] theorem State.closeAttempt_next (s : State) (outcome : EndCause) (seize : CalTime) {r' : Requester}
    (hnext : s.path.partQueue.head? = some r') : (s.closeAttempt outcome seize).path.partQueue.head? = some r' := by
  have hclosed {u : State} (h : u.path.partQueue.head? = some r') :
      (((u.offerRecord (u.reportRecord outcome seize)).clearAttempt).attemptOutcome outcome).path.partQueue.head? =
        some r' := by
    have hoffer := State.offerRecord_next u (u.reportRecord outcome seize) h
    exact State.attemptOutcome_next _ outcome (by simp [hoffer])
  simp only [State.closeAttempt]
  split
  · exact hclosed hnext
  · exact hclosed (State.failReporting_next s hnext)

@[simp] theorem State.endReport_next (s : State) (outcome : EndCause) {r' : Requester}
    (hnext : s.path.partQueue.head? = some r') : (s.endReport outcome).path.partQueue.head? = some r' := by
  simp [State.endReport, hnext]

@[simp] theorem State.tallyRefusal_next (s : State) (x0 : RefusalCause) {r' : Requester}
    (hnext : s.path.partQueue.head? = some r') : (s.tallyRefusal x0).path.partQueue.head? = some r' := by
  cases x0 <;> simp [State.tallyRefusal, hnext]

@[simp] theorem State.refuseNumber_next (s : State) (cause : RefusalCause) {r' : Requester}
    (hnext : s.path.partQueue.head? = some r') : (s.refuseNumber cause).path.partQueue.head? = some r' := by
  simp [State.refuseNumber, hnext]

@[simp] theorem State.preemptReport_next (s : State) {r' : Requester}
    (hnext : s.path.partQueue.head? = some r') : s.preemptReport.path.partQueue.head? = some r' := by
  simp only [State.preemptReport]
  (repeat' split) <;> simp [hnext]

@[simp] theorem State.placeCustomer_next (s : State) (cls : RequestClass) {r' : Requester}
    (hnext : s.path.partQueue.head? = some r') : (s.placeCustomer cls).path.partQueue.head? = some r' := by
  simp only [State.placeCustomer]
  (repeat' split) <;> simp [hnext]

@[simp] theorem State.toWaitLine_next (s : State) {r' : Requester}
    (hnext : s.path.partQueue.head? = some r') : s.toWaitLine.path.partQueue.head? = some r' := by
  simp [State.toWaitLine, hnext]

@[simp] theorem State.recheckDeposit_next (s : State) {r' : Requester}
    (hnext : s.path.partQueue.head? = some r') : s.recheckDeposit.path.partQueue.head? = some r' := by
  simp only [State.recheckDeposit]
  (repeat' split) <;> simp [hnext]

@[simp] theorem State.serviceLost_next (s : State) {r' : Requester}
    (hnext : s.path.partQueue.head? = some r') : s.serviceLost.path.partQueue.head? = some r' := by
  simp only [State.serviceLost]
  (repeat' split) <;> simp [hnext]

@[simp] theorem State.creditChanged_next (s : State) {r' : Requester}
    (hnext : s.path.partQueue.head? = some r') : s.creditChanged.path.partQueue.head? = some r' := by
  simp [State.creditChanged, hnext]

@[simp] theorem State.addReason_next (s : State) (r : ServiceReason) {r' : Requester}
    (hnext : s.path.partQueue.head? = some r') : (s.addReason r).path.partQueue.head? = some r' := by
  simp only [State.addReason]
  (repeat' split) <;> simp [hnext]

@[simp] theorem State.trapCheck_next (s : State) (flags : RatingFlags) {r' : Requester}
    (hnext : s.path.partQueue.head? = some r') : (s.trapCheck flags).path.partQueue.head? = some r' := by
  simp only [State.trapCheck]
  (repeat' split) <;> simp [hnext]

@[simp] theorem State.clearMirror_next (s : State) {r' : Requester}
    (hnext : s.path.partQueue.head? = some r') : s.clearMirror.path.partQueue.head? = some r' := by
  simp only [State.clearMirror]
  (repeat' split) <;> simp [hnext]

@[simp] theorem State.numberAfterCall_next (s : State) (x0 : EndCause) {r' : Requester}
    (hnext : s.path.partQueue.head? = some r') : (s.numberAfterCall x0).path.partQueue.head? = some r' := by
  cases x0 <;> simp [State.numberAfterCall, hnext]

@[simp] theorem State.endCall_next (s : State) (cause : EndCause) {r' : Requester}
    (hnext : s.path.partQueue.head? = some r') : (s.endCall cause).path.partQueue.head? = some r' := by
  have hrelease : (s.releaseLine.endPips).path.partQueue.head? = some r' := by simp [hnext]
  have htrap := State.trapCheck_next _ s.callStatus hrelease
  have hoffer := State.offerRecord_next _ (s.customerRecord cause) (State.clearMirror_next _ htrap)
  exact State.numberAfterCall_next _ cause hoffer

@[simp] theorem State.endCustomerCall_next (s : State) (cause : EndCause) {r' : Requester}
    (hnext : s.path.partQueue.head? = some r') : (s.endCustomerCall cause).path.partQueue.head? = some r' := by
  simp only [State.endCustomerCall]
  (repeat' split) <;> simp [hnext]

@[simp] theorem State.forfeit_next (s : State) {r' : Requester}
    (hnext : s.path.partQueue.head? = some r') : s.forfeit.path.partQueue.head? = some r' := by
  simp only [State.forfeit]
  (repeat' split) <;> simp [hnext]

@[simp] theorem State.warnFill_next (s : State) {r' : Requester}
    (hnext : s.path.partQueue.head? = some r') : s.warnFill.path.partQueue.head? = some r' := by
  simp [State.warnFill, hnext]

@[simp] theorem State.collectionClose_next (s : State) {r' : Requester}
    (hnext : s.path.partQueue.head? = some r') : s.collectionClose.path.partQueue.head? = some r' := by
  simp [State.collectionClose, hnext]

@[simp] theorem State.closeTest_next (s : State) {r' : Requester}
    (hnext : s.path.partQueue.head? = some r') : s.closeTest.path.partQueue.head? = some r' := by
  simp only [State.closeTest]
  (repeat' split) <;> simp [hnext]

@[simp] theorem State.thenTest_next (s : State) (event : State → State) {r' : Requester}
    (hnext : (event s).path.partQueue.head? = some r') : (s.thenTest event).path.partQueue.head? = some r' := by
  simp only [State.thenTest]
  split
  · exact hnext
  · exact State.closeTest_next _ hnext

@[simp] theorem State.standingConditions_next (s : State) {r' : Requester}
    (hnext : s.path.partQueue.head? = some r') : s.standingConditions.path.partQueue.head? = some r' := by
  have hoccur {u : State} (h : u.path.partQueue.head? = some r') (b : Prop) [Decidable b] (k : AlarmKind) :
      (if b then u.occurrence k else u).path.partQueue.head? = some r' := by
    split
    · exact State.occurrence_next u k h
    · exact h
  let u := if s.tamper.door.active then s.occurrence .doorForced else s
  let v := if u.tamper.housing.active then u.occurrence .housingOpen else u
  have hv : v.path.partQueue.head? = some r' := hoccur (hoccur hnext _ _) _ _
  have hdef : s.standingConditions = if v.tamper.vault.active then v else v.occurrence .vaultRemoved := rfl
  rw [hdef]
  split
  · exact hv
  · exact State.occurrence_next v .vaultRemoved hv

@[simp] theorem State.openSession_next (s : State) {r' : Requester}
    (hnext : s.path.partQueue.head? = some r') : s.openSession.path.partQueue.head? = some r' := by
  refine State.thenTest_next s _ ?_
  have hended := State.endCustomerCall_next s .session hnext
  have hforfeit := State.forfeit_next ((s.endCustomerCall .session).updTamper fun t => { t with sessionOpen := true })
    (by simpa using hended)
  exact State.addReason_next _ .sessionOpen (by simpa using hforfeit)

@[simp] theorem State.clearSummary_next (s : State) {r' : Requester}
    (hnext : s.path.partQueue.head? = some r') : s.clearSummary.path.partQueue.head? = some r' := by
  simp only [State.clearSummary]
  (repeat' split) <;> simp [hnext]

@[simp] theorem State.clearAlarms_next (s : State) {r' : Requester}
    (hnext : s.path.partQueue.head? = some r') : s.clearAlarms.path.partQueue.head? = some r' := by
  simp only [State.clearAlarms]
  (repeat' split) <;> simp [hnext]

@[simp] theorem State.closeSession_next (s : State) {r' : Requester}
    (hnext : s.path.partQueue.head? = some r') : s.closeSession.path.partQueue.head? = some r' := by
  have hremoved {u : State} (h : u.path.partQueue.head? = some r') (r : ServiceReason) :
      (u.removeReason r).path.partQueue.head? = some r' := by simp [h]
  have hcleared {u : State} (h : u.path.partQueue.head? = some r') :
      ((u.clearSummary.clearAlarms.standingConditions).updTamper
        fun t => { t with vaultOut := false }).path.partQueue.head? = some r' :=
    State.standingConditions_next _ (State.clearAlarms_next _ (State.clearSummary_next _ h))
  simp only [State.closeSession]
  split
  · exact hcleared (hremoved (hremoved (by exact hnext) _) _)
  · exact hcleared (hremoved (by exact hnext) _)

@[simp] theorem State.oweClose_next (s : State) {r' : Requester}
    (hnext : s.path.partQueue.head? = some r') : s.oweClose.path.partQueue.head? = some r' := by
  simp only [State.oweClose]
  (repeat' split) <;> simp [hnext]

@[simp] theorem State.vaultEdge_next (s : State) (active : Bool) {r' : Requester}
    (hnext : s.path.partQueue.head? = some r') : (s.vaultEdge active).path.partQueue.head? = some r' := by
  simp only [State.vaultEdge]
  (repeat' split) <;> simp [hnext]

@[simp] theorem State.shockEdge_next (s : State) {r' : Requester}
    (hnext : s.path.partQueue.head? = some r') : s.shockEdge.path.partQueue.head? = some r' := by
  simp only [State.shockEdge]
  (repeat' split) <;> simp [hnext]

@[simp] theorem State.actOnEdge_next (s : State) (i : TamperInput) (active : Bool) {r' : Requester}
    (hnext : s.path.partQueue.head? = some r') : (s.actOnEdge i active).path.partQueue.head? = some r' := by
  simp only [State.actOnEdge]
  (repeat' split) <;> simp [hnext]

@[simp] theorem State.followLevel_next (s : State) (i : TamperInput) {r' : Requester}
    (hnext : s.path.partQueue.head? = some r') : (s.followLevel i).path.partQueue.head? = some r' := by
  simp only [State.followLevel]
  (repeat' split) <;> simp [hnext]

@[simp] theorem State.reloadFill_next (s : State) {r' : Requester}
    (hnext : s.path.partQueue.head? = some r') : s.reloadFill.path.partQueue.head? = some r' := by
  simp only [State.reloadFill]
  (repeat' split) <;> simp [hnext]

@[simp] theorem State.reloadAlarms_next (s : State) {r' : Requester}
    (hnext : s.path.partQueue.head? = some r') : s.reloadAlarms.path.partQueue.head? = some r' := by
  simp only [State.reloadAlarms]
  (repeat' split) <;> simp [hnext]

@[simp] theorem State.reloadCashBase_next (s : State) (old : Nat) {r' : Requester}
    (hnext : s.path.partQueue.head? = some r') : (s.reloadCashBase old).path.partQueue.head? = some r' := by
  simp only [State.reloadCashBase]
  (repeat' split) <;> simp [hnext]

@[simp] theorem State.reloadRecordsBase_next (s : State) (old : Nat) {r' : Requester}
    (hnext : s.path.partQueue.head? = some r') : (s.reloadRecordsBase old).path.partQueue.head? = some r' := by
  simp only [State.reloadRecordsBase]
  (repeat' split) <;> simp [hnext]

@[simp] theorem State.applySettings_next (s : State) (new : Settings) {r' : Requester}
    (hnext : s.path.partQueue.head? = some r') : (s.applySettings new).path.partQueue.head? = some r' := by
  let t := s.updSetup fun u => { u with settings := new, lastLoad := .file }
  have hfill : ((t.reloadFill).removeReason .setupInvalid).path.partQueue.head? = some r' := by
    simpa using State.reloadFill_next t hnext
  have hbase := State.reloadRecordsBase_next _ s.setup.settings.bases.records hfill
  have hlevels : (tamperInputs.foldl State.followLevel ((t.reloadFill.removeReason .setupInvalid).reloadRecordsBase
      s.setup.settings.bases.records)).path.partQueue.head? = some r' := by
    refine List.foldlRecOn (motive := fun u : State => u.path.partQueue.head? = some r') _ _ hbase ?_
    exact fun u hu i _ => State.followLevel_next u i hu
  have hcash := State.reloadCashBase_next _ s.setup.settings.bases.cash (State.reloadAlarms_next _ hlevels)
  simp only [State.applySettings, State.reloadThreshold]
  split <;> exact hcash

@[simp] theorem State.beginHeaderRead_next (s : State) {r' : Requester}
    (hnext : s.path.partQueue.head? = some r') : s.beginHeaderRead.path.partQueue.head? = some r' := by
  simp [State.beginHeaderRead, hnext]

@[simp] theorem State.setupLoadDone_next (s : State) (ws : List Word) {r' : Requester}
    (hnext : s.path.partQueue.head? = some r') : (s.setupLoadDone ws).path.partQueue.head? = some r' := by
  simp only [State.setupLoadDone]
  (repeat' split) <;> simp [hnext]

@[simp] theorem State.reloadOutcome_next (s : State) (ws : List Word) {r' : Requester}
    (hnext : s.path.partQueue.head? = some r') : (s.reloadOutcome ws).path.partQueue.head? = some r' := by
  simp only [State.reloadOutcome]
  (repeat' split) <;> simp [hnext]

@[simp] theorem State.reloadDone_next (s : State) (ws : List Word) {r' : Requester}
    (hnext : s.path.partQueue.head? = some r') : (s.reloadDone ws).path.partQueue.head? = some r' := by
  simp [State.reloadDone, hnext]

end Sys2Proof.Machine
end

section
/-! The ends of a reload and of a response (O59). -/

namespace Sys2Proof.Machine

/-! ### The queue after a part turn (R161) -/

/-- A run command whose last word is next, with the queue it leaves: those that the word has readied stay in it, and
the requester itself leaves when it has no further word. -/
theorem State.partTurn_queue {s : State} {r : Requester} {rest : List Requester} (hh : s.isHeld = false)
    (hq : s.path.partQueue = r :: rest) : ∃ queue, s.partTurn =
      { s.wordOperation r with path := { (s.wordOperation r).path with partQueue := queue, partOwed := false } } ∧
      (∀ r', r' ≠ r → (s.wordOperation r).path.partQueue.head? = some r →
        r' ∈ (s.wordOperation r).path.partQueue → r' ∈ queue) ∧
      ((s.wordOperation r).hasWord r = false → queue = (s.wordOperation r).path.partQueue.tail) := by
  rw [State.partTurn_of_queue hh hq]
  let u := (s.wordOperation r).updPath fun p => { p with partQueue := p.partQueue.tail }
  have hword : u.hasWord r = (s.wordOperation r).hasWord r := by cases r <;> rfl
  obtain ⟨queue, hjoin⟩ := State.rejoin_form u r
  have hqueue : (u.rejoin r).path.partQueue = queue := congrArg (fun t : State => t.path.partQueue) hjoin
  refine ⟨queue, congrArg (fun t : State => t.updPath fun p => { p with partOwed := false }) hjoin,
    fun r' hne hhead hmem => ?_, fun hnone => ?_⟩
  · have htail : r' ∈ u.path.partQueue := by
      have hmem' := hmem
      rw [List.eq_cons_of_mem_head? hhead] at hmem'
      exact (List.mem_cons.1 hmem').resolve_left hne
    rw [← hqueue]
    simp only [State.rejoin]
    split
    · simp only [State.join, State.updPath_path]
      split
      · exact htail
      · exact List.mem_append_left _ htail
    · exact htail
  · have hstay : u.rejoin r = u := if_neg (by rw [hword, hnone]; decide)
    rw [← hqueue, hstay]
    rfl

theorem State.turnsUntil_queue {s : State} {r : Requester} {rest : List Requester} {ready : State → Bool}
    (hh : s.isHeld = false) (hbus : (s.wordOperation r).path.busWait = [] ∨ (s.wordOperation r).holdsHost = true)
    (hq : s.path.partQueue = r :: rest) (hready : ready s = true) :
    ∃ queue, s.whenLive (fun u => u.turnsUntil ready) =
      { s.wordOperation r with path := { (s.wordOperation r).path with partQueue := queue, partOwed := false } } ∧
      (∀ r', r' ≠ r → (s.wordOperation r).path.partQueue.head? = some r →
        r' ∈ (s.wordOperation r).path.partQueue → r' ∈ queue) ∧
      ((s.wordOperation r).hasWord r = false → queue = (s.wordOperation r).path.partQueue.tail) := by
  obtain ⟨queue, hturn, hrest⟩ := State.partTurn_queue hh hq
  refine ⟨queue, ?_, hrest⟩
  rw [State.whenLive_of_live hh, State.turnsUntil_of_ready hready, State.turn, hturn]
  rcases hbus with hbus | hholds
  · exact State.releaseBus_of_empty hbus
  · exact State.releaseBus_of_holds hholds

/-- A write turn of a word changes its bytes and the time that flash has taken, and nothing else. -/
theorem State.storeWord_form (s : State) (addr : Nat) (v : Word) :
    ∃ m cycles, s.storeWord addr v = { s with mem := m, path := { s.path with flashCycles := cycles } } ∧
      sameOutside s.mem m addr 2 ∧
      (addr + 1 < Config.flashBase → Memory.wf s.mem = true → readWord m addr = v) := by
  refine ⟨(s.storeWord addr v).mem, (s.storeWord addr v).path.flashCycles, ?_, State.storeWord_sameOutside s addr v,
    State.storeWord_readWord s addr v⟩
  by_cases h : addr < Config.flashBase
  · simp only [State.storeWord, State.countFlash, if_pos h, State.putByte, State.updMem]
  · simp only [State.storeWord, State.countFlash, if_neg h, State.putByte, State.updMem, State.updPath]

/-! ### A reload (R176, R183) -/

/-- The reasons of paid service that a settled load does not own. -/
theorem State.addReason_setupInvalid (s : State) {r : ServiceReason} (h : r ≠ .setupInvalid) :
    (s.addReason r).coin.reasons.setupInvalid = s.coin.reasons.setupInvalid := by
  rw [State.addReason_coin]
  cases r
  case setupInvalid => exact absurd rfl h
  all_goals rfl

theorem State.removeReason_setupInvalid (s : State) {r : ServiceReason} (h : r ≠ .setupInvalid) :
    (s.removeReason r).coin.reasons.setupInvalid = s.coin.reasons.setupInvalid := by
  simp only [State.removeReason]
  split
  · cases r
    case setupInvalid => exact absurd rfl h
    all_goals simp [ServiceReasons.put]
  · rfl

theorem State.removeReason_removed (s : State) : (s.removeReason .setupInvalid).coin.reasons.setupInvalid = false := by
  simp only [State.removeReason]
  split
  · simp [ServiceReasons.put]
  · rename_i h
    simpa [ServiceReasons.has] using h

theorem State.closeTest_setupInvalid (s : State) :
    s.closeTest.coin.reasons.setupInvalid = s.coin.reasons.setupInvalid := by
  obtain ⟨w, r, h⟩ := s.closeTest_coin
  rw [h]

theorem State.thenTest_setupInvalid (s : State) (event : State → State) :
    (s.thenTest event).coin.reasons.setupInvalid = (event s).coin.reasons.setupInvalid := by
  obtain ⟨w, r, h⟩ := s.thenTest_coin event
  rw [h]

theorem State.requestRefund_setupInvalid (s : State) :
    s.requestRefund.coin.reasons.setupInvalid = s.coin.reasons.setupInvalid := by
  rw [(CoinState.still_fields (State.requestRefund_still s)).2.2.2.2.2.2.2]

theorem State.openSession_setupInvalid (s : State) :
    s.openSession.coin.reasons.setupInvalid = s.coin.reasons.setupInvalid := by
  rw [State.openSession, State.thenTest_setupInvalid]
  simp only [State.updTamper_coin]
  rw [State.addReason_setupInvalid _ (by decide), State.requestRefund_setupInvalid, State.forfeit_coin]
  simp

theorem State.closeSession_setupInvalid (s : State) :
    s.closeSession.coin.reasons.setupInvalid = s.coin.reasons.setupInvalid := by
  simp only [State.closeSession, State.updTamper_coin, State.standingConditions_frame, State.clearAlarms_frame,
    State.clearSummary_frame]
  split
  · rw [State.removeReason_setupInvalid _ (by decide), State.removeReason_setupInvalid _ (by decide)]
    rfl
  · rw [State.removeReason_setupInvalid _ (by decide)]
    rfl

theorem State.actOnEdge_setupInvalid (s : State) (i : TamperInput) (active : Bool) :
    (s.actOnEdge i active).coin.reasons.setupInvalid = s.coin.reasons.setupInvalid := by
  have howe : ((s.updTamper fun t => { t with vaultOut := false }).oweClose).closeTest.coin.reasons.setupInvalid =
      s.coin.reasons.setupInvalid := by
    rw [State.closeTest_setupInvalid]
    simp
  cases i
  case vault =>
    simp only [State.actOnEdge, State.vaultEdge]
    (repeat' split) <;> simp [howe]
  case key =>
    simp only [State.actOnEdge]
    (repeat' split) <;> simp [State.openSession_setupInvalid, State.closeSession_setupInvalid]
  all_goals
    simp only [State.actOnEdge]
    (repeat' split) <;> simp

theorem State.followLevel_setupInvalid (s : State) (i : TamperInput) :
    (s.followLevel i).coin.reasons.setupInvalid = s.coin.reasons.setupInvalid := by
  simp only [State.followLevel]
  (repeat' split) <;> simp [State.actOnEdge_setupInvalid]

/-- A successful reload: the new settings stand and SETUP_INVALID is gone (R23, R183). -/
theorem State.applySettings_effect (s : State) (new : Settings) :
    (s.applySettings new).setup = { s.setup with settings := new, lastLoad := .file } ∧
      (s.applySettings new).coin.reasons.setupInvalid = false := by
  refine ⟨by simp [State.applySettings, tamperInputs], ?_⟩
  simp only [State.applySettings, State.reloadThreshold_frame, State.reloadCashBase_frame, State.reloadAlarms_frame,
    tamperInputs, List.foldl, State.followLevel_setupInvalid, State.reloadRecordsBase_frame,
    State.removeReason_removed]

/-- What a reload leaves, by its outcome (R176, R183). -/
theorem State.reloadOutcome_effect (s : State) (ws : List Word) {c : Command} (hc : s.mailbox.command = some c) :
    let t := s.reloadOutcome ws
    let answered := fun (result data : Word) =>
      t.mailbox.command = some { c with step := .respond 0, result := result, data := [data] }
    t.mem = s.mem ∧ t.clock = s.clock ∧ t.setup.load = s.setup.load ∧
      (s.mayReload = false → answered 2#16 0#16 ∧ t.setup.settings = s.setup.settings ∧ t.cash = s.cash) ∧
      (s.mayReload = true → setupChecks ws = false →
        answered 6#16 1#16 ∧ t.setup.settings = s.setup.settings ∧ t.cash = s.cash) ∧
      (s.mayReload = true → setupChecks ws = true → layoutValid (basesAt ws) = false →
        answered 6#16 2#16 ∧ t.setup.settings = s.setup.settings ∧ t.cash = s.cash) ∧
      (s.mayReload = true → setupChecks ws = true → layoutValid (basesAt ws) = true →
        answered 1#16 (BitVec.ofNat 16 (settingsOf ws).count) ∧
        t.setup = ⟨(settingsOf ws).value, .file, s.setup.load⟩ ∧ t.coin.reasons.setupInvalid = false) := by
  intro t answered
  have hanswer {u : State} (hu : u.mailbox.command = some c) (result data : Word) :=
    State.answerCommand_command (s := u) hu result data
  have hdef : t = s.reloadOutcome ws := rfl
  by_cases hmay : s.mayReload = true
  · by_cases hcheck : setupChecks ws = true
    · by_cases hlayout : layoutValid (basesAt ws) = true
      · have ht : t = (s.applySettings (settingsOf ws).value).answerCommand resultOk (wordOf (settingsOf ws).count) := by
          simp [hdef, State.reloadOutcome, hmay, hcheck, hlayout]
        obtain ⟨hsetup, hreason⟩ := s.applySettings_effect (settingsOf ws).value
        have hcommand : (s.applySettings (settingsOf ws).value).mailbox.command = some c := by simp [hc]
        have hmem : (s.applySettings (settingsOf ws).value).mem = s.mem := by simp
        have hclock : (s.applySettings (settingsOf ws).value).clock = s.clock := by simp
        generalize s.applySettings (settingsOf ws).value = u at ht hsetup hreason hcommand hmem hclock
        simp only [answered]
        rw [ht]
        refine ⟨hmem, hclock, (congrArg SetupState.load hsetup :), fun h => ?_, fun _ h => ?_, fun _ _ h => ?_,
          fun _ _ _ => ⟨hanswer hcommand _ _, hsetup, hreason⟩⟩
        · exact absurd (hmay.symm.trans h) (by decide)
        · exact absurd (hcheck.symm.trans h) (by decide)
        · exact absurd (hlayout.symm.trans h) (by decide)
      · have ht : t = s.answerCommand resultSetupBad 2#16 := by
          simp [hdef, State.reloadOutcome, hmay, hcheck, hlayout]
        simp only [answered]
        rw [ht]
        refine ⟨rfl, rfl, rfl, fun h => ?_, fun _ h => ?_, fun _ _ _ => ⟨hanswer hc _ _, rfl, rfl⟩,
          fun _ _ h => absurd h hlayout⟩
        · exact absurd (hmay.symm.trans h) (by decide)
        · exact absurd (hcheck.symm.trans h) (by decide)
    · have ht : t = s.answerCommand resultSetupBad 1#16 := by
        simp [hdef, State.reloadOutcome, hmay, hcheck]
      simp only [answered]
      rw [ht]
      refine ⟨rfl, rfl, rfl, fun h => ?_, fun _ _ => ⟨hanswer hc _ _, rfl, rfl⟩, fun _ h => absurd h hcheck,
        fun _ h => absurd h hcheck⟩
      exact absurd (hmay.symm.trans h) (by decide)
  · have ht : t = s.answerCommand resultBusy 0#16 := by
      simp [hdef, State.reloadOutcome, hmay]
    simp only [answered]
    rw [ht]
    exact ⟨rfl, rfl, rfl, fun _ => ⟨hanswer hc _ _, rfl, rfl⟩, fun h => absurd h hmay, fun h => absurd h hmay,
      fun h => absurd h hmay⟩

/-! ### The last word of a load and of a response -/

/-- The last word of a reload's reading (R176). -/
theorem State.loaderWord_reload {s : State} {ws : List Word} (hload : s.setup.load = some ⟨.reload, ws⟩)
    (hlen : ws.length = 255) :
    s.loaderWord = s.reloadDone (ws ++ [readWord s.mem (Config.setupBase + 510)]) := by
  simp [State.loaderWord, hload, hlen, Config.setupWords, wordAddr]

/-- The result word of a response (R170). -/
theorem State.mailboxWord_result {s : State} {c : Command} (hc : s.mailbox.command = some c) (hstep : c.step = .respond 7) :
    s.mailboxWord = ((s.storeWord (c.base + 12) c.result).updMailbox fun _ => ⟨none⟩).raise .mailboxDone := by
  simp only [State.mailboxWord, hc, hstep]
  rfl

end Sys2Proof.Machine

open Sys2Proof Sys2Proof.Machine

/-- Settles O59, by the outcome of the reload and by the last word of the response. -/
theorem reloadAndResponseEnd : Obligations.ReloadAndResponseEnd := by
  refine ⟨fun s rest ws c hlive hbus hq hload hlen hc => ?_, fun s rest c hlive hbus hq hc hstep => ?_⟩
  · intro block may answered
    let v := s.updSetup fun u => { u with load := none }
    have hword : s.wordOperation .setupLoader = (v.reloadOutcome block).join .mailbox := State.loaderWord_reload hload hlen
    have hready : s.atLoadEnd .reload = true := by
      simp [State.atLoadEnd, State.isNext_of_queue hq, hload, hlen, Config.setupWords]
    obtain ⟨queue, hturn, hqueue, -⟩ := State.turnsUntil_queue (ready := fun s => s.atLoadEnd .reload) hlive
      (.inl ((s.wordOperation_port _).1.trans hbus)) hq hready
    have hmailbox : .mailbox ∈ queue := by
      refine hqueue .mailbox (by decide) ?_ ?_
      · have hhead : v.path.partQueue.head? = some .setupLoader := congrArg List.head? hq
        rw [hword]
        exact State.join_next _ _ (State.reloadOutcome_next v block hhead)
      · rw [hword]
        exact State.join_mem _ _
    obtain ⟨hmem, hclock, hnone, hbusy, hcheck, hlayout, hgood⟩ := v.reloadOutcome_effect block (c := c) hc
    have hmay : v.mayReload = true ↔ may := v.mayReload_iff
    rw [hword] at hturn
    refine ⟨_, congrArg Host.Outcome.next hturn, hmem, hclock, hnone, hmailbox, rfl, fun h => ?_, fun h => ?_,
      fun h => ?_, fun h => ?_⟩
    · exact hbusy (Bool.eq_false_iff.2 fun hin => h (hmay.1 hin))
    · exact hcheck (hmay.2 h)
    · exact hlayout (hmay.2 h)
    · exact hgood (hmay.2 h)
  · obtain ⟨m, cycles, hstore, hsame, hread⟩ := s.storeWord_form (c.base + 12) c.result
    have hword : s.wordOperation .mailbox = { s with
        mem := m, path := { s.path with flashCycles := cycles }, mailbox := ⟨none⟩
        status := { s.status with flags := s.status.flags ||| EventFlag.mailboxDone.only } } := by
      refine (State.mailboxWord_result hc hstep).trans ?_
      rw [hstore]
      rfl
    have hready : s.atResponseEnd = true := by
      simp [State.atResponseEnd, State.isNext_of_queue hq, hc, hstep]
    obtain ⟨queue, hturn, -, hqueue⟩ := State.turnsUntil_queue (ready := State.atResponseEnd) hlive
      (.inl ((s.wordOperation_port _).1.trans hbus)) hq hready
    rw [hword] at hturn hqueue
    refine ⟨_, congrArg Host.Outcome.next hturn, rfl, rfl, fun _ => ?_, hsame, hread⟩
    exact (hqueue rfl).trans (congrArg List.tail hq)
end

section
/-! The ends of the three reads of a start (O60). -/

namespace Sys2Proof.Machine

/-! ### A reason of paid service -/

theorem State.refuseNumber_mask (s : State) (c : RefusalCause) : (s.refuseNumber c).status.mask = s.status.mask := by
  have hphase (u : State) (p : NumberPhase) : (u.setNumberPhase p).status.mask = u.status.mask := by
    simp only [State.setNumberPhase]
    split <;> rfl
  rw [State.refuseNumber, State.tallyRefusal_eq, State.closeNumber_eq]
  simp [hphase]

/-- A reason that begins leaves the event mask and the deposit of a number. -/
theorem State.addReason_keeps (s : State) (r : ServiceReason) :
    (s.addReason r).status.mask = s.status.mask ∧ (s.addReason r).number.deposit = s.number.deposit := by
  simp only [State.addReason, State.serviceLost]
  (repeat' split)
  · exact ⟨rfl, rfl⟩
  · refine ⟨(State.refuseNumber_mask _ _).trans rfl, ?_⟩
    exact (State.refuseNumber_fixes _ _).2.2.2.2.1
  · exact ⟨rfl, rfl⟩

/-! ### The setup load -/

/-- The setup load of a start: its settings, or the built-in ones with SETUP_INVALID (R178, R182). -/
theorem State.setupLoadDone_effect (s : State) (ws : List Word) :
    let t := s.setupLoadDone ws
    t.power.phase = .headerRead ∧ t.records.headerRead = some [] ∧ t.records.base = t.setup.settings.bases.records ∧
      t.setup = ⟨(startSettings ws).1, (startSettings ws).2, none⟩ ∧ t.status.mask = (startSettings ws).1.defaultMask ∧
      ((startSettings ws).2 ≠ .builtIn → t.coin = s.coin) ∧
      ((startSettings ws).2 = .builtIn → t.coin.reasons.setupInvalid = true) := by
  intro t
  let got := startSettings ws
  let u := (s.updSetup fun _ => ⟨got.1, got.2, none⟩).updStatus fun st => { st with mask := got.1.defaultMask }
  by_cases h : got.2 = .builtIn
  · have ht : t = (u.addReason .setupInvalid).beginHeaderRead := by
      simp only [t, State.setupLoadDone]
      rw [if_pos h]
    rw [ht]
    refine ⟨rfl, rfl, ?_, ?_, ?_, fun hne => absurd h hne, fun _ => ?_⟩
    · rfl
    · simp [u, got]
    · simp only [State.beginHeaderRead_frame]
      exact (State.addReason_keeps u .setupInvalid).1
    · simp only [State.beginHeaderRead_frame, State.addReason_coin]
      rfl
  · have ht : t = u.beginHeaderRead := by
      simp only [t, State.setupLoadDone]
      rw [if_neg h]
    rw [ht]
    exact ⟨rfl, rfl, rfl, rfl, rfl, fun _ => by simp [u], fun hb => absurd hb h⟩

theorem startSettings_eq (ws : List Word) :
    startSettings ws = if setupChecks ws = true ∧ layoutValid (basesAt ws) = true then ((settingsOf ws).value, .file)
      else (builtInSettings, .builtIn) := by
  simp [startSettings]

/-! ### The ring header read -/

theorem headerValid_iff (ws : List Word) :
    headerValid ws = true ↔ natAt ws 3 = 32 ∧ natAt ws 0 ≤ 31 ∧ natAt ws 1 ≤ 31 := by
  simp [headerValid, and_assoc]

/-! ### The restore -/

/-- Step 3: the items of the image (R149). -/
theorem State.restoreImage_effect (s : State) (ws : List Word) :
    let t := s.restoreImage ws
    t.power = { s.power with phase := .inputWait } ∧ t.cash.totals = totalsAt ws 1 ∧ t.cash.restore = none ∧
      t.cash.sequence = restoredSequence ws ∧
      (restoreChecks ws = false → t.cash.suspect = true ∧ EventFlag.cash.isIn t.status.flags = true) := by
  simp only [State.restoreImage]
  split
  · exact ⟨rfl, rfl, rfl, rfl, fun _ => ⟨rfl, State.raise_self _ _⟩⟩
  · rename_i h
    refine ⟨rfl, rfl, rfl, rfl, fun hbad => absurd ?_ h⟩
    simp [suspectRestore, hbad]

/-- Step 4: the purse and the escrow of the image, an operation as it was (R24). -/
theorem State.restorePurse_effect (s : State) (ws : List Word) :
    let t := s.restorePurse ws
    let values := s.setup.settings.classValues
    t.coin.escrow = restoredEscrow values ws ∧ t.coin.gate = restoredGate values ws ∧
      t.coin.banked = restoredBanked values ws ∧ t.coin.op = s.coin.op ∧
      (s.number.deposit = none → t.number.deposit = none) := by
  simp only [State.restorePurse]
  split
  · rw [State.addReason_coin, (State.addReason_keeps _ _).2]
    exact ⟨rfl, rfl, rfl, rfl, id⟩
  · exact ⟨rfl, rfl, rfl, rfl, id⟩

theorem rebuiltAlarms_phase (ws : List Word) (k : AlarmKind) : ((rebuiltAlarms ws).get k).phase ≠ .reporting := by
  simp only [rebuiltAlarms, AlarmState.requeue_get, AlarmState.get_foldl_put, if_pos k.mem_all]
  exact rebuiltEntry_phase ws k

/-- Step 5: the rebuilt table (R122). -/
theorem State.restoreAlarms_alarms (s : State) (ws : List Word) : (s.restoreAlarms ws).alarms = rebuiltAlarms ws := by
  simp only [State.restoreAlarms, State.checkQueue_frame]
  split <;> simp

theorem State.restoreAlarms_kept (s : State) (ws : List Word) : (s.restoreAlarms ws).cash.kept = s.cash.kept := by
  simp only [State.restoreAlarms, State.checkQueue_kept]
  split <;> simp

/-- An occurrence brings no kind into REPORTING (R114). -/
theorem AlarmState.occur_not_reporting {a : AlarmState} {k : AlarmKind} (h : (a.get k).phase ≠ .reporting)
    (j : AlarmKind) (enabled : Bool) (t : CalTime) : ((a.occur j enabled t).get k).phase ≠ .reporting := by
  by_cases hk : k = j
  · subst hk
    simp only [AlarmState.occur]
    (repeat' split) <;> simp [cycleEntry, AlarmEntry.again, h]
  · rw [AlarmState.occur_get_other a hk]
    exact h

theorem State.trapCheck_not_reporting {s : State} (h : ∀ k, (s.alarms.get k).phase ≠ .reporting) (f : RatingFlags)
    (k : AlarmKind) : ((s.trapCheck f).alarms.get k).phase ≠ .reporting := by
  simp only [State.trapCheck]
  (repeat' split) <;> simp [h, AlarmState.occur_not_reporting]

theorem State.trapCheck_image (s : State) (f : RatingFlags) :
    (s.trapCheck f).cash.totals = s.cash.totals ∧ (s.trapCheck f).cash.restore = s.cash.restore ∧
      (s.trapCheck f).cash.sequence = s.cash.sequence ∧ (s.trapCheck f).cash.suspect = s.cash.suspect := by
  obtain ⟨ototals, -, -, -, -, -, -, osuspect, osequence, orestore⟩ :=
    CashState.kept_fields (s.occurrence_kept .ratingAnomaly)
  simp only [State.trapCheck]
  by_cases hfresh : f &&& s.setup.settings.trapMask &&& ~~~ s.cash.summary = 0#8
  · simp only [if_pos hfresh]
    split
    · exact ⟨rfl, rfl, rfl, rfl⟩
    · obtain ⟨ctotals, -, -, -, -, -, -, csuspect, csequence, crestore⟩ := CashState.kept_fields
        (State.cashChanged_kept (s.updCash fun c => { c with summary := c.summary ||| f }))
      exact ⟨ctotals, crestore, csequence, csuspect⟩
  · simp only [if_neg hfresh]
    split
    · exact ⟨ototals, orestore, osequence, osuspect⟩
    · obtain ⟨ctotals, -, -, -, -, -, -, csuspect, csequence, crestore⟩ := CashState.kept_fields
        (State.cashChanged_kept ((s.occurrence .ratingAnomaly).updCash fun c => { c with summary := c.summary ||| f }))
      exact ⟨ctotals.trans ototals, crestore.trans orestore, csequence.trans osequence, csuspect.trans osuspect⟩

/-- Step 6: no call stands open, and no kind is REPORTING (R103). -/
theorem State.closePowerLost_effect (s : State) :
    s.closePowerLost.cash.openCall = none ∧ s.closePowerLost.cash.totals = s.cash.totals ∧
      s.closePowerLost.cash.restore = s.cash.restore ∧ s.closePowerLost.cash.sequence = s.cash.sequence ∧
      s.closePowerLost.cash.suspect = s.cash.suspect ∧
      ((∀ k, (s.alarms.get k).phase ≠ .reporting) → ∀ k, (s.closePowerLost.alarms.get k).phase ≠ .reporting) := by
  cases hopen : s.cash.openCall with
  | none =>
    have hstay : s.closePowerLost = s := by simp only [State.closePowerLost, hopen]
    rw [hstay]
    exact ⟨hopen, rfl, rfl, rfl, rfl, id⟩
  | some o =>
    have hclose : s.closePowerLost = ((s.trapCheck o.flags).clearMirror).offerRecord (s.powerLostRecord o) := by
      simp only [State.closePowerLost, hopen]
    obtain ⟨htotals, hrestore, hsequence, hsuspect⟩ := s.trapCheck_image o.flags
    obtain ⟨ktotals, -, -, -, -, -, -, ksuspect, ksequence, krestore⟩ :=
      CashState.kept_fields (s.trapCheck o.flags).clearMirror_kept
    rw [hclose]
    simp only [State.offerRecord_frame, State.clearMirror_frame]
    exact ⟨State.clearMirror_openCall _, ktotals.trans htotals, krestore.trans hrestore, ksequence.trans hsequence,
      ksuspect.trans hsuspect, fun h => State.trapCheck_not_reporting h _⟩

/-- The forfeiture of banked credit while no deposit is known (R20). -/
theorem State.forfeit_of_no_deposit {s : State} (h : s.number.deposit = none) :
    s.forfeit.cash.openCall = s.cash.openCall ∧ s.forfeit.cash.totals = { s.cash.totals with
      forfeited := if s.coin.banked = 0 then s.cash.totals.forfeited
        else addMoney s.cash.totals.forfeited s.coin.banked } ∧
      s.forfeit.cash.restore = s.cash.restore ∧ s.forfeit.cash.sequence = s.cash.sequence ∧
      s.forfeit.cash.suspect = s.cash.suspect ∧ s.forfeit.alarms = s.alarms := by
  simp only [State.forfeit]
  split
  · exact ⟨rfl, rfl, rfl, rfl, rfl, rfl⟩
  · have hcheck {u : State} (hu : u.number.deposit = none) : u.creditChanged = u.cashChanged := by
      have hdeposit : u.cashChanged.number.deposit = none := by simpa using hu
      simp only [State.creditChanged, State.recheckDeposit, hdeposit]
    rw [hcheck (by simpa using h)]
    let u := (s.updCash fun c =>
        { c with totals := { c.totals with forfeited := addMoney c.totals.forfeited s.coin.banked } }).updCoin
      fun c => { c with banked := 0 }
    obtain ⟨ktotals, -, -, -, -, -, -, ksuspect, ksequence, krestore⟩ := CashState.kept_fields u.cashChanged_kept
    exact ⟨u.cashChanged_items.2.1, ktotals, krestore, ksequence, ksuspect, by simp⟩

theorem State.requestRefund_starts {s : State} (hop : s.coin.op = .idle) (h : s.coin.escrow ≠ []) :
    s.requestRefund = s.startRefund := by
  simp [State.requestRefund, CoinState.inFlight, hop, h]

/-- Step 8: the refund of what the image restored (R24). -/
theorem State.restoreRefund_effect (s : State) (hop : s.coin.op = .idle) :
    let t := s.restoreRefund
    (s.coin.escrow ≠ [] → t.coin.escrow = s.coin.escrow ∧ t.coin.gate = s.coin.gate ∧ t.coin.op = .refunding) ∧
      (s.coin.escrow = [] → t.coin.escrow = s.coin.gate.toList ∧ t.coin.gate = none ∧
        (s.coin.gate ≠ none → t.coin.op = .refunding)) ∧
      t.coin.banked = s.coin.banked ∧ t.cash.kept = s.cash.kept ∧ t.cash.openCall = s.cash.openCall := by
  simp only [State.restoreRefund]
  by_cases hescrow : s.coin.escrow = []
  · rw [if_pos hescrow]
    cases hgate : s.coin.gate with
    | none => exact ⟨fun h => absurd hescrow h, fun _ => ⟨hescrow, hgate, fun h => absurd rfl h⟩, rfl, rfl, rfl⟩
    | some g =>
      let u := s.updCoin fun c => { c with escrow := g :: c.escrow, gate := none }
      have hmove : s.moveGate = u.cashChanged := by simp only [State.moveGate, hgate]; rfl
      have hstart : s.moveGate.requestRefund = u.cashChanged.startRefund := by
        rw [hmove]
        exact State.requestRefund_starts (by simp [u, hop]) (by simp [u])
      simp only [hstart]
      refine ⟨fun h => absurd hescrow h, fun _ => ⟨?_, ?_, fun _ => rfl⟩, ?_, u.cashChanged_kept, u.cashChanged_items.2.1⟩
      · simp [State.startRefund, State.startOp, u, hescrow]
      · simp [State.startRefund, State.startOp, u]
      · simp [State.startRefund, State.startOp, u]
  · rw [if_neg hescrow, State.requestRefund_starts hop hescrow]
    refine ⟨fun _ => ?_, fun h => absurd h hescrow, ?_, ?_, ?_⟩
    · split <;> exact ⟨rfl, rfl, rfl⟩
    all_goals
      split <;> rfl

/-- The levels that a start awaits (R186). -/
theorem State.awaitLevels_effect (s : State) :
    let settle := some (s.now + s.setup.settings.hookDebounce)
    s.awaitLevels.lever = { s.lever with timer := settle } ∧
      s.awaitLevels.hook.debounce = { s.hook.debounce with timer := settle } ∧
      ∀ i, (s.awaitLevels.tamper.get i).debounce.timer = some (s.now + s.setup.settings.tamperDebounce) := by
  refine ⟨?_, ?_, fun i => ?_⟩
  · simp [State.awaitLevels, tamperInputs]
    rfl
  · simp [State.awaitLevels, tamperInputs]
    rfl
  · cases i <;> rfl

theorem State.clearMirror_status (s : State) : s.clearMirror.status = s.status := by simp

/-- The flags that the image has set stand to the end of the restore. -/
theorem State.restore_flags (s : State) (ws : List Word) :
    s.flagsStay ((((s.restorePurse ws).restoreAlarms ws).closePowerLost.forfeit).restoreRefund) := by
  have hset {u v : State} (h : s.flagsStay u) (e : v.status = u.status) : s.flagsStay v := h.of_eq e
  have hpurse : s.flagsStay (s.restorePurse ws) := by
    simp only [State.restorePurse]
    split
    · refine State.flagsStay.addReason (s₀ := s) ?_ _
      exact hset s.flagsStay_self rfl
    · exact hset s.flagsStay_self rfl
  have halarms : s.flagsStay ((s.restorePurse ws).restoreAlarms ws) := by
    simp only [State.restoreAlarms]
    refine State.flagsStay.checkQueue ?_
    split
    · exact hset hpurse rfl
    · exact State.flagsStay.cashChanged (hset hpurse rfl)
  have hclose : s.flagsStay ((s.restorePurse ws).restoreAlarms ws).closePowerLost := by
    simp only [State.closePowerLost]
    split
    · exact State.flagsStay.offerRecord (hset (halarms.trapCheck _) (State.clearMirror_status _)) _
    · exact halarms
  exact hclose.forfeit.of_eq (by simp)

/-- The whole restore (R149, R185). -/
theorem State.restoreDone_effect {s : State} (ws : List Word) (hop : s.coin.op = .idle)
    (hdeposit : s.number.deposit = none) :
    let t := s.restoreDone ws
    let values := s.setup.settings.classValues
    let settle := some (s.now + s.setup.settings.hookDebounce)
    t.power = { s.power with phase := .inputWait } ∧
      (restoredEscrow values ws ≠ [] → t.coin.escrow = restoredEscrow values ws ∧
        t.coin.gate = restoredGate values ws ∧ t.coin.op = .refunding) ∧
      (restoredEscrow values ws = [] → t.coin.escrow = (restoredGate values ws).toList ∧
        t.coin.gate = none ∧ (restoredGate values ws ≠ none → t.coin.op = .refunding)) ∧
      t.coin.banked = 0 ∧ t.cash.totals = { totalsAt ws 1 with
        forfeited := if restoredBanked values ws = 0 then (totalsAt ws 1).forfeited
          else addMoney (totalsAt ws 1).forfeited (restoredBanked values ws) } ∧
      t.cash.openCall = none ∧ t.cash.restore = none ∧ t.cash.sequence = restoredSequence ws ∧
      (restoreChecks ws = false → t.cash.suspect = true ∧ EventFlag.cash.isIn t.status.flags = true) ∧
      (∀ k, (t.alarms.get k).phase ≠ .reporting) ∧ t.lever = { s.lever with timer := settle } ∧
      t.hook.debounce = { s.hook.debounce with timer := settle } ∧
      ∀ i, (t.tamper.get i).debounce.timer = some (s.now + s.setup.settings.tamperDebounce) := by
  let a := s.restoreImage ws
  let b := a.restorePurse ws
  let c := b.restoreAlarms ws
  let d := c.closePowerLost
  let e := d.forfeit
  let f := e.restoreRefund
  have hdone : s.restoreDone ws = f.awaitLevels := rfl
  obtain ⟨apower, atotals, arestore, asequence, asuspect⟩ := s.restoreImage_effect ws
  obtain ⟨bescrow, bgate, bbanked, bop, bdeposit⟩ := a.restorePurse_effect ws
  obtain ⟨ktotals, -, -, -, -, -, -, ksuspect, ksequence, krestore⟩ := CashState.kept_fields (b.restoreAlarms_kept ws)
  obtain ⟨dopen, dtotals, drestore, dsequence, dsuspect, dalarms⟩ := c.closePowerLost_effect
  have hnone : d.number.deposit = none := by
    have : d.number = b.number := by simp [d, c]
    rw [this]
    exact bdeposit (by simpa [a] using hdeposit)
  obtain ⟨eopen, etotals, erestore, esequence, esuspect, ealarms⟩ := State.forfeit_of_no_deposit hnone
  have ecoin : e.coin = { b.coin with banked := 0 } := by
    rw [State.forfeit_coin]
    simp [d, c]
  have acoin : a.coin = s.coin := by simp [a]
  have asetup : a.setup = s.setup := by simp [a]
  obtain ⟨frefund, fmove, fbanked, fkept, fopen⟩ := e.restoreRefund_effect (by rw [ecoin]; exact (bop.trans (congrArg _ acoin)).trans hop)
  obtain ⟨gtotals, -, -, -, -, -, -, gsuspect, gsequence, grestore⟩ := CashState.kept_fields fkept
  rw [asetup] at bescrow bgate bbanked
  have eescrow : e.coin.escrow = restoredEscrow s.setup.settings.classValues ws := by rw [ecoin]; exact bescrow
  have egate : e.coin.gate = restoredGate s.setup.settings.classValues ws := by rw [ecoin]; exact bgate
  rw [eescrow, egate] at frefund fmove
  have dbanked : d.coin.banked = restoredBanked s.setup.settings.classValues ws := by
    refine Eq.trans ?_ bbanked
    simp [d, c, b]
  have btotals : d.cash.totals = totalsAt ws 1 := by
    refine dtotals.trans (ktotals.trans ?_)
    simpa [b] using atotals
  have bcash : b.cash = a.cash := by simp [b]
  obtain ⟨glever, ghook, gtamper⟩ := f.awaitLevels_effect
  have fsame : f.now = s.now ∧ f.setup = s.setup ∧ f.lever = s.lever ∧ f.hook = s.hook := by
    simp [f, e, d, c, b, a]
  obtain ⟨fnow, fsetup, flever, fhook⟩ := fsame
  rw [fnow, fsetup, flever] at glever
  rw [fnow, fsetup, fhook] at ghook
  rw [hdone]
  simp only [State.awaitLevels_frame]
  refine ⟨?_, frefund, fmove, fbanked.trans (by rw [ecoin]), ?_, fopen.trans (eopen.trans dopen), ?_, ?_,
    fun hbad => ⟨?_, ?_⟩, fun k => ?_, glever, ghook, fun i => ?_⟩
  · refine Eq.trans ?_ apower
    simp [f, e, d, c, b, a]
  · rw [gtotals, etotals, btotals, dbanked]
  · exact grestore.trans (erestore.trans (drestore.trans (krestore.trans (bcash ▸ arestore))))
  · exact gsequence.trans (esequence.trans (dsequence.trans (ksequence.trans (bcash ▸ asequence))))
  · exact gsuspect.trans (esuspect.trans (dsuspect.trans (ksuspect.trans (bcash ▸ (asuspect hbad).1))))
  · exact a.restore_flags ws _ (by decide) (asuspect hbad).2
  · have halarms : f.alarms = d.alarms := by
      refine Eq.trans ?_ ealarms
      simp [f, e]
    rw [halarms]
    refine dalarms (fun j => ?_) k
    rw [b.restoreAlarms_alarms ws]
    exact rebuiltAlarms_phase ws j
  · rw [gtamper i, fnow, fsetup]

end Sys2Proof.Machine

open Sys2Proof Sys2Proof.Machine

/-- Settles O60: the setup load, the header read and the restore by the last word of each. -/
theorem startReadsEnd : Obligations.StartReadsEnd := by
  refine ⟨fun s rest ws hlive hstart hq hload hlen => ?_, fun s rest ws hlive hstart hq hread hlen => ?_,
    fun s rest ws hlive hbus hphase hq hread hlen hop hdeposit => ?_⟩
  · intro block good
    have hword : s.wordOperation .setupLoader = s.setupLoadDone block := by
      simp [State.wordOperation, State.loaderWord, hload, hlen, Config.setupWords, wordAddr, block]
    obtain ⟨hphase, hheader, hbase, hsetup, hmask, hcoin, hreason⟩ := s.setupLoadDone_effect block
    have hready : s.atLoadEnd .start = true := by
      simp [State.atLoadEnd, State.isNext_of_queue hq, hload, hlen, Config.setupWords]
    have hholds : (s.wordOperation .setupLoader).holdsHost = true := by
      rw [hword]
      simp [State.holdsHost, State.restored, hphase]
    obtain ⟨queue, hturn, hqueue, -⟩ := State.turnsUntil_queue (ready := fun s => s.atLoadEnd .start) hlive
      (.inr hholds) hq hready
    rw [hword] at hturn hqueue
    have hwriter : .recordWriter ∈ queue := by
      refine hqueue .recordWriter (by decide) (State.setupLoadDone_next s block (congrArg List.head? hq)) ?_
      exact State.join_mem _ _
    have hfields : (s.setupLoadDone block).mem = s.mem ∧ (s.setupLoadDone block).clock = s.clock ∧
        (s.setupLoadDone block).cash = s.cash := by simp
    generalize s.setupLoadDone block = t at hturn hphase hheader hbase hsetup hmask hcoin hreason hfields
    rw [startSettings_eq] at hsetup hmask hcoin hreason
    refine ⟨_, congrArg Host.Outcome.next hturn, hphase, hheader, hbase, hwriter, fun h => ?_, fun h => ?_, hfields⟩
    · rw [if_pos h] at hsetup hmask hcoin
      exact ⟨hsetup, hmask, hcoin (nofun)⟩
    · rw [if_neg h] at hsetup hmask hreason
      exact ⟨hsetup, hmask, hreason rfl⟩
  · intro header valid
    have hword : s.wordOperation .recordWriter = s.headerReadDone header := by
      simp [State.wordOperation, State.recordWord, hread, hlen, header]
    have hready : s.atHeaderEnd = true := by
      simp [State.atHeaderEnd, State.isNext_of_queue hq, hread, hlen]
    have hholds : (s.wordOperation .recordWriter).holdsHost = true := by
      rw [hword]
      simp [State.holdsHost, State.restored, State.headerReadDone]
    obtain ⟨queue, hturn, -⟩ := State.turnsUntil_queue (ready := State.atHeaderEnd) hlive (.inr hholds) hq hready
    rw [hword] at hturn
    have hrecords : (s.headerReadDone header).records = s.records.fromHeader header := by
      simp [State.headerReadDone]
    have hfields : (s.headerReadDone header).power.phase = .restoreRead ∧
        (s.headerReadDone header).cash.restore = some [] ∧ (s.headerReadDone header).mem = s.mem ∧
        (s.headerReadDone header).clock = s.clock ∧ (s.headerReadDone header).setup = s.setup ∧
        (s.headerReadDone header).coin = s.coin := by simp [State.headerReadDone]
    generalize s.headerReadDone header = t at hturn hrecords hfields
    obtain ⟨hphase, hrestore, hfields⟩ := hfields
    refine ⟨_, congrArg Host.Outcome.next hturn, hphase, hrestore, ?_⟩
    simp only [hrecords, RecordState.fromHeader]
    by_cases h : headerValid header = true
    · rw [if_pos h]
      exact ⟨rfl, rfl, rfl, fun _ => ⟨rfl, rfl, rfl, rfl⟩, fun hv => absurd ((headerValid_iff header).1 h) hv, hfields⟩
    · rw [if_neg h]
      exact ⟨rfl, rfl, rfl, fun hv => absurd ((headerValid_iff header).2 hv) h, fun _ => ⟨rfl, rfl, rfl, rfl⟩, hfields⟩
  · intro image values settle
    have hword : s.wordOperation .cashStore = s.restoreDone image := by
      simp [State.wordOperation, State.cashWord, State.restoreWord, hread, hlen, Config.cashWords, image]
    have hready : s.atRestoreEnd = true := by
      simp [State.atRestoreEnd, State.isNext_of_queue hq, hread, hlen, Config.cashWords]
    obtain ⟨queue, hturn, -⟩ := State.turnsUntil_queue (ready := State.atRestoreEnd) hlive
      (.inl ((s.wordOperation_port _).1.trans hbus)) hq hready
    rw [hword] at hturn
    have hfields : (s.restoreDone image).mem = s.mem ∧ (s.restoreDone image).clock = s.clock ∧
        (s.restoreDone image).setup = s.setup := by simp
    obtain ⟨hpower, hescrow, hempty, hbanked, htotals, hopen, hrestore, hsequence, hsuspect, halarms, hlever, hhook,
      htamper⟩ := State.restoreDone_effect image hop hdeposit
    generalize s.restoreDone image = t at *
    exact ⟨_, congrArg Host.Outcome.next hturn, hpower, hescrow, hempty, hbanked, htotals, hopen, hrestore, hsequence,
      hsuspect, halarms, hlever, hhook, htamper, hfields⟩
end

section
/-! Part turns at the port (O55). -/

namespace Sys2Proof.Machine

/-! ### A part turn whose word readies no other requester (R161) -/

/-- A part turn whose word leaves the part queue: the requester leaves its oldest end, and joins the newest with a
further word. -/
theorem State.partTurn_alone {s : State} {r : Requester} {rest : List Requester} (hh : s.isHeld = false)
    (hq : s.path.partQueue = r :: rest) (hword : (s.wordOperation r).path.partQueue = r :: rest) :
    ∃ queue, s.partTurn =
      { s.wordOperation r with path := { (s.wordOperation r).path with partQueue := queue, partOwed := false } } ∧
      (r ∉ rest → queue = if (s.wordOperation r).hasWord r then rest ++ [r] else rest) := by
  rw [State.partTurn_of_queue hh hq]
  let u := (s.wordOperation r).updPath fun p => { p with partQueue := p.partQueue.tail }
  have htail : u.path.partQueue = rest := by simp [u, hword]
  have hmore : u.hasWord r = (s.wordOperation r).hasWord r := by cases r <;> rfl
  obtain ⟨queue, hjoin⟩ := State.rejoin_form u r
  refine ⟨queue, congrArg (fun t : State => t.updPath fun p => { p with partOwed := false }) hjoin, fun hnot => ?_⟩
  have hqueue : (u.rejoin r).path.partQueue = queue := congrArg (fun t : State => t.path.partQueue) hjoin
  rw [← hqueue, State.rejoin, hmore]
  split
  · simp [State.join, htail, hnot]
  · exact htail

/-- The same with no access in bus wait. -/
theorem State.turn_alone {s : State} {r : Requester} {rest : List Requester} (hh : s.isHeld = false)
    (hbus : s.path.busWait = []) (hq : s.path.partQueue = r :: rest)
    (hword : (s.wordOperation r).path.partQueue = r :: rest) :
    ∃ queue, s.turn =
      { s.wordOperation r with path := { (s.wordOperation r).path with partQueue := queue, partOwed := false } } ∧
      (r ∉ rest → queue = if (s.wordOperation r).hasWord r then rest ++ [r] else rest) := by
  obtain ⟨queue, h, hqueue⟩ := State.partTurn_alone hh hq hword
  refine ⟨queue, ?_, hqueue⟩
  rw [State.turn, h]
  exact State.releaseBus_of_empty ((s.wordOperation_port r).1.trans hbus)

/-! ### The words of the requesters -/

/-- The word of the tally logic (R159). -/
theorem State.tallyWord_form {s : State} {e : PendingTally} {more : List PendingTally} (h : s.path.tallies = e :: more) :
    let addr := wordAddr s.setup.settings.bases.tally e.tally.index
    ∃ m cycles, s.tallyWord = { s with mem := m, path := { s.path with tallies := more, flashCycles := cycles } } ∧
      sameOutside s.mem m addr 2 ∧ (addr + 1 < Config.flashBase → Memory.wf s.mem = true →
        (readWord m addr).toNat = min ((readWord s.mem addr).toNat + e.amount) 65535) := by
  intro addr
  let u := s.updPath fun p => { p with tallies := more }
  let amount := wordOf (saturate16 ((readWord s.mem addr).toNat + e.amount))
  obtain ⟨m, cycles, hstore, hsame, hread⟩ := u.storeWord_form addr amount
  refine ⟨m, cycles, ?_, hsame, fun hsram hwf => ?_⟩
  · simp only [State.tallyWord, h]
    exact hstore
  · rw [hread hsram hwf]
    simp only [amount, saturate16, wordOf, BitVec.toNat_ofNat]
    omega

/-- A slot word of the record writer (R98). -/
theorem State.recordWord_slot {s : State} {slot : Nat} {record : CallRecord} {more : List RecordJob}
    (hread : s.records.headerRead = none) (hjobs : s.records.jobs = .slot slot record :: more)
    (hwritten : s.records.written < 24) :
    let addr := wordAddr s.records.base (4 + 24 * slot + s.records.written)
    ∃ m cycles, s.recordWord = { s with
        mem := m, path := { s.path with flashCycles := cycles }
        records := { s.records with written := s.records.written + 1 } } ∧
      sameOutside s.mem m addr 2 ∧ (addr + 1 < Config.flashBase → Memory.wf s.mem = true →
        readWord m addr = (recordWords record).getD s.records.written 0#16) := by
  intro addr
  obtain ⟨m, cycles, hstore, hsame, hword⟩ := s.storeWord_form addr ((recordWords record).getD s.records.written 0#16)
  refine ⟨m, cycles, ?_, hsame, hword⟩
  have hlt : s.records.written < Config.slotWords := hwritten
  have hdef : s.recordWord =
      (s.storeWord addr ((recordWords record).getD s.records.written 0#16)).jobWord := by
    simp only [State.recordWord, hread, hjobs, State.recordJobWord, if_pos hlt]
    rfl
  rw [hdef, hstore]
  rfl

/-- The first word of a write-back (R146, R147). -/
theorem State.cashWord_first {s : State} (hrestore : s.cash.restore = none) (hphase : s.cash.phase = .queued) :
    let base := s.setup.settings.bases.cash
    ∃ m cycles, s.cashWord = { s with
        mem := m, path := { s.path with flashCycles := cycles }
        cash := { s.cash with phase := .writing, again := false, copyWords := cashFields s, copyBase := base
                              written := 1 } } ∧
      sameOutside s.mem m base 2 ∧
      (base + 1 < Config.flashBase → Memory.wf s.mem = true → readWord m base = s.cash.sequence + 1#16) := by
  intro base
  obtain ⟨m, cycles, hstore, hsame, hword⟩ := s.storeWord_form base (s.cash.sequence + 1#16)
  refine ⟨m, cycles, ?_, hsame, hword⟩
  have hdef : s.cashWord = (s.storeWord base (s.cash.sequence + 1#16)).updCash fun c =>
      { c with phase := .writing, again := false, copyWords := cashFields s, copyBase := base, written := 1 } := by
    simp only [State.cashWord, hrestore, State.writeBackWord, hphase]
    rfl
  rw [hdef, hstore]
  rfl

/-- A field word or the check word of a write-back (R147). -/
theorem State.cashWord_field {s : State} (hrestore : s.cash.restore = none) (hphase : s.cash.phase = .writing)
    (hwritten : s.cash.written ≤ 127) :
    let addr := s.cash.copyBase + 2 * s.cash.written
    ∃ m cycles, s.cashWord = { s with
        mem := m, path := { s.path with flashCycles := cycles }
        cash := { s.cash with written := s.cash.written + 1 } } ∧
      sameOutside s.mem m addr 2 ∧
      (addr + 1 < Config.flashBase → Memory.wf s.mem = true → readWord m addr = s.cash.copyWord s.cash.written) := by
  intro addr
  obtain ⟨m, cycles, hstore, hsame, hword⟩ := s.storeWord_form addr (s.cash.copyWord s.cash.written)
  refine ⟨m, cycles, ?_, hsame, hword⟩
  have hlt : s.cash.written < Config.cashWords := Nat.lt_succ_of_le hwritten
  have hdef : s.cashWord =
      (s.storeWord addr (s.cash.copyWord s.cash.written)).updCash fun c => { c with written := c.written + 1 } := by
    simp only [State.cashWord, hrestore, State.writeBackWord, hphase, if_pos hlt]
    rfl
  rw [hdef, hstore]
  rfl

/-- The last word of a write-back (R146, R147). -/
theorem State.cashWord_last {s : State} (hrestore : s.cash.restore = none) (hphase : s.cash.phase = .writing)
    (hwritten : s.cash.written = 128) :
    ∃ m cycles, s.cashWord = { s with
        mem := m, path := { s.path with flashCycles := cycles }
        cash := { s.cash with sequence := s.cash.sequence + 2#16, again := false, written := 0
                              phase := if s.cash.again then .queued else .idle } } ∧
      sameOutside s.mem m s.cash.copyBase 2 ∧
      (s.cash.copyBase + 1 < Config.flashBase → Memory.wf s.mem = true →
        readWord m s.cash.copyBase = s.cash.sequence + 2#16) := by
  obtain ⟨m, cycles, hstore, hsame, hword⟩ := s.storeWord_form s.cash.copyBase (s.cash.sequence + 2#16)
  refine ⟨m, cycles, ?_, hsame, hword⟩
  have hnot : ¬ s.cash.written < Config.cashWords := by simp [hwritten, Config.cashWords]
  have hdef : s.cashWord = (s.storeWord s.cash.copyBase (s.cash.sequence + 2#16)).updCash fun c =>
      { c with sequence := c.sequence + 2#16, phase := if c.again then .queued else .idle, again := false
               written := 0 } := by
    simp only [State.cashWord, hrestore, State.writeBackWord, hphase, if_neg hnot]
    rfl
  rw [hdef, hstore]
  rfl

/-- A word of a response before its last (R170). -/
theorem State.mailboxWord_response {s : State} {c : Command} {k : Nat} (hc : s.mailbox.command = some c)
    (hstep : c.step = .respond k) (hk : k < 7) :
    let addr := c.base + 2 * (7 + k)
    ∃ m cycles, s.mailboxWord = { s with
        mem := m, path := { s.path with flashCycles := cycles }
        mailbox := ⟨some { c with step := .respond (k + 1) }⟩ } ∧
      sameOutside s.mem m addr 2 ∧ (addr + 1 < Config.flashBase → Memory.wf s.mem = true →
        readWord m addr = if k = 0 then c.code else c.data.getD (k - 1) 0#16) := by
  intro addr
  let v := if k = 0 then c.code else c.data.getD (k - 1) 0#16
  obtain ⟨m, cycles, hstore, hsame, hword⟩ := s.storeWord_form addr v
  refine ⟨m, cycles, ?_, hsame, hword⟩
  have hresponse : c.response k = (7 + k, v) := by
    by_cases h : k = 0
    · simp [Command.response, h, v]
    · simp [Command.response, h, hk, v, wordAt]
  have hdef : s.mailboxWord = (s.storeWord addr v).updCommand fun c => { c with step := .respond (k + 1) } := by
    simp only [State.mailboxWord, hc, hstep, State.writeResponse, hresponse, if_pos hk]
    rfl
  rw [hdef, hstore]
  simp [State.updCommand, State.updMailbox, hc]

end Sys2Proof.Machine

open Sys2Proof Sys2Proof.Machine

/-- Settles O55, by the requester whose word the turn carries out. -/
theorem partTurnsAtThePort : Obligations.PartTurnsAtThePort := by
  refine ⟨fun s hlive hbus => ⟨fun hq => ?_, fun rest e more hq htallies => ?_,
    fun rest slot record more hq hread hjobs hwritten => ?_⟩,
    fun s rest hlive hbus hq hrestore hnot => ⟨fun hphase => ?_, fun hphase hfirst hlast => ?_, fun hphase hlast => ?_⟩,
    fun s rest c k hlive hbus hq hnot hc hstep hk => ?_⟩
  · have hturn : s.turn = s := by
      rw [State.turn, State.partTurn_of_no_work hq]
      exact State.releaseBus_of_empty hbus
    exact congrArg Host.Outcome.next hturn
  · intro addr
    obtain ⟨m, cycles, hword, hsame, hsum⟩ := State.tallyWord_form htallies
    have hoperation : s.wordOperation .tallyLogic = _ := hword
    obtain ⟨queue, hturn, hqueue⟩ := State.turn_alone hlive hbus hq (by rw [hoperation]; exact hq)
    rw [hoperation] at hturn hqueue
    refine ⟨_, congrArg Host.Outcome.next hturn, rfl, rfl, rfl, rfl,
      fun hnot => (hqueue hnot).trans ?_, hsame, hsum⟩
    cases more <;> rfl
  · intro addr
    obtain ⟨m, cycles, hword, hsame, hvalue⟩ := State.recordWord_slot hread hjobs hwritten
    have hoperation : s.wordOperation .recordWriter = _ := hword
    obtain ⟨queue, hturn, hqueue⟩ := State.turn_alone hlive hbus hq (by rw [hoperation]; exact hq)
    rw [hoperation] at hturn hqueue
    refine ⟨_, congrArg Host.Outcome.next hturn, rfl, rfl, rfl,
      fun hnot => (hqueue hnot).trans (if_pos ?_), hsame, hvalue⟩
    simp [State.hasWord, hjobs]
  · obtain ⟨m, cycles, hword, hsame, hvalue⟩ := State.cashWord_first hrestore hphase
    have hoperation : s.wordOperation .cashStore = _ := hword
    obtain ⟨queue, hturn, hqueue⟩ := State.turn_alone hlive hbus hq (by rw [hoperation]; exact hq)
    rw [hoperation] at hturn hqueue
    refine ⟨_, congrArg Host.Outcome.next hturn, rfl,
      (hqueue hnot).trans (if_pos ?_), hsame, hvalue⟩
    simp [State.hasWord]
  · intro addr
    obtain ⟨m, cycles, hword, hsame, hvalue⟩ := State.cashWord_field hrestore hphase hlast
    have hoperation : s.wordOperation .cashStore = _ := hword
    obtain ⟨queue, hturn, hqueue⟩ := State.turn_alone hlive hbus hq (by rw [hoperation]; exact hq)
    rw [hoperation] at hturn hqueue
    refine ⟨_, congrArg Host.Outcome.next hturn, rfl, rfl,
      (hqueue hnot).trans (if_pos ?_), hsame, fun hsram hwf => ⟨fun h => ?_, fun h => ?_⟩⟩
    · simp [State.hasWord, hphase]
    · rw [hvalue hsram hwf, CashState.copyWord, if_pos (show s.cash.written < Config.cashWords - 1 from by
        simp only [Config.cashWords]; omega)]
      rfl
    · rw [hvalue hsram hwf, CashState.copyWord, if_neg (by simp [h, Config.cashWords])]
      exact BitVec.toNat_ofNat _ _
  · obtain ⟨m, cycles, hword, hsame, hvalue⟩ := State.cashWord_last hrestore hphase hlast
    have hoperation : s.wordOperation .cashStore = _ := hword
    obtain ⟨queue, hturn, hqueue⟩ := State.turn_alone hlive hbus hq (by rw [hoperation]; exact hq)
    rw [hoperation] at hturn hqueue
    have hready : s.atWriteBackEnd = true := by
      simp [State.atWriteBackEnd, State.isNext_of_queue hq, hrestore, hphase, hlast, Config.cashWords]
    have hexec : exec .writeBackEnd s = .next s.turn := by
      refine congrArg Host.Outcome.next ?_
      rw [State.whenLive_of_live hlive, State.turnsUntil_of_ready hready]
    refine ⟨_, hexec.trans (congrArg Host.Outcome.next hturn), rfl, rfl, (hqueue hnot).trans ?_, hsame, hvalue⟩
    cases hagain : s.cash.again <;> simp [State.hasWord, hrestore]
  · intro addr
    obtain ⟨m, cycles, hword, hsame, hvalue⟩ := State.mailboxWord_response hc hstep hk
    have hoperation : s.wordOperation .mailbox = _ := hword
    obtain ⟨queue, hturn, hqueue⟩ := State.turn_alone hlive hbus hq (by rw [hoperation]; exact hq)
    rw [hoperation] at hturn hqueue
    refine ⟨_, congrArg Host.Outcome.next hturn, rfl, rfl,
      (hqueue hnot).trans (if_pos ?_), hsame, hvalue⟩
    simp [State.hasWord]
end

section
/-! The producer and the consumer index of the record ring (O48). -/

namespace Sys2Proof.Machine

/-- A requester that joins changes the part queue alone. -/
theorem State.join_form (s : State) (r : Requester) :
    ∃ queue, s.join r = { s with path := { s.path with partQueue := queue } } := by
  by_cases hr : r ∈ s.path.partQueue
  · exact ⟨s.path.partQueue, congrArg (fun p => ({ s with path := p } : State)) (if_pos hr)⟩
  · exact ⟨s.path.partQueue ++ [r], congrArg (fun p => ({ s with path := p } : State)) (if_neg hr)⟩

/-- The producer word of a record, with no base that waits (R98). -/
theorem State.recordWord_publish {s : State} {slot : Nat} {record : CallRecord} {more : List RecordJob}
    (hread : s.records.headerRead = none) (hbase : s.records.newBase = none) (hwritten : s.records.written = 24)
    (hjobs : s.records.jobs = .slot slot record :: more) :
    ∃ m cycles, s.recordWord = { s with
        mem := m, path := { s.path with flashCycles := cycles }
        records := { s.records with producer := (slot + 1) % 32, jobs := more, written := 0 }
        status := { s.status with flags := s.status.flags ||| EventFlag.record.only } } ∧
      sameOutside s.mem m s.records.base 2 ∧
      (s.records.base + 1 < Config.flashBase → Memory.wf s.mem = true →
        readWord m s.records.base = BitVec.ofNat 16 ((slot + 1) % 32)) := by
  obtain ⟨m, cycles, hstore, hsame, hword⟩ := s.storeWord_form s.records.base (BitVec.ofNat 16 ((slot + 1) % 32))
  refine ⟨m, cycles, ?_, hsame, hword⟩
  have hnot : ¬ s.records.written < Config.slotWords := by simp [hwritten, Config.slotWords]
  have hdef : s.recordWord = (((s.storeWord s.records.base (BitVec.ofNat 16 ((slot + 1) % 32))).updRecords fun r =>
      { r with producer := (slot + 1) % 32 }).jobDone).raise .record := by
    simp only [State.recordWord, hread, hjobs, State.recordJobWord, if_neg hnot]
    rfl
  rw [hdef, hstore]
  simp [State.jobDone, RecordState.settleBase, hbase, hjobs, State.updRecords, State.raise, State.updStatus]

/-- A consumer index is taken in the occupied span of a ring whose header stands (R99, R102). -/
theorem RecordState.takes_iff (r : RecordState) (v : Nat) : r.takes v = true ↔ r.newBase = none ∧ r.headerOwed = false ∧
    v ≤ 31 ∧ (v + 32 - r.consumer) % 32 ≤ (r.producer + 32 - r.consumer) % 32 := by
  simp only [RecordState.takes, Bool.and_eq_true, Option.isNone_iff_eq_none, Bool.not_eq_true', decide_eq_true_eq,
    and_assoc]
  exact Iff.rfl

/-- A taken index that frees a slot for a held record (R99, R102). -/
theorem State.takeIndex_of_held {s : State} {v : Nat} {h : CallRecord} (hheld : s.records.held = some h)
    (hmoved : s.records.consumer ≠ v) : ∃ queue, s.takeIndex v = { s with
        path := { s.path with partQueue := queue }
        records := { s.records with
          consumer := v, held := none, jobs := s.records.jobs ++ [.slot s.records.writeIndex h, .flagClear]
          writeIndex := (s.records.writeIndex + 1) % 32 } } ∧ .recordWriter ∈ queue := by
  let u := s.updRecords fun r => RecordState.leave { r with consumer := v }
  have htake : s.takeIndex v = u.join .recordWriter := if_pos (by simp [hheld, hmoved])
  have hleave : u = { s with records := { s.records with
      consumer := v, held := none, jobs := s.records.jobs ++ [.slot s.records.writeIndex h, .flagClear]
      writeIndex := (s.records.writeIndex + 1) % 32 } } := by
    simp [u, State.updRecords, RecordState.leave, hheld, RecordState.assign, nextSlot, Config.ringSlots]
  obtain ⟨queue, hjoin⟩ := u.join_form .recordWriter
  have hmem := u.join_mem .recordWriter
  rw [hjoin] at hmem
  refine ⟨queue, ?_, hmem⟩
  rw [htake, hjoin, hleave]

/-- A taken index with no record held, or one that frees no slot (R99). -/
theorem State.takeIndex_of_none {s : State} {v : Nat} (h : s.records.held = none ∨ s.records.consumer = v) :
    s.takeIndex v = { s with records := { s.records with consumer := v } } :=
  if_neg (by rcases h with h | h <;> simp [h])

/-- A refused index (R99). -/
theorem State.refuseIndex_eq (s : State) : s.refuseIndex =
    { s with status := { s.status with flags := s.status.flags ||| EventFlag.indexRefused.only }
             path := (s.tally .writesRefused).path } := by
  rw [State.refuseIndex, State.tally_eq, State.tally_path_congr (s := s) _ rfl]
  rfl

end Sys2Proof.Machine

open Sys2Proof Sys2Proof.Machine

/-- Settles O48, by the last word of the job in hand and by the judgement of the index. -/
theorem recordRingIndices : Obligations.RecordRingIndices := by
  refine ⟨fun s rest slot record more hlive hbus hq hread hbase hwritten hjobs _ => ?_,
    fun access value s hfree => ?_⟩
  · obtain ⟨m, cycles, hword, hsame, hvalue⟩ := State.recordWord_publish hread hbase hwritten hjobs
    have hoperation : s.wordOperation .recordWriter = _ := hword
    obtain ⟨queue, hturn, hqueue⟩ := State.turn_alone hlive hbus hq (by rw [hoperation]; exact hq)
    rw [hoperation] at hturn hqueue
    have hready : s.atPublish = true := by
      simp [State.atPublish, State.isNext_of_queue hq, hread, hjobs, hwritten, Config.slotWords]
    have hexec : exec .recordPublish s = .next s.turn := by
      refine congrArg Host.Outcome.next ?_
      rw [State.whenLive_of_live hlive, State.turnsUntil_of_ready hready]
    refine ⟨_, hexec.trans (congrArg Host.Outcome.next hturn), rfl, rfl, hsame, hvalue, rfl, rfl,
      fun hnot => (hqueue hnot).trans ?_, rfl, rfl, rfl, rfl, rfl, rfl, rfl, rfl⟩
    cases more <;> simp [State.hasWord, hread]
  · intro w v addr a taken
    have htaken : s.records.takes v = true ↔ taken := s.records.takes_iff v
    have hexec : exec (.consumerIndexWrite access value) s = .next (s.takeSpecial .consumerIndex w) :=
      congrArg Host.Outcome.next (State.hostAccess_of_free hfree _ _)
    refine ⟨fun h => ?_, fun h => ?_⟩
    · have htakes := htaken.2 h
      have haction : a = s.takeIndex v := if_pos htakes
      obtain ⟨hwrites, hread⟩ := State.takeSpecial_writes (s := s) (w := .consumerIndex) (v := w) htakes
      refine ⟨⟨_, hexec, hwrites, hread⟩, ?_⟩
      rw [haction]
      cases hheld : s.records.held with
      | none =>
        rw [State.takeIndex_of_none (.inl hheld)]
        exact ⟨rfl, rfl, rfl, fun h hh => absurd hh nofun, fun _ => ⟨rfl, rfl⟩⟩
      | some r =>
        by_cases hmoved : s.records.consumer = v
        · rw [State.takeIndex_of_none (.inr hmoved)]
          exact ⟨rfl, rfl, rfl, fun _ _ hne => absurd hmoved hne, fun _ => ⟨rfl, rfl⟩⟩
        · obtain ⟨queue, htake, hmem⟩ := State.takeIndex_of_held hheld hmoved
          rw [htake]
          refine ⟨rfl, rfl, rfl, fun h hh _ => ?_, fun hnone => ?_⟩
          · cases hh
            exact ⟨hmem, rfl⟩
          · exact absurd (hnone.resolve_left nofun) hmoved
    · have hnot : s.records.takes v = false := Bool.eq_false_iff.2 fun hin => h (htaken.1 hin)
      have haction : a = s.refuseIndex := if_neg (by rw [hnot]; decide)
      have hdropped : s.takeSpecial .consumerIndex w = a := State.takeSpecial_of_dropped hnot
      refine ⟨hexec.trans (congrArg Host.Outcome.next hdropped), haction.trans s.refuseIndex_eq, ?_⟩
      rw [haction]
      exact s.refuseIndex_port.2
end

section
/-! A mailbox word at an odd base (O56). -/

namespace Sys2Proof.Machine

/-- A part at rest whose MAILBOX base is odd. No setup block gives such a base (R181), but the statement asks nothing of
the bases. -/
def oddMailbox : State :=
  { State.reset with
    power := ⟨true, false, .ended, .powerOn⟩
    setup := ⟨{ builtInSettings with bases := { builtInSettings.bases with mailbox := 1 } }, .builtIn, none⟩
    path := ⟨[], false, [], [], 0#16, 0⟩ }

/-- Byte address 2 lies in word 0 of that mailbox, whose own bytes are 1 and 2. -/
theorem oddMailbox_word0 :
    oddMailbox.holdsHost = false ∧ oddMailbox.setup.settings.bases.areaAt 2 = some .mailbox ∧
      oddMailbox.setup.settings.bases.offset .mailbox 2 = 0 ∧
      oddMailbox.treatWrite 2 .word 0x0101#16 = .special .commandPost 0x0101#16 ∧
      oddMailbox.specialPasses .commandPost 0x0101#16 = true ∧ oddMailbox.mailbox.command = none ∧
      oddMailbox.path.partQueue = [] ∧ oddMailbox.mem = [] ∧ oddMailbox.specialAddr .commandPost = 1 := by decide

theorem lowByte_joinBytes (high low : Byte) : lowByte (joinBytes high low) = low := by
  have h := low.isLt
  apply BitVec.eq_of_toNat_eq
  simp only [lowByte_toNat, joinBytes, BitVec.toNat_ofNat]
  omega

/-- A command posted there writes the byte below the address of the access. -/
theorem oddMailbox_post : readByte (oddMailbox.takeSpecial .commandPost 0x0101#16).mem 1 = 0x01#8 := by
  obtain ⟨-, -, -, -, hpasses, -, hq, hmem, haddr⟩ := oddMailbox_word0
  let a := oddMailbox.specialAction .commandPost 0x0101#16
  have hsame : a.mem = [] := rfl
  have hturn : oddMailbox.atHostTurn a = a := State.atHostTurn_of_no_work _ hq
  have hread := (State.takeSpecial_writes hpasses).2 (by rw [haddr]; decide) (by rw [hturn, hsame]; decide)
  rw [haddr] at hread
  exact (lowByte_joinBytes _ _).symm.trans (congrArg lowByte hread)

end Sys2Proof.Machine

open Sys2Proof Sys2Proof.Machine

/-- Refutes O56, by a mailbox with an odd base: a command posted by a word write at address 2, which lies in word 0, is
written at that word's own address 1 (R153), so that byte 1 changes outside the two bytes of the access. -/
theorem not_hostWritesByArea : ¬ Obligations.HostWritesByArea := by
  intro h
  obtain ⟨hfree, harea, hoffset, htreat, hpasses, hcommand, hq, hmem, haddr⟩ := oddMailbox_word0
  obtain ⟨-, hpost, -⟩ := h.2.2 2 .word 0x0101#16 oddMailbox hfree (by decide) (by decide) harea hoffset
  obtain ⟨⟨t, hexec, ⟨-, hsame⟩, -⟩, -⟩ := hpost (by decide) hcommand
  have htaken : exec (.hostWrite 2 .word 0x0101#16) oddMailbox = .next (oddMailbox.takeSpecial .commandPost 0x0101#16) := by
    refine congrArg Host.Outcome.next ?_
    rw [State.hostAccess_of_free hfree]
    simp only [State.hostWriteAt, htreat]
  have ht : t = oddMailbox.takeSpecial .commandPost 0x0101#16 :=
    Host.Outcome.next.inj (hexec.symm.trans htaken)
  have hbyte := hsame 1 (.inl (by decide))
  rw [ht, oddMailbox_post, State.atHostTurn_of_no_work _ hq] at hbyte
  exact absurd hbyte (by decide)
end

section
/-! The host's accesses with an effect of their own, and its plain reads (O57). -/

namespace Sys2Proof.Machine

/-! ### Lanes and steps -/

theorem laneValue_eq (lanes : Lanes) (w : Word) :
    laneValue lanes w = match lanes with | .word => w | .low => w &&& 0xFF#16 | .high => w >>> 8 := by
  have h := w.isLt
  cases lanes
  case word => rfl
  case low =>
    apply BitVec.eq_of_toNat_eq
    have hmask : (w &&& 0xFF#16).toNat = w.toNat % 256 := by
      rw [BitVec.toNat_and]
      exact Nat.and_two_pow_sub_one_eq_mod w.toNat 8
    simp only [laneValue, joinBytes, BitVec.toNat_ofNat, hmask, lowByte_toNat]
    omega
  case high =>
    apply BitVec.eq_of_toNat_eq
    have hshift : (w >>> 8).toNat = w.toNat / 256 := by
      rw [BitVec.toNat_ushiftRight]
      exact Nat.shiftRight_eq_div_pow w.toNat 8
    simp only [laneValue, joinBytes, BitVec.toNat_ofNat, hshift, highByte_toNat]
    omega

theorem laneValue_toNat (lanes : Lanes) (w : Word) :
    (laneValue lanes w).toNat = match lanes with | .word => w.toNat | .low => w.toNat % 256 | .high => w.toNat / 256 := by
  have h := w.isLt
  cases lanes <;> simp only [laneValue, joinBytes, BitVec.toNat_ofNat, lowByte_toNat, highByte_toNat] <;> omega

theorem aliasStep_eq {k : Nat} (h : k < 8) : aliasStep k = ([-8, -4, -2, -1, 1, 2, 4, 8] : List Int).getD k 0 := by
  match k, h with
  | 0, _ | 1, _ | 2, _ | 3, _ | 4, _ | 5, _ | 6, _ | 7, _ => rfl

/-- A fetch-add saturates to 0 to 65535 (R160). -/
theorem fetchAdd_cases (old : Nat) (step : Int) :
    ((old : Int) + step < 0 → wordOf (fetchAdd old step) = 0#16) ∧
      (65535 < (old : Int) + step → wordOf (fetchAdd old step) = 65535#16) ∧
      (0 ≤ (old : Int) + step → (old : Int) + step ≤ 65535 →
        ((wordOf (fetchAdd old step)).toNat : Int) = old + step) := by
  refine ⟨fun h => ?_, fun h => ?_, fun hlow hhigh => ?_⟩
  · have hzero : fetchAdd old step = 0 := by simp only [fetchAdd]; omega
    rw [hzero]
    rfl
  · have hfull : fetchAdd old step = 65535 := by simp only [fetchAdd]; omega
    rw [hfull]
    rfl
  · simp only [wordOf, fetchAdd, BitVec.toNat_ofNat]
    omega

/-! ### The flags of an event clear (R166) -/

theorem State.clearFlags_isIn (s : State) (v : Word) (f : EventFlag) :
    f.isIn (s.clearFlags v).status.flags = (f.isIn s.status.flags && (f == .dialLow || !f.isIn v)) := by
  have hlow : (f == .dialLow) = decide (f = .dialLow) := by cases f <;> rfl
  rw [hlow]
  cases f <;> simp [State.clearFlags, State.updStatus, EventFlag.isIn, EventFlag.bit, EventFlag.only]

/-! ### The accesses at the port -/

/-- A read in the ALIAS area: the tally as it stood, and its step added (R160). -/
theorem State.aliasRead_form (s : State) (offset : Nat) (lanes : Lanes) :
    let u := s.atHostTurn s
    let addr := wordAddr s.setup.settings.bases.tally (offset / 8)
    ∃ m cycles, s.aliasRead offset lanes = { u with
        mem := m
        path := { u.path with
          flashCycles := cycles, readData := laneValue lanes (readWord u.mem addr), partOwed := true } } ∧
      sameOutside u.mem m addr 2 ∧ (addr + 1 < Config.flashBase → Memory.wf u.mem = true →
        readWord m addr = wordOf (fetchAdd (readWord u.mem addr).toNat (aliasStep (offset % 8)))) := by
  intro u addr
  let new := wordOf (fetchAdd (readWord u.mem addr).toNat (aliasStep (offset % 8)))
  obtain ⟨m, cycles, hstore, hsame, hread⟩ := u.storeWord_form addr new
  refine ⟨m, cycles, ?_, hsame, hread⟩
  have hdef : s.aliasRead offset lanes =
      ((u.storeWord addr new).returnWord (laneValue lanes (readWord u.mem addr))).hostTurnEnds := rfl
  rw [hdef, hstore]
  rfl

/-- A read that passes (R154, R162, R163). -/
theorem State.readPasses (s : State) (addr : Nat) (lanes : Lanes) :
    let u := s.atHostTurn s
    s.passing id (fun t => t.readTurn addr lanes) =
      { u with path := { u.path with partOwed := true, readData := laneValue lanes (readWord u.mem addr) } } := rfl

/-- The taking of a response (R157, R170). -/
theorem State.takeResponse_form (s : State) (access : SpecialAccess) :
    let u := s.atHostTurn s
    s.takeResponse access = { u with
      status := { u.status with flags := u.status.flags &&& ~~~ EventFlag.mailboxDone.only }
      path := { u.path with
        partOwed := true
        readData := laneValue (accessLanes access) (readWord u.mem (wordAddr s.setup.settings.bases.mailbox 6)) } } := rfl

/-- A host read by its treatment, outside the hold. -/
theorem State.hostRead_of_pass {s : State} {addr : Nat} {lanes : Lanes} (hfree : s.holdsHost = false)
    (h : s.treatRead addr lanes = .pass) :
    s.hostRead addr lanes = some (s.passing id fun t => t.readTurn addr lanes) := by
  simp [State.hostRead, hfree, h]

theorem State.hostRead_of_served {s : State} {addr : Nat} {lanes : Lanes} {w : Word} (hfree : s.holdsHost = false)
    (h : s.treatRead addr lanes = .served w) :
    s.hostRead addr lanes = some { s with path := { s.path with readData := laneValue lanes w } } := by
  simp [State.hostRead, hfree, h, State.returnWord, State.updPath]

/-- The reads that pass (R154). -/
theorem State.treatRead_pass {s : State} {addr : Nat} {lanes : Lanes}
    (h : s.setup.settings.bases.areaAt addr = none ∨ s.setup.settings.bases.areaAt addr = some .tally ∨
      s.setup.settings.bases.areaAt addr = some .tariff ∨ s.setup.settings.bases.areaAt addr = some .records ∨
      (s.setup.settings.bases.areaAt addr = some .mailbox ∧
        (s.setup.settings.bases.offset .mailbox addr ≠ 6 ∨ lanes = .high)) ∨
      (s.setup.settings.bases.areaAt addr = some .cash ∧ s.cash.phase = .idle)) :
    s.treatRead addr lanes = .pass := by
  rcases h with h | h | h | h | ⟨h, hword⟩ | ⟨h, hphase⟩
  · simp only [State.treatRead, h]
  · simp only [State.treatRead, h]
  · simp only [State.treatRead, h]
  · simp only [State.treatRead, h]
  · simp only [State.treatRead, h]
    rcases hword with hword | hlane
    · split
      · rename_i hsix _
        exact absurd hsix hword
      · rfl
    · split
      · rename_i haccess
        rw [hlane] at haccess
        exact absurd haccess nofun
      · rfl
  · simp only [State.treatRead, h]
    rw [if_pos hphase]

end Sys2Proof.Machine

open Sys2Proof Sys2Proof.Machine

/-- Settles O57, by the course of each access at its turn of the port. -/
theorem hostAccessesWithAnEffect : Obligations.HostAccessesWithAnEffect := by
  refine ⟨fun s hfree => ⟨fun offset lanes => ?_, fun access => ?_, fun access value => ?_⟩,
    fun s addr lanes => ?_⟩
  · intro u addr old step
    obtain ⟨m, cycles, hread, hsame, hword⟩ := s.aliasRead_form offset.val lanes
    have hexec : exec (.aliasRead offset lanes) s = .next (s.aliasRead offset lanes) :=
      congrArg Host.Outcome.next (State.hostAccess_of_free hfree _ _)
    refine ⟨_, hexec.trans (congrArg Host.Outcome.next hread), rfl, rfl, rfl, rfl, laneValue_toNat _ _, hsame,
      fun hsram hwf => ?_⟩
    have hstep : aliasStep (offset.val % 8) = step := aliasStep_eq (Nat.mod_lt _ (by decide))
    rw [hword hsram hwf, hstep]
    exact fetchAdd_cases old step
  · intro u w
    have hexec : exec (.takeResponse access) s = .next (s.takeResponse access) :=
      congrArg Host.Outcome.next (State.hostAccess_of_free hfree _ _)
    rw [hexec, s.takeResponse_form access, laneValue_eq]
    cases access <;> rfl
  · intro v addr a
    have hoperand : specialOperand access value = v := by cases access <;> rfl
    have hexec : exec (.eventClear access value) s = .next (s.takeSpecial .eventClear v) := by
      rw [← hoperand]
      exact congrArg Host.Outcome.next (State.hostAccess_of_free hfree _ _)
    obtain ⟨hwrites, hread⟩ := State.takeSpecial_writes (s := s) (w := .eventClear) (v := v) rfl
    exact ⟨rfl, s.clearFlags_isIn v, _, hexec, hwrites, hread⟩
  · intro area u lane served
    have hlane (w : Word) : laneValue lanes w = lane w := laneValue_eq lanes w
    refine ⟨fun hholds => if_pos hholds, fun hfree => ⟨fun harea => ?_, fun harea hphase => ?_, fun h => ?_⟩⟩
    · simp only [served, ← hlane]
      refine State.hostRead_of_served hfree ?_
      simp only [State.treatRead, show s.setup.settings.bases.areaAt addr = some .live from harea]
    · simp only [served, ← hlane]
      refine State.hostRead_of_served hfree ?_
      simp only [State.treatRead, show s.setup.settings.bases.areaAt addr = some .cash from harea]
      rw [if_neg hphase]
    · rw [← hlane, State.hostRead_of_pass hfree (State.treatRead_pass h), s.readPasses addr lanes]
end

section
/-! The rating engine's operations as equations: what each changes of the state, while no number waits for its deposit
or for the line (R78, R79, R81, R86). -/

namespace Sys2Proof.Machine

/-- No number waits for its deposit or for the line, so that a change of credit re-checks none (R19). -/
def State.noneWaits (s : State) : Prop := s.number.phase ≠ .waitDeposit ∧ s.number.phase ≠ .waitLine

/-! ### The cash image and the mirror -/

theorem CashState.changed_form (c : CashState) : ∃ phase again, c.changed = { c with phase := phase, again := again } := by
  simp only [CashState.changed]
  split
  · exact ⟨.queued, c.again, rfl⟩
  · exact ⟨c.phase, c.again, rfl⟩
  · exact ⟨c.phase, true, rfl⟩

/-- A change of the cash image queues a write-back and changes nothing else (R146). -/
theorem State.cashChanged_form (s : State) : ∃ phase again queue, s.cashChanged =
    { s with cash := { s.cash with phase := phase, again := again }, path := { s.path with partQueue := queue } } := by
  by_cases h : s.restored = true
  · obtain ⟨phase, again, hcash⟩ := s.cash.changed_form
    obtain ⟨queue, hjoin⟩ := (s.updCash CashState.changed).join_form .cashStore
    refine ⟨phase, again, queue, ?_⟩
    rw [State.cashChanged, if_pos h, hjoin, State.updCash, hcash]
  · exact ⟨s.cash.phase, s.cash.again, s.path.partQueue, if_neg h⟩

theorem State.creditChanged_of_none {s : State} (h : s.noneWaits) : s.creditChanged = s.cashChanged := by
  have hnumber : s.cashChanged.number = s.number := by simp
  simp only [State.creditChanged, State.recheckDeposit, State.paidRequestWaits, hnumber]
  split
  · rfl
  · rw [if_neg h.1]
    simp [h.2]

/-- The open-call mirror with a charge total and a call status field (R86). -/
def OpenCall.mirrored (o : OpenCall) (c : RatingContext) : OpenCall := { o with charge := c.total, flags := c.status }

/-- The open-call mirror takes the charge total and the call status field (R86). -/
theorem State.mirrorCall_form (s : State) (c : RatingContext) : ∃ phase again queue, s.mirrorCall c =
    { s with cash := { s.cash with openCall := s.cash.openCall.map fun o => o.mirrored c
                                   phase := phase, again := again }
             path := { s.path with partQueue := queue } } := by
  have hsame (h : s.cash.openCall.map (fun o => o.mirrored c) = s.cash.openCall) :
      s = { s with cash := { s.cash with openCall := s.cash.openCall.map fun o => o.mirrored c } } := by
    rw [h]
  simp only [State.mirrorCall]
  split
  · rename_i o ho
    split
    · rename_i heq
      refine ⟨s.cash.phase, s.cash.again, s.path.partQueue, hsame ?_⟩
      rw [ho, Option.map_some, OpenCall.mirrored, ← heq.1, ← heq.2]
    · obtain ⟨phase, again, queue, h⟩ :=
        State.cashChanged_form (s.updCash fun k => { k with openCall := some (o.mirrored c) })
      refine ⟨phase, again, queue, h.trans ?_⟩
      rw [ho]
      rfl
  · rename_i ho
    exact ⟨s.cash.phase, s.cash.again, s.path.partQueue, hsame (by rw [ho]; rfl)⟩

/-- Flags added to the call status field (R85, R86). -/
theorem State.addStatus_form {s : State} {x : RatingContext} (hx : s.rating.context = some x) (f : RatingFlags) :
    ∃ phase again queue, s.addStatus f =
      { s with rating := { s.rating with context := some (x.addFlags f) }
               cash := { s.cash with openCall := s.cash.openCall.map fun o => o.mirrored (x.addFlags f)
                                     phase := phase, again := again }
               path := { s.path with partQueue := queue } } := by
  obtain ⟨phase, again, queue, h⟩ :=
    State.mirrorCall_form (s.updContext fun x => x.addFlags f) (x.addFlags f)
  refine ⟨phase, again, queue, ?_⟩
  simp only [State.addStatus, hx]
  rw [h]
  simp only [State.updContext, State.updRating, hx, Option.map_some]

/-! ### Payment (R79) -/

/-- A charge paid out of banked credit (R79, R82). -/
theorem State.payCharge_form {s : State} {x : RatingContext} (h : s.noneWaits) (hx : s.rating.context = some x)
    (charge : Charge) : ∃ phase again queue, s.payCharge x charge =
      { s with rating := { s.rating with context := some (x.paid charge s.now) }
               coin := { s.coin with banked := s.coin.banked - charge.amount }
               cash := { s.cash with
                 totals := { s.cash.totals with revenue := addMoney s.cash.totals.revenue charge.amount }
                 openCall := s.cash.openCall.map fun o => o.mirrored (x.paid charge s.now)
                 phase := phase, again := again }
               emitter := { s.emitter with pipsDue := 0, pipTimer := none }
               path := { s.path with partQueue := queue } } := by
  let u := (s.updCoin fun c => { c with banked := c.banked - charge.amount }).updCash fun c =>
    { c with totals := { c.totals with revenue := addMoney c.totals.revenue charge.amount } }
  have hdraw : s.drawBanked charge.amount = u.cashChanged := State.creditChanged_of_none (s := u) h
  obtain ⟨phase₁, again₁, queue₁, h₁⟩ := u.cashChanged_form
  obtain ⟨phase, again, queue, h₂⟩ := State.mirrorCall_form
    ((s.drawBanked charge.amount).updContext fun x => x.paid charge s.now) (x.paid charge s.now)
  refine ⟨phase, again, queue, ?_⟩
  rw [State.payCharge, h₂, hdraw, h₁]
  simp only [u, State.endPips, State.updContext, State.updRating, State.updEmitter, State.updCoin, State.updCash, hx,
    Option.map_some]

/-! ### Awaiting a collect, and grace (R78, R81) -/

/-- The coin handler after a request for a collect (R9, R16). -/
def CoinState.collectAsked (c : CoinState) (now : Nat) : CoinState :=
  if c.inFlight then { c with request := if c.request = .none then .collect else c.request }
  else if c.escrow = [] then c
  else { c with op := .collecting, opItems := c.escrow.length, chuteCount := 0, actuator := .collect
                flapTimer := some (now + 1500), settleTimer := none }

theorem CoinState.collectAsked_keeps (c : CoinState) (now : Nat) : (c.collectAsked now).escrow = c.escrow ∧
    (c.collectAsked now).gate = c.gate ∧ (c.collectAsked now).banked = c.banked := by
  simp only [CoinState.collectAsked]
  (repeat' split) <;> exact ⟨rfl, rfl, rfl⟩

theorem CoinState.collectAsked_of_idle {c : CoinState} (hflight : c.inFlight = false) (h : c.escrow ≠ []) (now : Nat) :
    c.collectAsked now = { c with op := .collecting, opItems := c.escrow.length, chuteCount := 0, actuator := .collect
                                  flapTimer := some (now + 1500), settleTimer := none } := by
  rw [CoinState.collectAsked, if_neg (by simp [hflight]), if_neg h]

theorem CoinState.collectAsked_of_inFlight {c : CoinState} (h : c.inFlight = true) (now : Nat) :
    c.collectAsked now = { c with request := if c.request = .none then .collect else c.request } := if_pos h

theorem State.requestCollect_eq (s : State) : s.requestCollect = { s with coin := s.coin.collectAsked s.now } := by
  by_cases hflight : s.coin.inFlight = true
  · rw [State.requestCollect, if_pos hflight, CoinState.collectAsked, if_pos hflight]
    rfl
  · rw [State.requestCollect, if_neg hflight, CoinState.collectAsked, if_neg hflight]
    split <;> rfl

theorem State.collectAtAnswer_eq (s : State) : s.collectAtAnswer =
    { s with coin := if s.coin.escrow = [] then s.coin else s.coin.collectAsked s.now } := by
  simp only [State.collectAtAnswer]
  split
  · rfl
  · exact s.requestCollect_eq

/-- A pip that falls due changes the emitter, and of a report caller what it has handed (R44). -/
theorem State.pipFallsDue_form (s : State) (moment : Nat) : ∃ e r, s.pipFallsDue moment =
    { s with emitter := e, report := r } ∧ e.pipTimer = some (moment + 2000) := by
  let u := s.updEmitter fun e => { e with pipsDue := e.pipsDue + 1, pipTimer := some (moment + Config.pipPeriodMs) }
  have hdue : 0 < u.emitter.pipsDue := Nat.succ_pos _
  have hbegin (v : State) (item : EmitterItem) (ms : Nat) : v.beginItem item ms =
      { v with emitter := { v.emitter with item := some item, timer := v.later ms } } := rfl
  have hpip : s.pipFallsDue moment = u.emitNext := rfl
  have hdigit (v : State) (code : Nat) : ∃ item ms, v.beginDigit code .reportDigit = v.beginItem item ms := by
    simp only [State.beginDigit]
    split
    · exact ⟨_, _, rfl⟩
    · exact ⟨_, _, rfl⟩
  rw [hpip, State.emitNext]
  split
  · exact ⟨u.emitter, u.report, rfl, rfl⟩
  split
  · rw [State.nextCustomerItem, if_pos hdue]
    exact ⟨_, u.report, rfl, rfl⟩
  · simp only [State.nextReportItem]
    split
    · split
      · rename_i d _
        obtain ⟨item, ms, h⟩ := hdigit (u.updReport fun r => { r with digitsHanded := r.digitsHanded + 1 }) d
        rw [h]
        exact ⟨_, _, rfl, rfl⟩
      · exact ⟨u.emitter, u.report, rfl, rfl⟩
    · split
      · exact ⟨_, _, rfl, rfl⟩
      · exact ⟨u.emitter, u.report, rfl, rfl⟩
    · exact ⟨u.emitter, u.report, rfl, rfl⟩
  · exact ⟨u.emitter, u.report, rfl, rfl⟩

/-- Entry to grace (R81). -/
theorem State.enterGrace_form {s : State} {x : RatingContext} (hx : s.rating.context = some x) :
    ∃ e r, s.enterGrace =
      { s with rating := { s.rating with context := some { x with
                 payment := .grace, graceTimer := some (s.now + 1000 * s.setup.settings.graceTime)
                 cutWaiting := false, unitTimer := x.unitTimer.pause s.now } }
               status := { s.status with flags := s.status.flags ||| EventFlag.creditLow.only }
               path := (s.tally .graceEntries).path, emitter := e, report := r } ∧
      e.pipTimer = some (s.now + 2000) := by
  let v := (s.updContext fun c =>
      { c with payment := .grace, graceTimer := s.later (1000 * s.setup.settings.graceTime),
               cutWaiting := false, unitTimer := c.unitTimer.pause s.now }).raise .creditLow
  let u := v.tally .graceEntries
  obtain ⟨e, r, h, hpip⟩ := u.pipFallsDue_form s.now
  refine ⟨e, r, ?_, hpip⟩
  have hgrace : s.enterGrace = u.pipFallsDue s.now := rfl
  rw [hgrace, h]
  have htally : u = { s with
      rating := { s.rating with context := some { x with
        payment := .grace, graceTimer := some (s.now + 1000 * s.setup.settings.graceTime)
        cutWaiting := false, unitTimer := x.unitTimer.pause s.now } }
      status := { s.status with flags := s.status.flags ||| EventFlag.creditLow.only }
      path := (s.tally .graceEntries).path } := by
    have hpath : (v.tally .graceEntries).path = (s.tally .graceEntries).path := State.tally_path_congr .graceEntries rfl
    simp only [u]
    rw [v.tally_eq, hpath]
    simp only [v, State.updContext, State.updRating, State.raise, State.updStatus, hx, Option.map_some, State.later]
  rw [htally]

/-- The escrow can still pay a charge (R78). -/
theorem CoinState.available_iff (c : CoinState) : c.available = true ↔
    (c.escrow ≠ [] ∨ c.gate ≠ none) ∧ c.op ≠ .refunding ∧ c.request ≠ .refund := by
  simp [CoinState.available, Option.isSome_iff_ne_none, and_assoc]

/-- A charge that the escrow can still pay awaits a collect (R78). -/
theorem State.awaitCredit_of_available {s : State} {x : RatingContext} (hx : s.rating.context = some x)
    (h : s.coin.available = true) : s.awaitCredit =
      { s with rating := { s.rating with context := some { x with payment := .collectWait } }
               coin := s.coin.collectAsked s.now } := by
  rw [State.awaitCredit, if_pos h, State.requestCollect_eq]
  simp only [State.updContext, State.updRating, hx, Option.map_some]

theorem State.awaitCredit_of_not_available {s : State} (h : s.coin.available = false) :
    s.awaitCredit = s.enterGrace := if_neg (by simp [h])

end Sys2Proof.Machine
end

section
/-! The end of a unit (O46). -/

namespace Sys2Proof.Machine

/-- A context with the charge of a unit due, after the unit's timer has stopped (R76). -/
def RatingContext.unitDue (x : RatingContext) (rated : RatedUnit × RatingFlags) : RatingContext :=
  { x with unitTimer := .stopped, status := x.status ||| rated.2
           charge := some ⟨rated.1.charge, 1, .unitExpiry rated.1⟩ }

/-- The payment check of a charge that has just fallen due (R78). -/
theorem State.checkCharge_eq {s : State} {x : RatingContext} {charge : Charge} (hx : s.rating.context = some x)
    (hcharge : x.charge = some charge) :
    s.checkCharge = if charge.amount ≤ s.coin.banked then s.payCharge x charge else s.awaitCredit := by
  simp only [State.checkCharge, hx, hcharge]

/-- A unit that has ended: the charge for the next falls due, and is checked (R76). -/
theorem State.unitEnds_eq {s : State} {x : RatingContext} {snap : Snapshot} (hx : s.rating.context = some x)
    (hsnap : x.snapshot = some snap) : ∃ v, s.unitEnds = v.checkCharge ∧ ∃ mirror phase again queue,
      v = { s with rating := { s.rating with context := some (x.unitDue (ratedUnit snap s.clock)) }
                   cash := { s.cash with openCall := mirror, phase := phase, again := again }
                   path := { s.path with partQueue := queue } } := by
  let rated := ratedUnit snap s.clock
  let stopped := { x with unitTimer := .stopped }
  let u := s.updContext fun x => { x with unitTimer := .stopped }
  have hu : u = { s with rating := { s.rating with context := some stopped } } := by
    simp only [u, stopped, State.updContext, State.updRating, hx, Option.map_some]
  obtain ⟨phase, again, queue, hadd⟩ := State.addStatus_form (s := u) (x := stopped) (by rw [hu]) rated.2
  refine ⟨(u.addStatus rated.2).raiseCharge rated.1.charge 1 (.unitExpiry rated.1), ?_,
    s.cash.openCall.map fun o => o.mirrored (stopped.addFlags rated.2), phase, again, queue, ?_⟩
  · simp only [State.unitEnds, hx, hsnap]
    rfl
  · rw [hadd, hu]
    rfl

/-- A request for a collect while no refund is asked for (R16). -/
theorem CoinState.request_collect {c : CoinState} (h : c.request ≠ .refund) :
    (if c.request = .none then .collect else c.request) = PendingRequest.collect := by
  cases hr : c.request
  case refund => exact absurd hr h
  all_goals rfl

end Sys2Proof.Machine

open Sys2Proof Sys2Proof.Machine

/-- Settles O46, by the payment check of the charge that falls due. -/
theorem unitTimerRunsOut : Obligations.UnitTimerRunsOut := by
  intro s x m hlive howed hdeposit hline hx htimer n
  let u := s.reach m
  have hu : u = { s with now := n } := rfl
  have hmoment : s.unitMoment = some m := by simp only [State.unitMoment, hx, htimer]
  have hexec : exec .unitTimerExpiry s = .next (u.thenTest State.unitExpired) := by
    refine congrArg Host.Outcome.next ?_
    rw [State.whenLive_of_live hlive]
    exact State.onExpiry_of_running hmoment
  refine ⟨fun p hp => ?_, fun snap hnone hsnap => ?_⟩
  · have hwait : u.unitExpired =
        { s with now := n, rating := { s.rating with context := some { x with unitTimer := .atZero } } } := by
      have hxu : u.rating.context = some x := hx
      simp only [State.unitExpired, hxu, hp, State.updContext, State.updRating, Option.map_some]
      rfl
    rw [hexec, State.thenTest_of_not_owed (by rw [hwait]; exact howed), hwait]
  · intro next available
    have hends : u.unitExpired = u.unitEnds := by
      have hxu : u.rating.context = some x := hx
      simp only [State.unitExpired, hxu, hnone]
    obtain ⟨v, hv, mirror, phase, again, queue, hform⟩ := State.unitEnds_eq (s := u) hx hsnap
    let y := x.unitDue (ratedUnit snap s.clock)
    let charge : Charge := ⟨next.charge, 1, .unitExpiry next⟩
    have hvx : v.rating.context = some y := by rw [hform]; rfl
    have hvcoin : v.coin = s.coin := by rw [hform]; rfl
    have hcheck : u.unitExpired = if next.charge ≤ s.coin.banked then v.payCharge y charge else v.awaitCredit := by
      rw [hends, hv, State.checkCharge_eq (charge := charge) hvx rfl, hvcoin]
    have hnow : v.now = n := by rw [hform]; rfl
    have havailable : v.coin.available = true ↔ available := by
      rw [hvcoin]
      exact s.coin.available_iff
    refine ⟨fun hcovered => ?_, fun hshort hcan => ?_, fun hshort hcannot => ?_⟩
    · rw [if_pos hcovered] at hcheck
      have hnone : v.noneWaits := by rw [hform]; exact ⟨hdeposit, hline⟩
      obtain ⟨phase, again, queue, hpay⟩ := State.payCharge_form hnone hvx charge
      rw [hpay, hform] at hcheck
      rw [hexec, State.thenTest_of_not_owed (by rw [hcheck]; exact howed), hcheck]
      refine ⟨_, y.paid charge n, rfl, rfl, rfl, rfl, rfl, rfl, rfl, fun hfull => ?_, rfl, rfl, rfl, rfl, rfl, rfl, rfl,
        rfl, rfl, rfl, rfl, rfl, rfl, rfl, rfl, rfl, rfl, rfl⟩
      exact RatingContext.paid_saturated (x := y) (p := charge) hfull
    · rw [if_neg (by omega), State.awaitCredit_of_available hvx (havailable.2 hcan), hform] at hcheck
      rw [hexec, State.thenTest_of_not_owed (by rw [hcheck]; exact howed), hcheck]
      obtain ⟨hescrow, hgate, hbanked⟩ := s.coin.collectAsked_keeps n
      refine ⟨_, { y with payment := .collectWait }, rfl, rfl, rfl, rfl, rfl, rfl, rfl, fun hidle hitems => ?_,
        fun hflight => ?_, hescrow, hgate, hbanked, rfl, rfl, rfl, rfl⟩
      · have hstart := CoinState.collectAsked_of_idle hidle hitems n
        exact ⟨(congrArg CoinState.op hstart :), (congrArg CoinState.opItems hstart :),
          (congrArg CoinState.chuteCount hstart :), (congrArg CoinState.actuator hstart :),
          (congrArg CoinState.flapTimer hstart :)⟩
      · refine (CoinState.collectAsked_of_inFlight hflight n).trans ?_
        rw [CoinState.request_collect hcan.2.2]
    · obtain ⟨e, r, hgrace, hpip⟩ := State.enterGrace_form hvx
      have htallies : (v.tally .graceEntries).path.tallies = (s.tally .graceEntries).path.tallies := by
        rw [State.tally_tallies, State.tally_tallies, hform]
        rfl
      rw [if_neg (by omega), State.awaitCredit_of_not_available (Bool.eq_false_iff.2 fun h => hcannot (havailable.1 h)),
        hgrace] at hcheck
      rw [hnow] at hpip hcheck
      rw [hexec, State.thenTest_of_not_owed (by rw [hcheck, hform]; exact howed), hcheck]
      refine ⟨_, _, rfl, rfl, rfl, rfl, rfl, ?_, rfl, rfl, rfl, ?_, ?_, hpip, hvcoin, ?_, ?_, ?_⟩
      · rw [hform]
        rfl
      · exact State.raise_self v .creditLow
      · exact (State.pendingTally_congr htallies .graceEntries).trans (s.tally_rises .graceEntries)
      · rw [hform]
        rfl
      · rw [hform]
        rfl
      · rw [hform]
        rfl
end

section
/-! The cut for want of credit, the end of grace and the metering pulses (O47). -/

namespace Sys2Proof.Machine

/-! ### The cut (R84) -/

/-- The record of a call that is cut for want of credit (R84, R90). -/
def State.cutRecord (s : State) (x : RatingContext) : CallRecord :=
  { kind := (s.number.kind.map ZoneKind.recordKind).getD .paid, cause := .creditExhausted,
    zone := s.number.zone, number := some s.number.digits,
    seizeTime := some (s.line.seizeTime.getD s.calendar), answerTime := s.line.answerTime,
    endTime := s.calendar, units := some x.units, charge := x.total, coins := some x.coins,
    flags := x.status ||| RatingFlag.graceCut.only, calls := 1, alarms := none }

/-- What a cut leaves: a closed call, with the purse and the money totals as they were. -/
structure State.cutFrom (s t : State) (x : RatingContext) : Prop where
  phase : t.line.phase = .guarded
  owner : t.line.owner = none
  guard : t.line.guardTimer = some (s.now + 800)
  number : t.number.phase = .empty
  context : t.rating.context = none
  openCall : t.cash.openCall = none
  records : t.records = (s.offerRecord (s.cutRecord x)).records
  summary : t.cash.summary = s.cash.summary ||| (x.status ||| RatingFlag.graceCut.only)
  flag : EventFlag.call.isIn t.status.flags = true
  coin : t.coin = s.coin
  totals : t.cash.totals = s.cash.totals
  closeOwed : t.cash.closeOwed = s.cash.closeOwed
  now : t.now = s.now
  mem : t.mem = s.mem
  setup : t.setup = s.setup

theorem State.cutCall_cutFrom {s : State} {x : RatingContext} (hx : s.rating.context = some x)
    (howner : s.line.owner = some .customer) (hline : s.line.phase = .connected) : s.cutFrom s.cutCall x := by
  let f := RatingFlag.graceCut.only
  obtain ⟨phase, again, queue, hadd⟩ := State.addStatus_form hx f
  let u := (s.addStatus f).tally .creditCuts
  have hu : u = { s with
      rating := { s.rating with context := some (x.addFlags f) }
      cash := { s.cash with openCall := s.cash.openCall.map fun o => o.mirrored (x.addFlags f)
                            phase := phase, again := again }
      path := u.path } := by
    have htally := State.tally_eq (s.addStatus f) .creditCuts
    rw [hadd] at htally
    simp only [u]
    rw [hadd]
    exact htally
  have huowner : u.line.owner = some .customer := by rw [hu]; exact howner
  have hcut : s.cutCall = u.endCall .creditExhausted := if_pos huowner
  have hidle : u.line.phase ≠ .idle := by
    rw [hu]
    simp [hline]
  obtain ⟨lphase, lowner, -, -, -, -, -, lguard⟩ := State.endCall_line_fields hidle .creditExhausted
  obtain ⟨nphase, -, -, ncontext⟩ := u.endCall_number (cause := .creditExhausted) (by decide)
  obtain ⟨hopen, hsummary, hrecords, hflag⟩ := u.endCall_effect .creditExhausted
  obtain ⟨htotals, howed⟩ := u.endCall_totals .creditExhausted
  have hrecord : u.customerRecord .creditExhausted = s.cutRecord x := by rw [hu]; rfl
  have hframe : (u.endCall .creditExhausted).coin = u.coin ∧ (u.endCall .creditExhausted).now = u.now ∧
      (u.endCall .creditExhausted).mem = u.mem ∧ (u.endCall .creditExhausted).setup = u.setup := by simp
  obtain ⟨hcoin, hnow, hmem, hsetup⟩ := hframe
  have hguarded : u.line.phase ≠ .guarded := by
    rw [hu]
    simp [hline]
  rw [hcut]
  refine ⟨lphase, lowner, (lguard hguarded).1.trans ?_, nphase, ncontext, hopen, ?_, ?_, hflag, hcoin.trans ?_,
    htotals.trans ?_, howed.trans ?_, hnow.trans ?_, hmem.trans ?_, hsetup.trans ?_⟩
  · rw [hu]
  · rw [hrecords, hrecord]
    exact State.offerRecord_records_congr _ (by rw [hu])
  · rw [hsummary, hu]
    rfl
  all_goals rw [hu]

/-! ### A metering pulse (R77) -/

/-- The context that a charged pulse has named (R89). -/
def RatingContext.pulsed (x : RatingContext) (rated : RatedUnit × RatingFlags) : RatingContext :=
  { x with status := x.status ||| rated.2, lastPulse := some rated.1 }

theorem State.chargePulse_form {s : State} {x : RatingContext} (hx : s.rating.context = some x)
    (rated : RatedUnit × RatingFlags) : ∃ mirror phase again queue, s.chargePulse rated =
      { s with rating := { s.rating with context := some (x.pulsed rated) }
               cash := { s.cash with openCall := mirror, phase := phase, again := again }
               path := { s.path with partQueue := queue } } := by
  obtain ⟨phase, again, queue, h⟩ := State.addStatus_form hx rated.2
  refine ⟨s.cash.openCall.map fun o => o.mirrored (x.addFlags rated.2), phase, again, queue, ?_⟩
  rw [State.chargePulse, h]
  rfl

/-- The payment check of a charge that is no answer's (R78). -/
theorem State.paymentCheck_eq {s : State} {x : RatingContext} {charge : Charge} (hx : s.rating.context = some x)
    (hcharge : x.charge = some charge) (hother : charge.origin ≠ .answer) :
    s.paymentCheck = if charge.amount ≤ s.coin.banked then s.payCharge x charge else s.awaitCredit := by
  have hpay : s.payAndGoOn x charge = s.payCharge x charge := if_neg fun h => hother h.1
  simp only [State.paymentCheck, hx, hcharge, hpay]

/-- A pulse on a settled call: its charge falls due and is checked (R77). -/
theorem State.ratePulse_settled {s : State} {x : RatingContext} {snap : Snapshot} (hx : s.rating.context = some x)
    (hpayment : x.payment = .settled) : ∃ v, (let charge : Charge := ⟨(ratedUnit snap s.clock).1.charge, 1, .metering⟩
      s.ratePulse x snap = if charge.amount ≤ s.coin.banked
        then v.payCharge { x.pulsed (ratedUnit snap s.clock) with charge := some charge } charge else v.awaitCredit) ∧
      ∃ mirror phase again queue, v = { s with
        rating := { s.rating with context := some { x.pulsed (ratedUnit snap s.clock) with
          charge := some ⟨(ratedUnit snap s.clock).1.charge, 1, .metering⟩ } }
        cash := { s.cash with openCall := mirror, phase := phase, again := again }
        path := { s.path with partQueue := queue } } := by
  let rated := ratedUnit snap s.clock
  let charge : Charge := ⟨rated.1.charge, 1, .metering⟩
  obtain ⟨mirror, phase, again, queue, hpulse⟩ := State.chargePulse_form hx rated
  let v := (s.chargePulse rated).raiseCharge rated.1.charge 1 .metering
  have hv : v = { s with
      rating := { s.rating with context := some { x.pulsed rated with charge := some charge } }
      cash := { s.cash with openCall := mirror, phase := phase, again := again }
      path := { s.path with partQueue := queue } } := by
    simp only [v]
    rw [hpulse]
    rfl
  refine ⟨v, ?_, mirror, phase, again, queue, hv⟩
  have hrate : s.ratePulse x snap = v.paymentCheck := by simp only [State.ratePulse, hpayment]; rfl
  have hcoin : v.coin = s.coin := by rw [hv]
  rw [hrate, State.paymentCheck_eq (charge := charge) (by rw [hv]) rfl nofun, hcoin]

/-- A pulse while a collect is awaited joins a pending charge of at most one unit (R77). -/
theorem State.ratePulse_waiting {s : State} {x : RatingContext} {snap : Snapshot} {p : Charge}
    (hx : s.rating.context = some x) (hpayment : x.payment = .collectWait) (hcharge : x.charge = some p)
    (hunits : p.units ≤ 1) : ∃ mirror phase again queue, s.ratePulse x snap =
      { s with rating := { s.rating with context := some { x.pulsed (ratedUnit snap s.clock) with
                 charge := some ⟨p.amount + (ratedUnit snap s.clock).1.charge, p.units + 1, p.origin⟩ } }
               cash := { s.cash with openCall := mirror, phase := phase, again := again }
               path := { s.path with partQueue := queue } } := by
  obtain ⟨mirror, phase, again, queue, hpulse⟩ := State.chargePulse_form hx (ratedUnit snap s.clock)
  refine ⟨mirror, phase, again, queue, ?_⟩
  have hrate : s.ratePulse x snap = (s.chargePulse (ratedUnit snap s.clock)).updContext fun x =>
      x.addUnit (ratedUnit snap s.clock).1.charge := by
    simp only [State.ratePulse, hpayment, hcharge]
    exact if_pos hunits
  rw [hrate, hpulse]
  simp [State.updContext, State.updRating, RatingContext.addUnit, RatingContext.pulsed, hcharge]

/-- A pulse in grace, or one that would bring a third unit, cuts the call (R77). -/
theorem State.ratePulse_cut {s : State} {x : RatingContext} {snap : Snapshot}
    (h : x.payment = .grace ∨ (x.payment = .collectWait ∧ 2 ≤ (x.charge.map Charge.units).getD 0)) :
    s.ratePulse x snap = s.cutCall := by
  rcases h with hgrace | ⟨hwait, hunits⟩
  · simp only [State.ratePulse, hgrace]
  · simp only [State.ratePulse, hwait]
    exact if_neg (by omega)

end Sys2Proof.Machine

open Sys2Proof Sys2Proof.Machine

/-- Settles O47, by the collect that is due and by the payment state that a pulse meets. -/
theorem graceAndMeteringPulses : Obligations.GraceAndMeteringPulses := by
  refine ⟨fun s x m hlive hx htimer => ?_, fun s hlive howed hdeposit hline howner hconnected => ?_⟩
  · let u := s.reach m
    have hux : u.rating.context = some x := hx
    have hexec : exec .graceTimerExpiry s = .next u.graceExpired := by
      refine congrArg Host.Outcome.next ?_
      rw [State.whenLive_of_live hlive]
      refine State.onExpiry_of_running ?_
      simp only [State.graceMoment, hx, Option.bind_some, htimer]
    refine ⟨fun hdue => ?_, fun hop hrequest howner hconnected => ?_⟩
    · have hcollect : u.coin.collectDue = true := by
        have hcoin : u.coin = s.coin := rfl
        rcases hdue with h | h <;> simp [CoinState.collectDue, hcoin, h]
      rw [hexec, State.graceExpired, if_pos hcollect]
      simp only [State.updContext, State.updRating, hux, Option.map_some]
      rfl
    · intro record
      let v := u.updContext fun c => { c with graceTimer := none }
      have hv : v = { u with rating := { u.rating with context := some { x with graceTimer := none } } } := by
        simp only [v, State.updContext, State.updRating, hux, Option.map_some]
      have hcollect : ¬ u.coin.collectDue = true := by
        have hcoin : u.coin = s.coin := rfl
        simp [CoinState.collectDue, hcoin, hop, hrequest]
      have hstep : u.graceExpired = v.cutCall := by rw [State.graceExpired, if_neg hcollect]
      have hcut := State.cutCall_cutFrom (s := v) (x := { x with graceTimer := none }) (by rw [hv])
        (by rw [hv]; exact howner) (by rw [hv]; exact hconnected)
      rw [hexec, hstep]
      generalize v.cutCall = t at hcut
      rw [hv] at hcut
      exact ⟨t, rfl, hcut.now, hcut.records.trans (State.offerRecord_records_congr _ rfl), hcut.summary, hcut.phase,
        hcut.owner, hcut.guard, hcut.number, hcut.context, hcut.openCall, hcut.flag, hcut.coin, hcut.totals, hcut.mem,
        hcut.setup⟩
  · have hexec : exec .meteringPulse s = .next (s.thenTest State.meterConnected) := by
      refine congrArg Host.Outcome.next ?_
      rw [State.whenLive_of_live hlive]
      exact if_pos (by simp [State.customerConnected, howner, hconnected])
    have hsame (h : s.meterConnected = s) : exec .meteringPulse s = .next s := by
      rw [hexec, State.thenTest_of_not_owed (by rw [h]; exact howed), h]
    refine ⟨fun hsource => hsame ?_, fun x hx hnone => hsame ?_, fun x snap hsource hx hsnap => ?_⟩
    · simp only [State.meterConnected]
      split
      · split
        · simp only [hsource]
        · rfl
      · rfl
    · simp only [State.meterConnected, hx, hnone]
    · intro u available
      have hmeter : s.meterConnected = s.ratePulse x snap := by simp only [State.meterConnected, hx, hsnap, hsource]
      have hstep {t : State} (h : s.ratePulse x snap = t) (ht : t.cash.closeOwed = false) :
          exec .meteringPulse s = .next t := by
        rw [hexec, State.thenTest_of_not_owed (by rw [hmeter, h]; exact ht), hmeter, h]
      let y : RatingContext := { x.pulsed (ratedUnit snap s.clock) with charge := some ⟨u.charge, 1, .metering⟩ }
      refine ⟨fun hpayment hcovered => ?_, fun p hpayment hcharge hunits => ?_, fun hpayment hshort => ?_,
        fun hcut => ?_⟩
      · obtain ⟨v, hrate, mirror, phase, again, queue, hv⟩ := State.ratePulse_settled (snap := snap) hx hpayment
        obtain ⟨phase', again', queue', hpay⟩ := State.payCharge_form (s := v) (x := y)
          (by rw [hv]; exact ⟨hdeposit, hline⟩) (by rw [hv]) ⟨u.charge, 1, .metering⟩
        have hfinal := hrate.trans ((if_pos hcovered).trans hpay)
        rw [hv] at hfinal
        exact ⟨_, _, hstep hfinal howed, rfl, rfl, rfl, rfl, rfl, rfl, rfl, rfl, rfl, rfl, rfl, rfl, rfl, rfl, rfl⟩
      · obtain ⟨mirror, phase, again, queue, hrate⟩ := State.ratePulse_waiting (snap := snap) hx hpayment hcharge hunits
        exact ⟨_, _, hstep hrate howed, rfl, rfl, hpayment, rfl, rfl, rfl, rfl, rfl, rfl, rfl⟩
      · obtain ⟨v, hrate, mirror, phase, again, queue, hv⟩ := State.ratePulse_settled (snap := snap) hx hpayment
        have hvx : v.rating.context = some y := by rw [hv]
        have hvcoin : v.coin = s.coin := by rw [hv]
        have hawait := hrate.trans (if_neg (by simpa using hshort))
        have havailable : v.coin.available = true ↔ available := by
          rw [hvcoin]
          exact s.coin.available_iff
        by_cases hcan : available
        · rw [State.awaitCredit_of_available hvx (havailable.2 hcan), hv] at hawait
          obtain ⟨-, -, hbanked⟩ := s.coin.collectAsked_keeps s.now
          refine ⟨_, _, hstep hawait howed, rfl, rfl, rfl, rfl, rfl, hbanked, fun _ => ⟨rfl, fun hitems hidle => ?_⟩,
            fun h => absurd hcan h, rfl, rfl, rfl⟩
          exact (congrArg CoinState.op (CoinState.collectAsked_of_idle hidle hitems s.now) :)
        · obtain ⟨e, r, hgrace, -⟩ := State.enterGrace_form hvx
          rw [State.awaitCredit_of_not_available (Bool.eq_false_iff.2 fun h => hcan (havailable.1 h)), hgrace, hv] at hawait
          refine ⟨_, _, hstep hawait howed, rfl, rfl, rfl, rfl, rfl, rfl, fun h => absurd h hcan, fun _ => ⟨rfl, rfl, ?_⟩,
            rfl, rfl, rfl⟩
          exact State.raise_self s .creditLow
      · intro record
        have ht := State.cutCall_cutFrom hx howner hconnected
        have hrate := State.ratePulse_cut (s := s) (snap := snap) hcut
        generalize s.cutCall = t at hrate ht
        exact ⟨t, hstep hrate (ht.closeOwed.trans howed), ht.phase, ht.owner, ht.guard, ht.records, ht.number,
          ht.context, ht.openCall, ht.summary, ht.coin, ht.totals, ht.mem⟩
end

section
/-! The answer of a customer call (O42): a charge that is checked as it falls due. -/

namespace Sys2Proof.Machine

/-! ### What a collect at the answer leaves of the coin handler -/

/-- The escrow, the gate and banked credit of `c` stand in `d`, and a collect over a non-empty escrow is in flight or asked
for (R73). -/
structure CoinState.collectedAt (c d : CoinState) (now : Nat) : Prop where
  escrow : d.escrow = c.escrow
  gate : d.gate = c.gate
  started : c.escrow ≠ [] → c.inFlight = false → d.op = .collecting ∧ d.opItems = c.escrow.length ∧
    d.actuator = .collect ∧ d.flapTimer = some (now + 1500)
  asked : c.escrow ≠ [] → c.inFlight = true → d.op = c.op ∧
    d.request = if c.request = .none then .collect else c.request
  empty : c.escrow = [] → d.op = c.op

/-- The coin handler after the collect that an answer asks for (R73). -/
def CoinState.answerAsked (c : CoinState) (now : Nat) : CoinState := if c.escrow = [] then c else c.collectAsked now

theorem CoinState.answerAsked_collectedAt (c : CoinState) (now : Nat) : c.collectedAt (c.answerAsked now) now := by
  by_cases hempty : c.escrow = []
  · rw [CoinState.answerAsked, if_pos hempty]
    exact ⟨rfl, rfl, fun h => absurd hempty h, fun h => absurd hempty h, fun _ => rfl⟩
  · rw [CoinState.answerAsked, if_neg hempty]
    obtain ⟨hescrow, hgate, -⟩ := c.collectAsked_keeps now
    refine ⟨hescrow, hgate, fun _ hidle => ?_, fun _ hflight => ?_, fun h => absurd h hempty⟩
    · rw [CoinState.collectAsked_of_idle hidle hempty]
      exact ⟨rfl, rfl, rfl, rfl⟩
    · rw [CoinState.collectAsked_of_inFlight hflight]
      exact ⟨rfl, rfl⟩

/-- A further request for a collect changes none of it (R16). -/
theorem CoinState.collectedAt.again {c d : CoinState} {now : Nat} (h : c.collectedAt d now) :
    c.collectedAt (d.collectAsked now) now := by
  obtain ⟨hescrow, hgate, -⟩ := d.collectAsked_keeps now
  refine ⟨hescrow.trans h.escrow, hgate.trans h.gate, fun hitems hidle => ?_, fun hitems hflight => ?_, fun hempty => ?_⟩
  · obtain ⟨hop, hcount, hdrive, hflap⟩ := h.started hitems hidle
    rw [CoinState.collectAsked_of_inFlight (by simp [CoinState.inFlight, hop])]
    exact ⟨hop, hcount, hdrive, hflap⟩
  · obtain ⟨hop, hrequest⟩ := h.asked hitems hflight
    have hd : d.inFlight = true := by rw [CoinState.inFlight, hop]; exact hflight
    rw [CoinState.collectAsked_of_inFlight hd]
    refine ⟨hop, ?_⟩
    rw [hrequest]
    cases c.request <;> rfl
  · have hop := h.empty hempty
    by_cases hd : d.inFlight = true
    · rw [CoinState.collectAsked_of_inFlight hd]
      exact hop
    · rw [CoinState.collectAsked, if_neg hd, if_pos (h.escrow.trans hempty)]
      exact hop

/-- Nor does a payment, or the test of an owed close. -/
theorem CoinState.collectedAt.same {c d e : CoinState} {now : Nat} (h : c.collectedAt d now)
    (hsame : ∃ banked w r, e = { d with banked := banked, fillWarned := w, reasons := { d.reasons with vaultFull := r } }) :
    c.collectedAt e now := by
  obtain ⟨banked, w, r, rfl⟩ := hsame
  exact ⟨h.escrow, h.gate, h.started, h.asked, h.empty⟩

theorem CoinState.answerAsked_banked (c : CoinState) (now : Nat) : (c.answerAsked now).banked = c.banked := by
  simp only [CoinState.answerAsked]
  split
  · rfl
  · exact (c.collectAsked_keeps now).2.2

/-- The collect at an answer leaves whether the escrow can still pay (R78). -/
theorem CoinState.answerAsked_available (c : CoinState) (now : Nat) : (c.answerAsked now).available = c.available := by
  simp only [CoinState.answerAsked]
  split
  · rfl
  · rename_i hitems
    by_cases hflight : c.inFlight = true
    · rw [CoinState.collectAsked_of_inFlight hflight]
      simp only [CoinState.available]
      cases c.request <;> rfl
    · have hop : c.op ≠ .refunding := fun h => hflight (by simp [CoinState.inFlight, h])
      rw [CoinState.collectAsked_of_idle (Bool.eq_false_iff.2 hflight) hitems]
      have hcollecting : (EscrowOp.collecting != .refunding) = (c.op != .refunding) := by
        rw [show (c.op != .refunding) = true from bne_iff_ne.2 hop]
        rfl
      simp only [CoinState.available, hcollecting]

/-! ### A charge that is checked as it falls due (R78, R79, R81) -/

/-- What the payment check of a charge leaves, with the context `y` for the context `x` that had it due. -/
structure State.charged (v r : State) (x y : RatingContext) (charge : Charge) : Prop where
  context : r.rating.context = some y
  phase : y.phase = x.phase
  snapshot : y.snapshot = x.snapshot
  unit : y.unit = x.unit
  lastPulse : y.lastPulse = x.lastPulse
  coins : y.coins = x.coins
  status : x.status ||| y.status = y.status
  stayed : r.line = v.line ∧ r.number = v.number ∧ r.now = v.now ∧ r.mem = v.mem ∧ r.setup = v.setup ∧
    r.hook = v.hook ∧ r.tamper = v.tamper ∧ r.records = v.records ∧ r.clock = v.clock
  flags : v.flagsStay r
  closeOwed : r.cash.closeOwed = v.cash.closeOwed
  openCall : ∀ m : Option OpenCall, v.cash.openCall = m.map (fun o => o.mirrored x) →
    r.cash.openCall = m.map fun o => o.mirrored y
  covered : charge.amount ≤ v.coin.banked → y.payment = .settled ∧ y.charge = none ∧ y.graceTimer = none ∧
    y.total = min (x.total + charge.amount) 65535 ∧ y.units = min (x.units + charge.units) 65535 ∧
    r.coin = { v.coin with banked := v.coin.banked - charge.amount } ∧
    r.cash.totals = { v.cash.totals with revenue := addMoney v.cash.totals.revenue charge.amount } ∧
    (charge.origin = .answer → y.unitTimer = x.unitTimer.resume v.now) ∧
    (charge.origin = .metering → y.unitTimer = x.unitTimer)
  short : v.coin.banked < charge.amount → y.charge = some charge ∧ y.total = x.total ∧ y.units = x.units ∧
    y.status = x.status ∧ r.cash.totals = v.cash.totals
  waits : v.coin.banked < charge.amount → v.coin.available = true → y.payment = .collectWait ∧
    r.coin = v.coin.collectAsked v.now ∧ y.unitTimer = x.unitTimer
  grace : v.coin.banked < charge.amount → v.coin.available = false → y.payment = .grace ∧ y.cutWaiting = false ∧
    y.graceTimer = some (v.now + 1000 * v.setup.settings.graceTime) ∧ r.coin = v.coin ∧
    y.unitTimer = x.unitTimer.pause v.now ∧ r.emitter.pipTimer = some (v.now + 2000) ∧
    EventFlag.creditLow.isIn r.status.flags = true

/-- The mirror takes the total and the status whatever it held of them before (R86). -/
theorem mirrored_again {m m' : Option OpenCall} {x : RatingContext} (h : m' = m.map fun o => o.mirrored x) (y : RatingContext) :
    (m'.map fun o => o.mirrored y) = m.map fun o => o.mirrored y := by
  subst h
  cases m <;> rfl

/-- The payment check of a charge that no unit's end has brought. -/
theorem State.charged_of_check {v : State} {x : RatingContext} {charge : Charge} (hnone : v.noneWaits)
    (hx : v.rating.context = some x) (hcharge : x.charge = some charge)
    (horigin : charge.origin = .answer ∨ charge.origin = .metering) :
    ∃ y, v.charged (if charge.amount ≤ v.coin.banked then v.payCharge x charge else v.awaitCredit) x y charge := by
  have hunit (n : Nat) : (x.paid charge n).unit = x.unit := by
    rcases horigin with h | h <;> simp [RatingContext.paid, h]
  by_cases hcovered : charge.amount ≤ v.coin.banked
  · obtain ⟨phase, again, queue, hpay⟩ := State.payCharge_form hnone hx charge
    refine ⟨x.paid charge v.now, ?_⟩
    rw [if_pos hcovered, hpay]
    refine ⟨rfl, rfl, rfl, hunit v.now, rfl, rfl, ?_, ⟨rfl, rfl, rfl, rfl, rfl, rfl, rfl, rfl, rfl⟩,
      v.flagsStay_self.of_eq rfl, rfl, fun m hm => mirrored_again hm _,
      fun _ => ⟨rfl, rfl, rfl, rfl, rfl, rfl, rfl, fun h => ?_, fun h => ?_⟩, fun h => ?_, fun h => ?_, fun h => ?_⟩
    · simp only [RatingContext.paid]
      split
      · rw [← BitVec.or_assoc, BitVec.or_self]
      · exact BitVec.or_self
    · simp [RatingContext.paid, h]
    · simp [RatingContext.paid, h]
    all_goals exact absurd hcovered (by omega)
  · have hsame (h : charge.amount ≤ v.coin.banked) : False := hcovered h
    rw [if_neg hcovered]
    by_cases hcan : v.coin.available = true
    · rw [State.awaitCredit_of_available hx hcan]
      exact ⟨{ x with payment := .collectWait }, rfl, rfl, rfl, rfl, rfl, rfl, BitVec.or_self,
        ⟨rfl, rfl, rfl, rfl, rfl, rfl, rfl, rfl, rfl⟩, v.flagsStay_self.of_eq rfl, rfl, fun m hm => hm,
        fun h => (hsame h).elim, fun _ => ⟨hcharge, rfl, rfl, rfl, rfl⟩, fun _ _ => ⟨rfl, rfl, rfl⟩,
        fun _ h => absurd (hcan.symm.trans h) (by decide)⟩
    · obtain ⟨e, r, hgrace, hpip⟩ := State.enterGrace_form hx
      rw [State.awaitCredit_of_not_available (Bool.eq_false_iff.2 hcan), hgrace]
      exact ⟨_, rfl, rfl, rfl, rfl, rfl, rfl, BitVec.or_self, ⟨rfl, rfl, rfl, rfl, rfl, rfl, rfl, rfl, rfl⟩,
        (State.flagsStay.raise (s := v) v.flagsStay_self .creditLow).of_eq rfl, rfl, fun m hm => hm,
        fun h => (hsame h).elim, fun _ => ⟨hcharge, rfl, rfl, rfl, rfl⟩, fun _ h => absurd h hcan,
        fun _ _ => ⟨rfl, rfl, rfl, rfl, rfl, hpip, State.raise_self v .creditLow⟩⟩

/-! ### The answer handed to the rating engine (R73 to R75) -/

/-- The answer of a PAID call under INTERNAL rating: unit 1, and the charge S + Ueff (R73). -/
theorem State.answerInternal_charged {w : State} {x : RatingContext} {snap : Snapshot} (hnone : w.noneWaits)
    (hx : w.rating.context = some x) :
    let first := ratedUnit snap w.clock
    let charge : Charge := ⟨snap.setupCharge + first.1.charge, 1, .answer⟩
    ∃ (v : State) (y : RatingContext), v.charged (w.answerInternal snap)
        { x with status := x.status ||| first.2, unit := some first.1
                 unitTimer := .running (w.now + 100 * first.1.length), charge := some charge } y charge ∧
      ∃ phase again queue, v = { w with
        coin := w.coin.answerAsked w.now
        rating := v.rating
        cash := { w.cash with openCall := w.cash.openCall.map fun o => o.mirrored (x.addFlags first.2)
                              phase := phase, again := again }
        path := { w.path with partQueue := queue } } := by
  intro first charge
  let x' : RatingContext := { x with
    status := x.status ||| first.2, unit := some first.1
    unitTimer := .running (w.now + 100 * first.1.length), charge := some charge }
  let a := w.collectAtAnswer
  have ha : a = { w with coin := w.coin.answerAsked w.now } := w.collectAtAnswer_eq
  obtain ⟨phase, again, queue, hadd⟩ := State.addStatus_form (s := a) (x := x) (by rw [ha]; exact hx) first.2
  let v := ((a.addStatus first.2).updContext fun c =>
    { c with unit := some first.1, unitTimer := .running (a.now + 100 * first.1.length) }).raiseCharge
      (snap.setupCharge + first.1.charge) 1 .answer
  have hv : v = { w with
      coin := w.coin.answerAsked w.now
      rating := { w.rating with context := some x' }
      cash := { w.cash with openCall := w.cash.openCall.map fun o => o.mirrored (x.addFlags first.2)
                            phase := phase, again := again }
      path := { w.path with partQueue := queue } } := by
    simp only [v]
    rw [hadd, ha]
    rfl
  have hvx : v.rating.context = some x' := by rw [hv]
  have hclock : ratedUnit snap a.clock = first := by rw [ha]
  have hdef : w.answerInternal snap = v.paymentCheck := by
    simp only [State.answerInternal]
    rw [show ratedUnit snap w.collectAtAnswer.clock = first from hclock]
  have hpay : v.payAndGoOn x' charge = v.payCharge x' charge := by
    simp [State.payAndGoOn, x']
  have hcheck : v.paymentCheck = if charge.amount ≤ v.coin.banked then v.payCharge x' charge else v.awaitCredit := by
    have hcharge : x'.charge = some charge := rfl
    simp only [State.paymentCheck, hvx, hcharge, hpay]
  obtain ⟨y, hy⟩ := State.charged_of_check (v := v) (by rw [hv]; exact hnone) hvx rfl (.inl rfl)
  refine ⟨v, y, ?_, phase, again, queue, ?_⟩
  · rw [hdef, hcheck]
    exact hy
  · rw [hv]

/-- The answer of a PAID call under METERING rating with a charge S (R74). -/
theorem State.answerMetering_charged {w : State} {x : RatingContext} {snap : Snapshot} (hnone : w.noneWaits)
    (hx : w.rating.context = some x) (hsetup : 0 < snap.setupCharge) :
    let charge : Charge := ⟨snap.setupCharge, 0, .metering⟩
    ∃ (v : State) (y : RatingContext), v.charged (w.answerMetering snap) { x with charge := some charge } y charge ∧
      v = { w with coin := w.coin.answerAsked w.now, rating := v.rating } := by
  intro charge
  let v := w.collectAtAnswer.raiseCharge snap.setupCharge 0 .metering
  have hv : v = { w with coin := w.coin.answerAsked w.now
                         rating := { w.rating with context := some { x with charge := some charge } } } := by
    have ha : w.collectAtAnswer = { w with coin := w.coin.answerAsked w.now } := w.collectAtAnswer_eq
    simp only [v]
    rw [ha]
    simp only [State.raiseCharge, State.updContext, State.updRating, hx, Option.map_some]
    rfl
  have hvx : v.rating.context = some { x with charge := some charge } := by rw [hv]
  have hdef : w.answerMetering snap = v.paymentCheck := if_pos hsetup
  obtain ⟨y, hy⟩ := State.charged_of_check (v := v) (by rw [hv]; exact hnone) hvx rfl (.inr rfl)
  refine ⟨v, y, ?_, ?_⟩
  · rw [hdef, State.paymentCheck_eq (charge := charge) hvx rfl nofun]
    exact hy
  · rw [hv]

end Sys2Proof.Machine
end

section
/-! The answer of a customer call (O42): its line, its context, and what follows it. -/

namespace Sys2Proof.Machine

/-! ### The answer at the line (R53) -/

/-- The line of a call answered now (R53). -/
def State.connectedLine (s : State) : LineState :=
  { s.line with phase := .connected, answerTime := some s.calendar, answerWaitTimer := none, timedAnswerTimer := none,
                clearTimer := if s.pins.loopCurrent then none else some (s.now + 400) }

/-- The context of a call answered now (R53, R73). -/
def RatingContext.answered (x : RatingContext) (assumed : Bool) : RatingContext :=
  { x with phase := .answered, status := if assumed then x.status ||| RatingFlag.answerAssumed.only else x.status }

/-- The call is connected, before the rating engine is told. -/
def State.connectedCall (s : State) : State :=
  if s.number.kind = some .paid then (s.connectCall.raise .call).tally .paidAnswered else s.connectCall.raise .call

theorem State.connectedCall_form (s : State) : ∃ path, s.connectedCall =
    { s with line := s.connectedLine, path := path
             status := { s.status with flags := s.status.flags ||| EventFlag.call.only } } := by
  simp only [State.connectedCall]
  split
  · refine ⟨((s.connectCall.raise .call).tally .paidAnswered).path, ?_⟩
    rw [State.tally_eq]
    rfl
  · exact ⟨s.path, rfl⟩

/-- The answer before the rating engine takes it: the line is connected, and the context is an answered one. -/
theorem State.answerCall_form {s : State} {x : RatingContext} (hx : s.rating.context = some x) (assumed : Bool) :
    ∃ w : State, (∃ mirror phase again path,
      w = { s with
        line := s.connectedLine, path := path
        status := { s.status with flags := s.status.flags ||| EventFlag.call.only }
        rating := { s.rating with context := some (x.answered assumed) }
        cash := { s.cash with openCall := mirror, phase := phase, again := again } } ∧
      (assumed = false → mirror = s.cash.openCall) ∧
      ∀ c, mirror.map (fun o => o.mirrored c) = s.cash.openCall.map fun o => o.mirrored c) ∧
    (x.snapshot = none → s.answerCall assumed = w.collectAtAnswer) ∧
    (∀ snap, x.snapshot = some snap → s.setup.settings.ratingSource = .internal →
      s.answerCall assumed = w.answerInternal snap) ∧
    (∀ snap, x.snapshot = some snap → s.setup.settings.ratingSource = .metering →
      s.answerCall assumed = w.answerMetering snap) := by
  obtain ⟨path, hcall⟩ := s.connectedCall_form
  let u := if assumed then s.connectedCall.addStatus RatingFlag.answerAssumed.only else s.connectedCall
  let w := u.updContext fun c => { c with phase := .answered }
  have hw : ∃ mirror phase again path,
      w = { s with
        line := s.connectedLine, path := path
        status := { s.status with flags := s.status.flags ||| EventFlag.call.only }
        rating := { s.rating with context := some (x.answered assumed) }
        cash := { s.cash with openCall := mirror, phase := phase, again := again } } ∧
      (assumed = false → mirror = s.cash.openCall) ∧
      ∀ c, mirror.map (fun o => o.mirrored c) = s.cash.openCall.map fun o => o.mirrored c := by
    cases assumed
    · refine ⟨s.cash.openCall, s.cash.phase, s.cash.again, path, ?_, fun _ => rfl, fun _ => rfl⟩
      have hu : u = s.connectedCall := rfl
      simp only [w]
      rw [hu, hcall]
      simp only [State.updContext, State.updRating, hx, Option.map_some]
      rfl
    · obtain ⟨phase, again, queue, hadd⟩ := State.addStatus_form (s := s.connectedCall) (x := x) (by rw [hcall]; exact hx)
        RatingFlag.answerAssumed.only
      refine ⟨s.cash.openCall.map fun o => o.mirrored (x.addFlags RatingFlag.answerAssumed.only), phase, again,
        { path with partQueue := queue }, ?_, nofun, fun c => mirrored_again rfl c⟩
      have hu : u = s.connectedCall.addStatus RatingFlag.answerAssumed.only := rfl
      simp only [w]
      rw [hu, hadd, hcall]
      rfl
  refine ⟨w, hw, ?_⟩
  obtain ⟨mirror, phase, again, path', hform, -⟩ := hw
  have hwx : w.rating.context = some (x.answered assumed) := by rw [hform]
  have hsource : w.setup.settings.ratingSource = s.setup.settings.ratingSource := by rw [hform]
  have hrate : s.answerCall assumed = match w.rating.context with
      | some c =>
        match c.snapshot with
        | some snap =>
          match w.setup.settings.ratingSource with
          | .internal => w.answerInternal snap
          | .metering => w.answerMetering snap
        | none => w.collectAtAnswer
      | none => w := rfl
  have hsnapshot : (x.answered assumed).snapshot = x.snapshot := rfl
  rw [hwx, hsource] at hrate
  refine ⟨fun h => ?_, fun snap h hs => ?_, fun snap h hs => ?_⟩
  · simp only [hsnapshot, h] at hrate
    exact hrate
  · simp only [hsnapshot, h, hs] at hrate
    exact hrate
  · simp only [hsnapshot, h, hs] at hrate
    exact hrate

/-- A call with no context is connected, and nothing is rated. -/
theorem State.answerCall_of_no_context {s : State} (hx : s.rating.context = none) (assumed : Bool) :
    s.answerCall assumed = s.connectedCall := by
  obtain ⟨path, hcall⟩ := s.connectedCall_form
  have hnone : s.connectedCall.rating.context = none := by rw [hcall]; exact hx
  have hadd : s.connectedCall.addStatus RatingFlag.answerAssumed.only = s.connectedCall := by
    simp only [State.addStatus, hnone]
  have hdef : s.answerCall assumed =
      (if assumed then s.connectedCall.addStatus RatingFlag.answerAssumed.only else s.connectedCall).rateAnswer := rfl
  have hctx : s.connectedCall.updContext (fun c => { c with phase := .answered }) = s.connectedCall := by
    rw [hcall]
    simp only [State.updContext, State.updRating, hx, Option.map_none]
    rw [← hx]
  rw [hdef, hadd, ite_self]
  simp only [State.rateAnswer, hctx, hnone]

/-! ### What follows an answer (R38, R142) -/

theorem State.closeTest_openCall (s : State) : s.closeTest.cash.openCall = s.cash.openCall := by
  simp only [State.closeTest]
  split
  · simp only [State.collectionClose, State.cashChanged_items, State.raise_frame, State.removeReason_frame]
    rfl
  · rfl

theorem State.emitNext_pipTimer (s : State) : s.emitNext.emitter.pipTimer = s.emitter.pipTimer := by
  have hdigit (u : State) (code : Nat) (use : ItemUse) : (u.beginDigit code use).emitter.pipTimer = u.emitter.pipTimer := by
    simp only [State.beginDigit]
    split <;> rfl
  simp only [State.emitNext]
  split
  · rfl
  split
  · simp only [State.nextCustomerItem]
    split
    · rfl
    split
    · rfl
    split
    · simp [hdigit, State.shiftFifo]
    split
    · simp [State.beginTone, State.beginItem, State.shiftFifo]
    · rfl
  · simp only [State.nextReportItem]
    (repeat' split) <;> simp [hdigit, State.beginTone, State.beginItem]
  · rfl

/-- What an answered call keeps of `r`, the state that its answer has left. -/
structure State.settledFrom (r t : State) : Prop where
  context : t.rating.context = r.rating.context
  stayed : t.line = r.line ∧ t.now = r.now ∧ t.mem = r.mem ∧ t.setup = r.setup ∧ t.hook = r.hook ∧
    t.tamper = r.tamper ∧ t.records = r.records
  number : t.number.phase = r.number.phase ∧ t.number.digits = r.number.digits
  coin : ∃ w x, t.coin = { r.coin with fillWarned := w, reasons := { r.coin.reasons with vaultFull := x } }
  totals : r.cash.closeOwed = false → t.cash.totals = r.cash.totals
  openCall : t.cash.openCall = r.cash.openCall
  pipTimer : t.emitter.pipTimer = r.emitter.pipTimer
  flags : r.flagsStay t

theorem State.answered_settledFrom (s : State) (answer : State → State) : (answer s).settledFrom (s.answered answer) := by
  have hframe : (s.answered answer).rating = (answer s).rating ∧ (s.answered answer).line = (answer s).line ∧
      (s.answered answer).now = (answer s).now ∧ (s.answered answer).mem = (answer s).mem ∧
      (s.answered answer).setup = (answer s).setup ∧ (s.answered answer).hook = (answer s).hook ∧
      (s.answered answer).tamper = (answer s).tamper ∧ (s.answered answer).records = (answer s).records ∧
      (s.answered answer).number = (answer s).emitNext.number ∧
      (s.answered answer).emitter = (answer s).emitNext.emitter := by simp [State.answered]
  obtain ⟨hrating, hline, hnow, hmem, hsetup, hhook, htamper, hrecords, hnumber, hemitter⟩ := hframe
  have hcash : (answer s).emitNext.cash = (answer s).cash := by simp
  refine ⟨congrArg RatingState.context hrating, ⟨hline, hnow, hmem, hsetup, hhook, htamper, hrecords⟩, ?_, ?_,
    fun howed => ?_, ?_, ?_, ?_⟩
  · rw [hnumber, State.emitNext_number]
    exact ⟨rfl, rfl⟩
  · obtain ⟨w, x, h⟩ := s.thenTest_coin fun s => (answer s).emitNext
    refine ⟨w, x, h.trans ?_⟩
    simp
  · rw [State.answered, State.thenTest_of_not_owed (by rw [hcash]; exact howed), hcash]
  · simp only [State.answered, State.thenTest]
    split
    · rw [hcash]
    · rw [State.closeTest_openCall, hcash]
  · rw [hemitter, State.emitNext_pipTimer]
  · exact State.flagsStay.thenTest (State.flagsStay.emitNext (answer s).flagsStay_self)

end Sys2Proof.Machine
end

section
/-! The answer of a customer call (O42): what the rating makes of it. -/

namespace Sys2Proof.Machine

/-! ### What an answer leaves -/

/-- The escrow can still pay (R78). -/
def CoinState.canPay (c : CoinState) : Prop :=
  (c.escrow ≠ [] ∨ c.gate ≠ none) ∧ c.op ≠ .refunding ∧ c.request ≠ .refund

/-- `charge` has fallen due for the context `x` on the purse of `s`, and `t` with the context `y` is what its check left
(R78, R79, R81). -/
def State.fellDue (s t : State) (x y : RatingContext) (charge : Charge) : Prop :=
  (charge.amount ≤ s.coin.banked → y.payment = .settled ∧ y.charge = none ∧ y.graceTimer = none ∧
    y.total = min (x.total + charge.amount) 65535 ∧ y.units = min (x.units + charge.units) 65535 ∧
    t.coin.banked = s.coin.banked - charge.amount ∧
    (s.cash.closeOwed = false → t.cash.totals =
      { s.cash.totals with revenue := addMoney s.cash.totals.revenue charge.amount })) ∧
  (s.coin.banked < charge.amount → y.charge = some charge ∧ y.total = x.total ∧ y.units = x.units ∧
    t.coin.banked = s.coin.banked ∧ (s.cash.closeOwed = false → t.cash.totals = s.cash.totals) ∧
    (s.coin.canPay → y.payment = .collectWait) ∧
    (¬ s.coin.canPay → y.payment = .grace ∧ y.cutWaiting = false ∧
      y.graceTimer = some (s.now + 1000 * s.setup.settings.graceTime) ∧
      t.emitter.pipTimer = some (s.now + 2000) ∧ EventFlag.creditLow.isIn t.status.flags = true))

/-- Nothing was charged. -/
def State.notCharged (s t : State) (x y : RatingContext) : Prop :=
  y.charge = x.charge ∧ y.payment = x.payment ∧ y.total = x.total ∧ y.units = x.units ∧ y.unitTimer = x.unitTimer ∧
    t.coin.banked = s.coin.banked ∧ (s.cash.closeOwed = false → t.cash.totals = s.cash.totals)

/-- `v` is `s` with the collect at its answer asked for, at the moment a charge falls due. -/
structure State.collectsFrom (s v : State) : Prop where
  coin : v.coin = s.coin.answerAsked s.now
  now : v.now = s.now
  setup : v.setup = s.setup
  totals : v.cash.totals = s.cash.totals
  closeOwed : v.cash.closeOwed = s.cash.closeOwed
  stayed : v.line = s.connectedLine ∧ v.number = s.number ∧ v.mem = s.mem ∧ v.hook = s.hook ∧ v.tamper = s.tamper ∧
    v.clock = s.clock ∧ v.records = s.records
  flag : EventFlag.call.isIn v.status.flags = true

section
variable {s v r t : State} {x x' y : RatingContext} {charge : Charge}

theorem State.charged.fellDue (h : v.charged r x' y charge) (hv : s.collectsFrom v) (ht : r.settledFrom t)
    (htotal : x'.total = x.total) (hunits : x'.units = x.units) : s.fellDue t x y charge := by
  obtain ⟨w, z, hcoin⟩ := ht.coin
  have hbanked : v.coin.banked = s.coin.banked := by rw [hv.coin, CoinState.answerAsked_banked]
  have hcan : v.coin.available = true ↔ s.coin.canPay := by
    rw [hv.coin, CoinState.answerAsked_available]
    exact s.coin.available_iff
  have htotals (howed : s.cash.closeOwed = false) : t.cash.totals = r.cash.totals :=
    ht.totals (h.closeOwed.trans (hv.closeOwed.trans howed))
  refine ⟨fun hcovered => ?_, fun hshort => ?_⟩
  · obtain ⟨hpayment, hcharge, hgrace, hsum, hcount, hpurse, hrevenue, -, -⟩ := h.covered (hbanked ▸ hcovered)
    refine ⟨hpayment, hcharge, hgrace, htotal ▸ hsum, hunits ▸ hcount, ?_, fun howed => ?_⟩
    · rw [hcoin, hpurse, ← hbanked]
    · rw [htotals howed, hrevenue, hv.totals]
  · have hless : v.coin.banked < charge.amount := hbanked ▸ hshort
    obtain ⟨hcharge, hsum, hcount, -, hrevenue⟩ := h.short hless
    refine ⟨hcharge, hsum.trans htotal, hcount.trans hunits, ?_, fun howed => ?_, fun hpay => ?_, fun hpay => ?_⟩
    · rw [hcoin, ← hbanked]
      by_cases hc : v.coin.available = true
      · rw [(h.waits hless hc).2.1]
        exact (v.coin.collectAsked_keeps v.now).2.2
      · obtain ⟨-, -, -, hsame, -⟩ := h.grace hless (Bool.eq_false_iff.2 hc)
        rw [hsame]
    · rw [htotals howed, hrevenue, hv.totals]
    · exact (h.waits hless (hcan.2 hpay)).1
    · obtain ⟨hpayment, hwaiting, hgrace, -, -, hpip, hlow⟩ :=
        h.grace hless (Bool.eq_false_iff.2 fun hc => hpay (hcan.1 hc))
      rw [hv.now, hv.setup] at hgrace
      rw [hv.now] at hpip
      exact ⟨hpayment, hwaiting, hgrace, ht.pipTimer.trans hpip, ht.flags _ (by decide) hlow⟩

/-- A charge that falls due after a collect was asked for leaves what the collect has done. -/
theorem State.charged.collectStays {c : CoinState} (h : v.charged r x' y charge) (hv : c.collectedAt v.coin v.now) :
    c.collectedAt r.coin v.now := by
  by_cases hcovered : charge.amount ≤ v.coin.banked
  · obtain ⟨-, -, -, -, -, hpurse, -⟩ := h.covered hcovered
    exact hv.same ⟨_, _, _, hpurse⟩
  · by_cases hc : v.coin.available = true
    · rw [(h.waits (by omega) hc).2.1]
      exact hv.again
    · obtain ⟨-, -, -, hsame, -⟩ := h.grace (by omega) (Bool.eq_false_iff.2 hc)
      rw [hsame]
      exact hv

theorem State.charged.collectedAt (h : v.charged r x' y charge) (hv : s.collectsFrom v) :
    s.coin.collectedAt r.coin s.now := by
  rw [← hv.now]
  refine h.collectStays ?_
  rw [hv.coin, hv.now]
  exact s.coin.answerAsked_collectedAt s.now

theorem State.settledFrom.collectedAt (ht : r.settledFrom t) (h : s.coin.collectedAt r.coin s.now) :
    s.coin.collectedAt t.coin s.now := by
  obtain ⟨w, z, hcoin⟩ := ht.coin
  exact h.same ⟨_, _, _, hcoin⟩
end

/-- What every answer leaves, whether or not it is rated. -/
structure State.connectedFrom (s t : State) : Prop where
  now : t.now = s.now
  line : t.line = s.connectedLine
  flag : EventFlag.call.isIn t.status.flags = true
  digits : t.number.digits = s.number.digits
  stayed : t.hook = s.hook ∧ t.tamper = s.tamper ∧ t.mem = s.mem ∧ t.setup = s.setup
  purse : t.coin.escrow = s.coin.escrow ∧ t.coin.gate = s.coin.gate

/-- What the answer of a call with the context `x` leaves, with `y` for it. -/
structure State.answeredFrom (s t : State) (x y : RatingContext) (assumed : Bool) : Prop where
  connected : s.connectedFrom t
  context : t.rating.context = some y
  phase : y.phase = .answered
  snapshot : y.snapshot = x.snapshot
  marked : assumed = true → RatingFlag.answerAssumed.isIn y.status = true
  coin : s.coin.collectedAt t.coin s.now
  unrated : x.snapshot = none → s.notCharged t x y
  internal : ∀ snap, x.snapshot = some snap → s.setup.settings.ratingSource = .internal →
    let first := ratedUnit snap s.clock
    s.fellDue t x y ⟨snap.setupCharge + first.1.charge, 1, .answer⟩ ∧ y.unit = some first.1 ∧
    first.2 ||| y.status = y.status ∧
    (snap.setupCharge + first.1.charge ≤ s.coin.banked ∨ s.coin.canPay →
      y.unitTimer = .running (s.now + 100 * first.1.length)) ∧
    (¬ (snap.setupCharge + first.1.charge ≤ s.coin.banked ∨ s.coin.canPay) →
      y.unitTimer = .still (100 * first.1.length)) ∧
    ∀ o, s.cash.openCall = some o → t.cash.openCall = some { o with charge := y.total, flags := y.status }
  metering : ∀ snap, x.snapshot = some snap → s.setup.settings.ratingSource = .metering → y.unit = x.unit ∧
    (snap.setupCharge = 0 → s.notCharged t x y) ∧
    (0 < snap.setupCharge → s.fellDue t x y ⟨snap.setupCharge, 0, .metering⟩)

theorem RatingFlag.isIn_of_or {f : RatingFlag} {a b : RatingFlags} (h : f.isIn a = true) (hab : a ||| b = b) :
    f.isIn b = true := by
  rw [← hab]
  simp only [RatingFlag.isIn] at h ⊢
  simp [h]

theorem RatingContext.answered_marked (x : RatingContext) {assumed : Bool} (h : assumed = true) :
    RatingFlag.answerAssumed.isIn (x.answered assumed).status = true := by
  subst h
  have hbit : RatingFlag.answerAssumed.isIn RatingFlag.answerAssumed.only = true := by decide
  exact RatingFlag.isIn_of_or hbit (by
    rw [RatingContext.answered, if_pos rfl, ← BitVec.or_assoc, BitVec.or_comm _ x.status, BitVec.or_assoc, BitVec.or_self])

/-- The state `r` of an answer and what follows it leave a connected call. -/
theorem State.settledFrom.connectedFrom {s w r t : State} (ht : r.settledFrom t) (hline : r.line = s.connectedLine)
    (hnumber : r.number = s.number) (hcall : EventFlag.call.isIn w.status.flags = true) (hflags : w.flagsStay r)
    (hnow : r.now = s.now) (hstayed : r.hook = s.hook ∧ r.tamper = s.tamper ∧ r.mem = s.mem ∧ r.setup = s.setup)
    (hcoin : s.coin.collectedAt r.coin s.now) : s.connectedFrom t := by
  obtain ⟨tline, tnow, tmem, tsetup, thook, ttamper, -⟩ := ht.stayed
  obtain ⟨hhook, htamper, hmem, hsetup⟩ := hstayed
  have hpurse := ht.collectedAt hcoin
  exact ⟨tnow.trans hnow, tline.trans hline, ht.flags _ (by decide) (hflags _ (by decide) hcall),
    ht.number.2.trans (congrArg NumberState.digits hnumber),
    ⟨thook.trans hhook, ttamper.trans htamper, tmem.trans hmem, tsetup.trans hsetup⟩, hpurse.escrow, hpurse.gate⟩

theorem State.charged.connectedFrom {s v r t : State} {x y : RatingContext} {charge : Charge} (h : v.charged r x y charge)
    (hv : s.collectsFrom v) (ht : r.settledFrom t) : s.connectedFrom t := by
  obtain ⟨vline, vnumber, vmem, vhook, vtamper, -⟩ := hv.stayed
  obtain ⟨hline, hnumber, hnow, hmem, hsetup, hhook, htamper, -, -⟩ := h.stayed
  exact ht.connectedFrom (hline.trans vline) (hnumber.trans vnumber) hv.flag h.flags (hnow.trans hv.now)
    ⟨hhook.trans vhook, htamper.trans vtamper, hmem.trans vmem, hsetup.trans hv.setup⟩ (h.collectedAt hv)

/-- What an answer that charges nothing leaves (R75). -/
theorem State.notCharged_of_asked {s w t : State} {x : RatingContext} (assumed : Bool)
    (hw : ∃ mirror phase again path, w = { s with
      line := s.connectedLine, path := path
      status := { s.status with flags := s.status.flags ||| EventFlag.call.only }
      rating := { s.rating with context := some (x.answered assumed) }
      cash := { s.cash with openCall := mirror, phase := phase, again := again } })
    (ht : w.collectAtAnswer.settledFrom t) : s.connectedFrom t ∧ t.rating.context = some (x.answered assumed) ∧
      s.coin.collectedAt t.coin s.now ∧ s.notCharged t x (x.answered assumed) := by
  obtain ⟨mirror, phase, again, path, rfl⟩ := hw
  rw [State.collectAtAnswer_eq] at ht
  have hasked : s.coin.collectedAt (s.coin.answerAsked s.now) s.now := s.coin.answerAsked_collectedAt s.now
  obtain ⟨z, f, hcoin⟩ := ht.coin
  refine ⟨ht.connectedFrom rfl rfl (State.raise_self s .call) ((s.raise .call).flagsStay_self.of_eq rfl) rfl
    ⟨rfl, rfl, rfl, rfl⟩ hasked, ht.context, ht.collectedAt hasked, rfl, rfl, rfl, rfl, rfl, ?_, ht.totals⟩
  rw [hcoin]
  exact s.coin.answerAsked_banked s.now

/-- A status that holds two sets of flags holds each. -/
theorem RatingFlags.or_absorbed {a b c : RatingFlags} (h : a ||| b ||| c = c) : a ||| c = c ∧ b ||| c = c := by
  constructor
  · calc a ||| c = (a ||| a) ||| b ||| c := by rw [BitVec.or_assoc, BitVec.or_assoc, ← BitVec.or_assoc a b c, h]
      _ = c := by rw [BitVec.or_self, h]
  · calc b ||| c = a ||| (b ||| b) ||| c := by rw [← BitVec.or_assoc, BitVec.or_comm (a ||| b) b, BitVec.or_assoc, h]
      _ = c := by rw [BitVec.or_self, h]

/-- The timer of unit 1 by the check of its charge: it runs while the charge is paid or awaits a collect (R78, R81). -/
theorem State.charged.unitTimer {s v r : State} {x y : RatingContext} {charge : Charge} {ms : Nat}
    (h : v.charged r x y charge) (hv : s.collectsFrom v) (horigin : charge.origin = .answer)
    (htimer : x.unitTimer = .running (s.now + ms)) :
    (charge.amount ≤ s.coin.banked ∨ s.coin.canPay → y.unitTimer = .running (s.now + ms)) ∧
    (¬ (charge.amount ≤ s.coin.banked ∨ s.coin.canPay) → y.unitTimer = .still ms) := by
  have hbanked : v.coin.banked = s.coin.banked := by rw [hv.coin, CoinState.answerAsked_banked]
  have hcan : v.coin.available = true ↔ s.coin.canPay := by
    rw [hv.coin, CoinState.answerAsked_available]
    exact s.coin.available_iff
  rw [← hbanked, ← hcan, ← htimer]
  by_cases hcovered : charge.amount ≤ v.coin.banked
  · refine ⟨fun _ => ?_, fun hnot => absurd (.inl hcovered) hnot⟩
    obtain ⟨-, -, -, -, -, -, -, hresume, -⟩ := h.covered hcovered
    rw [hresume horigin, htimer]
    rfl
  · refine ⟨fun hpays => ?_, fun hnot => ?_⟩
    · exact (h.waits (by omega) (hpays.resolve_left hcovered)).2.2
    · obtain ⟨-, -, -, -, hpause, -⟩ := h.grace (by omega) (Bool.eq_false_iff.2 fun hc => hnot (.inr hc))
      rw [hpause, htimer, hv.now]
      exact congrArg UnitTimer.still (Nat.add_sub_cancel_left _ _)

/-- The answer of a PAID call under METERING rating with a charge S (R74). -/
theorem State.answerCall_metered {s : State} {x : RatingContext} {snap : Snapshot} (hnone : s.noneWaits)
    (hx : s.rating.context = some x) (hsnap : x.snapshot = some snap)
    (hsource : s.setup.settings.ratingSource = .metering) (hsetup : 0 < snap.setupCharge) (assumed : Bool) :
    let charge : Charge := ⟨snap.setupCharge, 0, .metering⟩
    ∃ v y, v.charged (s.answerCall assumed) { x.answered assumed with charge := some charge } y charge ∧
      s.collectsFrom v := by
  obtain ⟨w, ⟨mirror, phase, again, path, hw, -⟩, -, -, hmetering⟩ := State.answerCall_form hx assumed
  obtain ⟨v, y, hy, hv⟩ := State.answerMetering_charged (w := w) (x := x.answered assumed) (snap := snap)
    (by rw [hw]; exact hnone) (by rw [hw]) hsetup
  rw [← hmetering snap hsnap hsource] at hy
  refine ⟨v, y, hy, ?_⟩
  rw [hv, hw]
  exact ⟨rfl, rfl, rfl, rfl, rfl, ⟨rfl, rfl, rfl, rfl, rfl, rfl, rfl⟩, State.raise_self s .call⟩

theorem State.answerCall_answeredFrom {s t : State} {x : RatingContext} (hnone : s.noneWaits)
    (hx : s.rating.context = some x) (assumed : Bool) (ht : (s.answerCall assumed).settledFrom t) :
    ∃ y, s.answeredFrom t x y assumed := by
  obtain ⟨w, ⟨mirror, phase, again, path, hw, -, hmirror⟩, hunrated, hinternal, hmetering⟩ :=
    State.answerCall_form hx assumed
  have hwx : w.rating.context = some (x.answered assumed) := by rw [hw]
  have hwnone : w.noneWaits := by rw [hw]; exact hnone
  have hquiet (h : s.answerCall assumed = w.collectAtAnswer) :=
    State.notCharged_of_asked assumed ⟨mirror, phase, again, path, hw⟩ (h ▸ ht)
  cases hsnap : x.snapshot with
  | none =>
    obtain ⟨hconnected, hcontext, hcoin, hquiet⟩ := hquiet (hunrated hsnap)
    exact ⟨_, hconnected, hcontext, rfl, rfl, x.answered_marked, hcoin, fun _ => hquiet,
      fun snap h => by simp [hsnap] at h, fun snap h => by simp [hsnap] at h⟩
  | some snap =>
    have hclock : w.clock = s.clock := by rw [hw]
    have hnow : w.now = s.now := by rw [hw]
    cases hsource : s.setup.settings.ratingSource with
    | internal =>
      obtain ⟨v, y, hy, phase', again', queue, hv⟩ := State.answerInternal_charged (snap := snap) hwnone hwx
      rw [← hinternal snap hsnap hsource, hclock, hnow] at hy
      rw [hclock] at hv
      have hcollects : s.collectsFrom v := by
        rw [hv, hw]
        exact ⟨rfl, rfl, rfl, rfl, rfl, ⟨rfl, rfl, rfl, rfl, rfl, rfl, rfl⟩, State.raise_self s .call⟩
      have hmirrored : v.cash.openCall = s.cash.openCall.map fun o =>
          o.mirrored ((x.answered assumed).addFlags (ratedUnit snap s.clock).2) := by
        have hvw : v.cash.openCall = w.cash.openCall.map fun o =>
            o.mirrored ((x.answered assumed).addFlags (ratedUnit snap s.clock).2) := by rw [hv]
        rw [hvw, hw]
        exact hmirror _
      obtain ⟨hmarked, hfirst⟩ := RatingFlags.or_absorbed hy.status
      have hopen := ht.openCall.trans (hy.openCall _ hmirrored)
      obtain ⟨hruns, hstands⟩ := hy.unitTimer hcollects rfl rfl
      refine ⟨y, hy.connectedFrom hcollects ht, ht.context.trans hy.context, hy.phase, hy.snapshot, fun h => ?_,
        ht.collectedAt (hy.collectedAt hcollects), fun h => ?_, fun snap' h _ => ?_, fun snap' _ h => ?_⟩
      · exact RatingFlag.isIn_of_or (x.answered_marked h) hmarked
      · simp [hsnap] at h
      · obtain rfl : snap = snap' := Option.some.inj (hsnap.symm.trans h)
        refine ⟨hy.fellDue hcollects ht rfl rfl, hy.unit, hfirst, hruns, hstands, fun o ho => ?_⟩
        rw [hopen, ho]
        rfl
      · simp [hsource] at h
    | metering =>
      by_cases hsetup : 0 < snap.setupCharge
      · obtain ⟨v, y, hy, hcollects⟩ := State.answerCall_metered hnone hx hsnap hsource hsetup assumed
        refine ⟨y, hy.connectedFrom hcollects ht, ht.context.trans hy.context, hy.phase, hy.snapshot, fun h => ?_,
          ht.collectedAt (hy.collectedAt hcollects), fun h => ?_, fun snap' _ h => ?_, fun snap' h _ => ?_⟩
        · exact RatingFlag.isIn_of_or (x.answered_marked h) hy.status
        · simp [hsnap] at h
        · simp [hsource] at h
        · obtain rfl : snap = snap' := Option.some.inj (hsnap.symm.trans h)
          exact ⟨hy.unit, fun h => by omega, fun _ => hy.fellDue hcollects ht rfl rfl⟩
      · have hask : s.answerCall assumed = w.collectAtAnswer :=
          (hmetering snap hsnap hsource).trans (if_neg hsetup)
        obtain ⟨hconnected, hcontext, hcoin, hquiet⟩ := hquiet hask
        refine ⟨_, hconnected, hcontext, rfl, rfl, x.answered_marked, hcoin, fun h => ?_, fun snap' _ h => ?_,
          fun snap' h _ => ?_⟩
        · simp [hsnap] at h
        · simp [hsource] at h
        · obtain rfl : snap = snap' := Option.some.inj (hsnap.symm.trans h)
          exact ⟨rfl, fun _ => hquiet, fun h => absurd h hsetup⟩

end Sys2Proof.Machine
end

section
/-! The answer by a metering pulse, which is a metering pulse too (O42). -/

namespace Sys2Proof.Machine

/-- The answer of a PAID call under METERING rating whose charge S the purse covers, or that has none (R74, R78). -/
theorem State.answerCall_paid {s : State} {x : RatingContext} {snap : Snapshot} (hnone : s.noneWaits)
    (hx : s.rating.context = some x) (hsnap : x.snapshot = some snap)
    (hsource : s.setup.settings.ratingSource = .metering) (hpayment : x.payment = .settled) (htotal : x.total ≤ 65535)
    (hunits : x.units ≤ 65535) (hcovered : snap.setupCharge ≤ s.coin.banked) :
    ∃ y, (s.answerCall false).rating.context = some y ∧ y.phase = .answered ∧ y.snapshot = some snap ∧
      y.payment = .settled ∧ y.total = min (x.total + snap.setupCharge) 65535 ∧ y.units = x.units ∧
      y.unitTimer = x.unitTimer ∧
      (s.answerCall false).coin = { s.coin.answerAsked s.now with banked := s.coin.banked - snap.setupCharge } ∧
      ((s.answerCall false).line = s.connectedLine ∧ (s.answerCall false).number = s.number ∧
        (s.answerCall false).now = s.now ∧ (s.answerCall false).mem = s.mem ∧ (s.answerCall false).setup = s.setup ∧
        (s.answerCall false).hook = s.hook ∧ (s.answerCall false).tamper = s.tamper ∧
        (s.answerCall false).clock = s.clock) ∧
      EventFlag.call.isIn (s.answerCall false).status.flags = true := by
  by_cases hsetup : 0 < snap.setupCharge
  · obtain ⟨v, y, hy, hv⟩ := State.answerCall_metered hnone hx hsnap hsource hsetup false
    have hbanked : v.coin.banked = s.coin.banked := by rw [hv.coin, CoinState.answerAsked_banked]
    obtain ⟨ypayment, -, -, ytotal, yunits, hcoin, -, -, htimer⟩ := hy.covered (by rw [hbanked]; exact hcovered)
    obtain ⟨vline, vnumber, vmem, vhook, vtamper, vclock, -⟩ := hv.stayed
    obtain ⟨hline, hnumber, hnow, hmem, hrsetup, hhook, htamper, -, hclock⟩ := hy.stayed
    refine ⟨y, hy.context, hy.phase, hy.snapshot.trans hsnap, ypayment, ytotal, yunits.trans ?_, htimer rfl, ?_,
      ⟨hline.trans vline, hnumber.trans vnumber, hnow.trans hv.now, hmem.trans vmem, hrsetup.trans hv.setup,
        hhook.trans vhook, htamper.trans vtamper, hclock.trans vclock⟩, hy.flags _ (by decide) hv.flag⟩
    · exact Nat.min_eq_left hunits
    · rw [hcoin, hbanked, hv.coin]
  · obtain ⟨w, ⟨mirror, phase, again, path, hw, -⟩, -, -, hmetering⟩ := State.answerCall_form hx false
    have hr : s.answerCall false = w.collectAtAnswer := (hmetering snap hsnap hsource).trans (if_neg hsetup)
    have hzero : snap.setupCharge = 0 := by omega
    rw [hr, State.collectAtAnswer_eq, hw, hzero]
    refine ⟨x.answered false, rfl, rfl, hsnap, hpayment, (Nat.min_eq_left htotal).symm, rfl, rfl, ?_,
      ⟨rfl, rfl, rfl, rfl, rfl, rfl, rfl, rfl⟩, State.raise_self s .call⟩
    rw [Nat.sub_zero, ← s.coin.answerAsked_banked s.now]
    rfl

/-- A pulse on a settled call: its charge is checked as it falls due (R77, R78). -/
theorem State.ratePulse_charged {r : State} {x : RatingContext} {snap : Snapshot} (hnone : r.noneWaits)
    (hx : r.rating.context = some x) (hpayment : x.payment = .settled) :
    let charge : Charge := ⟨(ratedUnit snap r.clock).1.charge, 1, .metering⟩
    ∃ (v : State) (y : RatingContext), v.charged (r.ratePulse x snap) { x.pulsed (ratedUnit snap r.clock) with charge := some charge } y charge ∧
      v.coin = r.coin ∧ v.now = r.now ∧ v.line = r.line ∧ v.number = r.number ∧ v.mem = r.mem ∧ v.setup = r.setup ∧
      v.hook = r.hook ∧ v.tamper = r.tamper ∧ v.status = r.status := by
  intro charge
  obtain ⟨v, hrate, mirror, phase, again, queue, hv⟩ := State.ratePulse_settled (snap := snap) hx hpayment
  have hvcoin : v.coin = r.coin := by rw [hv]
  obtain ⟨y, hy⟩ := State.charged_of_check (v := v) (charge := charge) (by rw [hv]; exact hnone) (by rw [hv]) rfl (.inr rfl)
  rw [hvcoin] at hy
  refine ⟨v, y, ?_, ?_⟩
  · rw [hrate]
    exact hy
  · rw [hv]
    exact ⟨rfl, rfl, rfl, rfl, rfl, rfl, rfl, rfl, rfl⟩

theorem State.flagsStay.cutCall {s₀ s : State} (h : s₀.flagsStay s) {x : RatingContext} (hx : s.rating.context = some x)
    (howner : s.line.owner = some .customer) : s₀.flagsStay s.cutCall := by
  obtain ⟨phase, again, queue, hadd⟩ := State.addStatus_form hx RatingFlag.graceCut.only
  have hkept : s₀.flagsStay (s.addStatus RatingFlag.graceCut.only) := h.of_eq (by rw [hadd])
  have hcut : s.cutCall = ((s.addStatus RatingFlag.graceCut.only).tally .creditCuts).endCall .creditExhausted := by
    refine if_pos ?_
    rw [State.tally_eq, hadd]
    exact howner
  rw [hcut]
  exact (hkept.tally _).endCall _

/-- A pulse does nothing in a call that takes none, or that has no snapshot (R75, R77). -/
theorem State.meterConnected_of_unmetered {r : State}
    (h : r.setup.settings.ratingSource = .internal ∨ ∀ x, r.rating.context = some x → x.snapshot = none) :
    r.meterConnected = r := by
  cases hx : r.rating.context with
  | none => simp only [State.meterConnected, hx]
  | some x =>
    cases hsnap : x.snapshot with
    | none => simp only [State.meterConnected, hx, hsnap]
    | some snap =>
      have hsource := h.resolve_right fun hno => by simp [hno x hx] at hsnap
      simp only [State.meterConnected, hx, hsnap, hsource]

theorem State.meterConnected_of_metered {r : State} {x : RatingContext} {snap : Snapshot}
    (hx : r.rating.context = some x) (hsnap : x.snapshot = some snap)
    (hsource : r.setup.settings.ratingSource = .metering) : r.meterConnected = r.ratePulse x snap := by
  simp only [State.meterConnected, hx, hsnap, hsource]

/-- What the check of a charge leaves of banked credit (R78). -/
theorem State.charged.banked {v r t : State} {x y : RatingContext} {charge : Charge} (h : v.charged r x y charge)
    (ht : r.settledFrom t) : t.coin.banked =
      if charge.amount ≤ v.coin.banked then v.coin.banked - charge.amount else v.coin.banked := by
  obtain ⟨w, z, hcoin⟩ := ht.coin
  rw [hcoin]
  split
  · rename_i hcovered
    obtain ⟨-, -, -, -, -, hpurse, -⟩ := h.covered hcovered
    rw [hpurse]
  · by_cases hc : v.coin.available = true
    · rw [(h.waits (by omega) hc).2.1]
      exact (v.coin.collectAsked_keeps v.now).2.2
    · obtain ⟨-, -, -, hsame, -⟩ := h.grace (by omega) (Bool.eq_false_iff.2 hc)
      rw [hsame]

/-- A metering pulse is the answer, and then a metering pulse (R53). -/
theorem State.exec_meterAnswer {s : State} (hlive : s.isHeld = false) (howner : s.line.owner = some .customer)
    (hphase : s.line.phase = .awaitAnswer) (hanswer : s.setup.settings.answerSource = .metering) :
    exec .meteringPulse s = .next s.meterAnswer := by
  have hnot : s.customerConnected = false := by simp [State.customerConnected, hphase]
  refine congrArg Host.Outcome.next ?_
  rw [State.whenLive_of_live hlive, if_neg (by simp [hnot])]
  exact if_pos (by simp [State.customerAwaits, State.customerOwns, howner, hphase, hanswer])

/-- The answer, at the moment `n`, under each source (R53); a metering pulse is here only an answer. -/
theorem State.exec_answers {s : State} {c : Instr} {n : Nat} (hlive : s.isHeld = false)
    (howner : s.line.owner = some .customer) (hphase : s.line.phase = .awaitAnswer)
    (hsource : (c = .reversalAnswer ∧ s.setup.settings.answerSource = .reversal ∧ s.pins.reversed = true ∧
        n = max s.now (s.line.polarityAt + 50)) ∨
      (∃ m, c = .timedAnswerExpiry ∧ s.line.timedAnswerTimer = some m ∧ n = max s.now m) ∨
      (c = .meteringPulse ∧ s.setup.settings.answerSource = .metering ∧
        s.setup.settings.ratingSource = .internal ∧ n = s.now)) :
    ∃ assumed t, exec c s = .next t ∧ ({ s with now := n }.answerCall assumed).settledFrom t ∧
      (c = .timedAnswerExpiry → assumed = true) := by
  have hawaits : s.customerAwaits = true := by simp [State.customerAwaits, State.customerOwns, howner, hphase]
  rcases hsource with ⟨rfl, hanswer, hreversed, rfl⟩ | ⟨m, rfl, htimer, rfl⟩ | ⟨rfl, hanswer, hrating, rfl⟩
  · refine ⟨false, _, ?_, State.answered_settledFrom (s.reach _) fun s => s.answerCall false, nofun⟩
    refine congrArg Host.Outcome.next ?_
    rw [State.whenLive_of_live hlive]
    exact if_pos (by simp [hawaits, hanswer, hreversed])
  · refine ⟨true, _, ?_, State.answered_settledFrom (s.reach m) fun s => s.answerCall true, fun _ => rfl⟩
    refine congrArg Host.Outcome.next ?_
    rw [State.whenLive_of_live hlive, if_pos hawaits]
    exact State.onExpiry_of_running htimer
  · have hexec := State.exec_meterAnswer hlive howner hphase hanswer
    have hmeter : (s.answerCall false).meterConnected = s.answerCall false :=
      State.meterConnected_of_unmetered (.inl (by simp [hrating]))
    refine ⟨false, s.meterAnswer, hexec, ?_, nofun⟩
    have ht := s.answered_settledFrom fun s => (s.answerCall false).meterConnected
    rw [hmeter] at ht
    exact ht

/-- A sum that saturates may do so at each step. -/
theorem saturated_add (a b n : Nat) : min (min a n + b) n = min (a + b) n := by omega

/-- What an answering pulse leaves that does not cut the call, with the context `y` for `x` (R53, R77). -/
structure State.pulsedFrom (s t : State) (x y : RatingContext) (pulse : RatedUnit) : Prop where
  connected : s.connectedFrom t
  context : t.rating.context = some y
  phase : y.phase = .answered
  snapshot : y.snapshot = x.snapshot
  lastPulse : y.lastPulse = some pulse
  coin : s.coin.collectedAt t.coin s.now

section
variable {s t : State} {x : RatingContext} {snap : Snapshot} (hnone : s.noneWaits)
  (hx : s.rating.context = some x) (hsnap : x.snapshot = some snap)
  (hsource : s.setup.settings.ratingSource = .metering)
  (ht : ((s.answerCall false).meterConnected).settledFrom t)
include hnone hx hsnap hsource ht

/-- The answering pulse after a charge S that was paid, or none (R77). -/
theorem State.pulse_after_paid (hpayment : x.payment = .settled) (htotal : x.total ≤ 65535) (hunits : x.units ≤ 65535)
    (hcovered : snap.setupCharge ≤ s.coin.banked) :
    let pulse := (ratedUnit snap s.clock).1
    let left := s.coin.banked - snap.setupCharge
    ∃ y, s.pulsedFrom t x y pulse ∧
      (pulse.charge ≤ left → y.payment = .settled ∧ y.charge = none ∧ y.unitTimer = x.unitTimer ∧
        y.total = min (x.total + snap.setupCharge + pulse.charge) 65535 ∧ y.units = min (x.units + 1) 65535 ∧
        t.coin.banked = left - pulse.charge) ∧
      (left < pulse.charge → y.charge = some ⟨pulse.charge, 1, .metering⟩ ∧ y.units = x.units ∧
        y.total = min (x.total + snap.setupCharge) 65535 ∧ t.coin.banked = left ∧
        (s.coin.canPay → y.payment = .collectWait) ∧
        (¬ s.coin.canPay → y.payment = .grace ∧ y.graceTimer = some (s.now + 1000 * s.setup.settings.graceTime) ∧
          EventFlag.creditLow.isIn t.status.flags = true)) := by
  intro pulse left
  obtain ⟨c, hc, cphase, csnap, cpayment, ctotal, cunits, ctimer, rcoin, hstayed, rflag⟩ :=
    State.answerCall_paid hnone hx hsnap hsource hpayment htotal hunits hcovered
  generalize s.answerCall false = r at *
  obtain ⟨rline, rnumber, rnow, rmem, rsetup, rhook, rtamper, rclock⟩ := hstayed
  rw [State.meterConnected_of_metered hc csnap (by rw [rsetup]; exact hsource)] at ht
  obtain ⟨v, y, hy, vcoin, vnow, vline, vnumber, vmem, vsetup, vhook, vtamper, vstatus⟩ :=
    State.ratePulse_charged (snap := snap) (by rw [State.noneWaits, rnumber]; exact hnone) hc cpayment
  rw [rclock] at hy
  have hasked : s.coin.collectedAt v.coin v.now := by
    rw [vcoin, rcoin, vnow, rnow]
    exact (s.coin.answerAsked_collectedAt s.now).same ⟨_, _, _, rfl⟩
  have hvnow : v.now = s.now := vnow.trans rnow
  have hcoin : s.coin.collectedAt (r.ratePulse c snap).coin s.now := hvnow ▸ hy.collectStays hasked
  have hleft : v.coin.banked = left := by rw [vcoin, rcoin]
  have hcan : v.coin.available = true ↔ s.coin.canPay := by
    have havailable : v.coin.available = (s.coin.answerAsked s.now).available := by rw [vcoin, rcoin]; rfl
    rw [havailable, CoinState.answerAsked_available]
    exact s.coin.available_iff
  have hbanked := hy.banked ht
  obtain ⟨hline, hnumber, hnow, hmem, hsetup, hhook, htamper, -, -⟩ := hy.stayed
  refine ⟨y, ⟨ht.connectedFrom (hline.trans (vline.trans rline)) (hnumber.trans (vnumber.trans rnumber))
      (w := v) (by rw [vstatus]; exact rflag) hy.flags (hnow.trans hvnow)
      ⟨hhook.trans (vhook.trans rhook), htamper.trans (vtamper.trans rtamper), hmem.trans (vmem.trans rmem),
        hsetup.trans (vsetup.trans rsetup)⟩ hcoin, ht.context.trans hy.context, hy.phase.trans cphase,
      hy.snapshot.trans (csnap.trans hsnap.symm), hy.lastPulse, ht.collectedAt hcoin⟩, fun hpays => ?_, fun hshort => ?_⟩
  · obtain ⟨ypayment, ycharge, -, ytotal, yunits, -, -, -, ytimer⟩ := hy.covered (by rw [hleft]; exact hpays)
    have hsum : y.total = min (c.total + pulse.charge) 65535 := ytotal
    have hcount : y.units = min (c.units + 1) 65535 := yunits
    rw [hleft, if_pos (show _ ≤ _ from hpays)] at hbanked
    refine ⟨ypayment, ycharge, (ytimer rfl).trans ctimer, ?_, ?_, hbanked⟩
    · rw [hsum, ctotal, saturated_add]
    · rw [hcount, cunits]
  · have hless : v.coin.banked < pulse.charge := by rw [hleft]; exact hshort
    obtain ⟨ycharge, ytotal, yunits, -, -⟩ := hy.short hless
    rw [if_neg (show ¬ _ ≤ _ from Nat.not_le.2 hless), hleft] at hbanked
    refine ⟨ycharge, yunits.trans cunits, ytotal.trans ctotal, hbanked, fun hpay => (hy.waits hless (hcan.2 hpay)).1,
      fun hpay => ?_⟩
    obtain ⟨ypayment, -, ygrace, -, -, -, ylow⟩ := hy.grace hless (Bool.eq_false_iff.2 fun h => hpay (hcan.1 h))
    rw [hvnow, vsetup, rsetup] at ygrace
    exact ⟨ypayment, ygrace, ht.flags _ (by decide) ylow⟩

/-- The answering pulse after a charge S that awaits a collect (R77). -/
theorem State.pulse_after_short (hshort : s.coin.banked < snap.setupCharge) (hcan : s.coin.canPay) :
    let pulse := (ratedUnit snap s.clock).1
    ∃ y, s.pulsedFrom t x y pulse ∧ y.charge = some ⟨snap.setupCharge + pulse.charge, 1, .metering⟩ ∧
      y.payment = .collectWait ∧ y.total = x.total ∧ y.units = x.units ∧ t.coin.banked = s.coin.banked := by
  intro pulse
  obtain ⟨v, c, hc, hv⟩ := State.answerCall_metered hnone hx hsnap hsource (by omega) false
  have hbanked : v.coin.banked = s.coin.banked := by rw [hv.coin, CoinState.answerAsked_banked]
  have hless : v.coin.banked < snap.setupCharge := hbanked ▸ hshort
  have havailable : v.coin.available = true := by
    rw [hv.coin, CoinState.answerAsked_available]
    exact s.coin.available_iff.2 hcan
  obtain ⟨ccharge, ctotal, cunits, -, -⟩ := hc.short hless
  obtain ⟨cpayment, rcoin, -⟩ := hc.waits hless havailable
  have hcoin := hc.collectedAt hv
  have hcontext := hc.context
  have hcall := hc.flags _ (by decide) hv.flag
  obtain ⟨rline, rnumber, rnow, rmem, rsetup, rhook, rtamper, -, rclock⟩ := hc.stayed
  obtain ⟨vline, vnumber, vmem, vhook, vtamper, vclock, -⟩ := hv.stayed
  have csnap : c.snapshot = some snap := hc.snapshot.trans hsnap
  have cphase : c.phase = .answered := hc.phase
  clear hc
  generalize s.answerCall false = r at *
  rw [State.meterConnected_of_metered hcontext csnap (by rw [rsetup, hv.setup]; exact hsource)] at ht
  obtain ⟨mirror, phase, again, queue, hrate⟩ := State.ratePulse_waiting (snap := snap) hcontext cpayment ccharge (by simp)
  rw [hrate, rclock, vclock] at ht
  refine ⟨_, ⟨ht.connectedFrom (w := r) (rline.trans vline) (rnumber.trans vnumber) hcall (r.flagsStay_self.of_eq rfl)
      (rnow.trans hv.now) ⟨rhook.trans vhook, rtamper.trans vtamper, rmem.trans vmem, rsetup.trans hv.setup⟩ hcoin,
      ht.context, cphase, csnap.trans hsnap.symm, rfl, ht.collectedAt hcoin⟩, rfl, cpayment, ctotal, cunits, ?_⟩
  obtain ⟨f, z, hpurse⟩ := ht.coin
  rw [hpurse, ← hbanked]
  exact (congrArg CoinState.banked rcoin).trans (v.coin.collectAsked_keeps v.now).2.2

/-- The answering pulse after a charge S that has brought the call into grace cuts it (R77). -/
theorem State.pulse_after_grace (howner : s.line.owner = some .customer) (hshort : s.coin.banked < snap.setupCharge) (hcan : ¬ s.coin.canPay) :
    let record := { s with line := s.connectedLine }.cutRecord x
    t.now = s.now ∧ t.line.phase = .guarded ∧ t.line.owner = none ∧ t.line.guardTimer = some (s.now + 800) ∧
      t.number.phase = .empty ∧ t.rating.context = none ∧ t.cash.openCall = none ∧
      t.records = (s.offerRecord record).records ∧ EventFlag.call.isIn t.status.flags = true ∧
      EventFlag.creditLow.isIn t.status.flags = true ∧ t.coin.banked = s.coin.banked ∧
      t.coin.escrow = s.coin.escrow ∧ t.mem = s.mem ∧ t.setup = s.setup := by
  intro record
  obtain ⟨v, c, hc, hv⟩ := State.answerCall_metered hnone hx hsnap hsource (by omega) false
  have hbanked : v.coin.banked = s.coin.banked := by rw [hv.coin, CoinState.answerAsked_banked]
  have hless : v.coin.banked < snap.setupCharge := hbanked ▸ hshort
  have havailable : v.coin.available = false := by
    rw [hv.coin, CoinState.answerAsked_available]
    exact Bool.eq_false_iff.2 fun h => hcan (s.coin.available_iff.1 h)
  obtain ⟨-, ctotal, cunits, cstatus, -⟩ := hc.short hless
  obtain ⟨cpayment, -, -, rcoin, -, -, hlow⟩ := hc.grace hless havailable
  have hcontext := hc.context
  obtain ⟨rline, rnumber, rnow, rmem, rsetup, -, -, rrecords, rclock⟩ := hc.stayed
  obtain ⟨vline, vnumber, vmem, -, -, vclock, vrecords⟩ := hv.stayed
  have csnap : c.snapshot = some snap := hc.snapshot.trans hsnap
  have hcoin := hc.collectedAt hv
  have ccoins : c.coins = x.coins := hc.coins
  clear hc
  generalize s.answerCall false = r at *
  have hrline : r.line = s.connectedLine := rline.trans vline
  have hrowner : r.line.owner = some .customer := by rw [hrline]; exact howner
  rw [State.meterConnected_of_metered hcontext csnap (by rw [rsetup, hv.setup]; exact hsource),
    State.ratePulse_cut (.inl cpayment)] at ht
  have hcut := State.cutCall_cutFrom hcontext hrowner (by rw [hrline]; rfl)
  have hrecord : r.cutRecord c = record := by
    simp only [State.cutRecord, record, hrline, rnumber, vnumber, State.calendar_congr (rclock.trans vclock), ctotal,
      cunits, cstatus, ccoins]
    rfl
  have hrlow : EventFlag.creditLow.isIn r.cutCall.status.flags = true :=
    r.flagsStay_self.cutCall hcontext hrowner _ (by decide) hlow
  obtain ⟨hline, hnow, hmem, hsetup, -, -, hrecords⟩ := ht.stayed
  obtain ⟨f, z, hpurse⟩ := ht.coin
  refine ⟨hnow.trans (hcut.now.trans (rnow.trans hv.now)), ?_, ?_, ?_, ht.number.1.trans hcut.number,
    ht.context.trans hcut.context, ht.openCall.trans hcut.openCall, ?_, ht.flags _ (by decide) hcut.flag,
    ht.flags _ (by decide) hrlow, ?_, ?_, hmem.trans (hcut.mem.trans (rmem.trans vmem)),
    hsetup.trans (hcut.setup.trans (rsetup.trans hv.setup))⟩
  · rw [hline, hcut.phase]
  · rw [hline, hcut.owner]
  · rw [hline, hcut.guard, rnow, hv.now]
  · rw [hrecords, hcut.records, hrecord]
    exact State.offerRecord_records_congr _ (rrecords.trans vrecords)
  · rw [hpurse]
    exact (congrArg CoinState.banked (hcut.coin.trans rcoin)).trans hbanked
  · rw [hpurse]
    exact (congrArg CoinState.escrow hcut.coin).trans hcoin.escrow

end

end Sys2Proof.Machine

open Sys2Proof Sys2Proof.Machine

/-- Settles O42, by the source of the answer and the call's snapshot, and by the purse where the answering pulse charges. -/
theorem customerCallAnswered : Obligations.CustomerCallAnswered := by
  refine ⟨fun s c n hlive howner hphase hdeposit hline hsource => ?_,
    fun s x snap hlive howner hphase hdeposit hline hanswer hrating hx hsnap hpayment hcharge hunits htotal => ?_,
    fun s x hlive howner hphase hdeposit hline hanswer hrating hx hsnap => ?_⟩
  · obtain ⟨assumed, t, hexec, ht, hassumed⟩ := State.exec_answers hlive howner hphase hsource
    refine ⟨t, hexec, ?_⟩
    clear hexec hsource
    generalize ha : ({ s with now := n } : State) = a at ht
    have hnone : a.noneWaits := by rw [← ha]; exact ⟨hdeposit, hline⟩
    have hsame : a.rating = s.rating := by rw [← ha]
    cases hx : s.rating.context with
    | none =>
      rw [State.answerCall_of_no_context (s := a) (by rw [hsame, hx])] at ht
      obtain ⟨path, hcall⟩ := a.connectedCall_form
      rw [hcall] at ht
      subst ha
      obtain ⟨hline', hnow, hmem, hsetup, hhook, htamper, -⟩ := ht.stayed
      obtain ⟨f, z, hcoin⟩ := ht.coin
      refine ⟨hnow, hline', ht.flags _ (by decide) (State.raise_self s .call), fun _ h => (Option.some_ne_none _ h.symm).elim, ht.number.2, hhook, htamper,
        hmem, hsetup, ?_⟩
      rw [hcoin]
      exact ⟨rfl, rfl⟩
    | some x =>
      obtain ⟨y, hy⟩ := State.answerCall_answeredFrom hnone (by rw [hsame, hx]) assumed ht
      subst ha
      obtain ⟨hhook, htamper, hmem, hsetup⟩ := hy.connected.stayed
      refine ⟨hy.connected.now, hy.connected.line, hy.connected.flag, fun z hz => ?_, hy.connected.digits, hhook,
        htamper, hmem, hsetup, hy.connected.purse⟩
      obtain rfl : x = z := Option.some.inj hz
      refine ⟨y, hy.context, hy.phase, hy.snapshot, fun h => hy.marked (hassumed h),
        fun h => ⟨hy.coin.started h, hy.coin.asked h⟩, hy.coin.empty, hy.unrated, fun snap hsnap => ⟨fun hs => ?_,
          hy.metering snap hsnap⟩⟩
      obtain ⟨hfell, hunit, hfirst, hruns, hstands, hopen⟩ := hy.internal snap hsnap hs
      refine ⟨hfell, hunit, hfirst, ?_, hopen⟩
      split
      · exact hruns ‹_›
      · exact hstands ‹_›
  · intro setup pulse available connected record
    have hexec := State.exec_meterAnswer hlive howner hphase hanswer
    have ht : ((s.answerCall false).meterConnected).settledFrom s.meterAnswer :=
      s.answered_settledFrom fun s => (s.answerCall false).meterConnected
    rw [hexec]
    generalize s.meterAnswer = t at ht
    refine ⟨fun hcovers => ?_, fun hshort hcan => ⟨t, rfl, ?_⟩⟩
    · by_cases hcovered : setup ≤ s.coin.banked
      · obtain ⟨y, hy, hpaid, hdue⟩ :=
          State.pulse_after_paid ⟨hdeposit, hline⟩ hx hsnap hrating ht hpayment htotal hunits hcovered
        obtain ⟨-, -, hmem, hsetup⟩ := hy.connected.stayed
        refine ⟨t, y, rfl, hy.context, hy.connected.now, hy.connected.line, hy.connected.flag, hy.phase,
          hy.snapshot.trans hsnap, hy.lastPulse, fun hitems hidle => ?_, fun hpays => ?_, fun _ hshort => ?_,
          fun hless => absurd hcovered (Nat.not_le.2 hless), hy.connected.purse.1, hy.connected.purse.2, hmem, hsetup⟩
        · obtain ⟨hop, hcount, -, hflap⟩ := hy.coin.started hitems hidle
          exact ⟨hop, hcount, hflap⟩
        · exact hpaid (Nat.le_sub_of_add_le' hpays)
        · exact hdue (Nat.sub_lt_left_of_lt_add hcovered hshort)
      · have hshort : s.coin.banked < setup := Nat.not_le.1 hcovered
        obtain ⟨y, hy, ycharge, ypayment, ytotal, yunits, hbanked⟩ :=
          State.pulse_after_short ⟨hdeposit, hline⟩ hx hsnap hrating ht hshort (hcovers.resolve_left hcovered)
        obtain ⟨-, -, hmem, hsetup⟩ := hy.connected.stayed
        refine ⟨t, y, rfl, hy.context, hy.connected.now, hy.connected.line, hy.connected.flag, hy.phase,
          hy.snapshot.trans hsnap, hy.lastPulse, fun hitems hidle => ?_,
          fun hpays => absurd (Nat.le_of_add_right_le hpays) hcovered, fun hpays => absurd hpays hcovered,
          fun _ => ⟨ycharge, ypayment, ytotal, yunits, hbanked⟩, hy.connected.purse.1, hy.connected.purse.2, hmem, hsetup⟩
        obtain ⟨hop, hcount, -, hflap⟩ := hy.coin.started hitems hidle
        exact ⟨hop, hcount, hflap⟩
    · exact State.pulse_after_grace ⟨hdeposit, hline⟩ hx hsnap hrating ht howner hshort hcan
  · have hexec := State.exec_meterAnswer hlive howner hphase hanswer
    obtain ⟨w, ⟨mirror, phase, again, path, hw, hmirror, -⟩, hunrated, -⟩ := State.answerCall_form hx false
    have hr : s.answerCall false = { w with coin := s.coin.answerAsked s.now } := by
      rw [hunrated hsnap, State.collectAtAnswer_eq, hw]
      rfl
    have hmeter : (s.answerCall false).meterConnected = s.answerCall false :=
      State.meterConnected_of_unmetered (.inr fun y hy => by
        rw [hr, hw] at hy
        obtain rfl : x.answered false = y := Option.some.inj hy
        exact hsnap)
    have ht := s.answered_settledFrom fun s => (s.answerCall false).meterConnected
    rw [hmeter] at ht
    rw [hexec]
    refine ⟨s.meterAnswer, rfl, ?_⟩
    change State.settledFrom _ s.meterAnswer at ht
    generalize s.meterAnswer = t at ht
    obtain ⟨hconnected, hcontext, hcoin, -, -, -, -, -, hbanked, htotals⟩ :=
      State.notCharged_of_asked false ⟨mirror, phase, again, path, hw⟩ (hunrated hsnap ▸ ht)
    obtain ⟨-, -, hmem, hsetup⟩ := hconnected.stayed
    obtain ⟨f, z, hpurse⟩ := ht.coin
    refine ⟨hconnected.now, hcontext, hconnected.line, hconnected.flag,
      fun h => ⟨hcoin.started h, hcoin.asked h⟩, fun h => ⟨hcoin.empty h, ?_⟩, hbanked, hconnected.purse.1,
      hconnected.purse.2, htotals, ht.openCall.trans ?_, hconnected.digits, hmem, hsetup⟩
    · rw [hpurse, hr, CoinState.answerAsked, if_pos h]
    · rw [hr, hw, hmirror rfl]
end

section
/-! The end of a symbol, by the party that handed it over (O38). -/

namespace Sys2Proof.Machine

/-- An answer leaves the number, and connects the line (R53). -/
theorem State.answerCall_keeps {s : State} (hnone : s.noneWaits) (assumed : Bool) :
    (s.answerCall assumed).number = s.number ∧ (s.answerCall assumed).line = s.connectedLine := by
  cases hx : s.rating.context with
  | none =>
    obtain ⟨path, hcall⟩ := s.connectedCall_form
    rw [State.answerCall_of_no_context hx, hcall]
    exact ⟨rfl, rfl⟩
  | some x =>
    obtain ⟨w, ⟨mirror, phase, again, path, hw, -⟩, hunrated, hinternal, hmetering⟩ := State.answerCall_form hx assumed
    have hkept : w.number = s.number ∧ w.line = s.connectedLine := by
      rw [hw]
      exact ⟨rfl, rfl⟩
    have hquiet (h : s.answerCall assumed = w.collectAtAnswer) :
        (s.answerCall assumed).number = s.number ∧ (s.answerCall assumed).line = s.connectedLine := by
      rw [h, State.collectAtAnswer_eq]
      exact hkept
    cases hsnap : x.snapshot with
    | none => exact hquiet (hunrated hsnap)
    | some snap =>
      cases hsource : s.setup.settings.ratingSource with
      | internal =>
        obtain ⟨v, y, hy, _, _, _, hv⟩ := State.answerInternal_charged (w := w) (x := x.answered assumed) (snap := snap)
          (by rw [State.noneWaits, hkept.1]; exact hnone) (by rw [hw])
        rw [← hinternal snap hsnap hsource] at hy
        obtain ⟨hline, hnumber, -⟩ := hy.stayed
        rw [hline, hnumber, hv]
        exact hkept
      | metering =>
        by_cases hsetup : 0 < snap.setupCharge
        · obtain ⟨v, y, hy, hv⟩ := State.answerCall_metered hnone hx hsnap hsource hsetup assumed
          obtain ⟨hline, hnumber, -⟩ := hy.stayed
          obtain ⟨vline, vnumber, -⟩ := hv.stayed
          exact ⟨hnumber.trans vnumber, hline.trans vline⟩
        · exact hquiet ((hmetering snap hsnap hsource).trans (if_neg hsetup))

/-- AWAIT_ANSWER of a customer call, which a polarity that has long been reversed answers at once (R51, R52). -/
theorem State.awaitCustomerAnswer_keeps {s : State} (hnone : s.noneWaits) :
    s.awaitCustomerAnswer.number = s.number ∧
    (s.awaitCustomerAnswer.line.phase = .awaitAnswer ∨ s.awaitCustomerAnswer.line.phase = .connected) ∧
    (s.pins.reversed = false → s.awaitCustomerAnswer.line.phase = .awaitAnswer ∧
      s.awaitCustomerAnswer.line.answerWaitTimer = some (s.now + 1000 * s.setup.settings.answerWaitLimit)) := by
  let t := s.updLine fun l =>
    { l with phase := .awaitAnswer,
             answerWaitTimer := s.later (1000 * s.setup.settings.answerWaitLimit),
             timedAnswerTimer := if s.setup.settings.answerSource = .timed then
               s.later (1000 * s.setup.settings.timedAnswerDelay) else none }
  have hdef : s.awaitCustomerAnswer = if s.reversedLongEnough then t.answerCall false else t := rfl
  rw [hdef]
  split
  · rename_i hreversed
    obtain ⟨hnumber, hline⟩ := State.answerCall_keeps (s := t) hnone false
    refine ⟨hnumber, .inr ?_, fun h => ?_⟩
    · rw [hline]
      rfl
    · simp [State.reversedLongEnough, h] at hreversed
  · exact ⟨rfl, .inl rfl, fun _ => ⟨rfl, rfl⟩⟩

/-- The end of a symbol of the number (R37, R51). -/
theorem State.numberSymbolEnds_effect (s : State) : s.numberSymbolEnds.number.emitted = s.number.emitted + 1 ∧
    s.numberSymbolEnds.number.digits = s.number.digits ∧
    (s.number.digits.length ≤ s.number.emitted + 1 → s.numberSymbolEnds.number.phase = .dialled ∧
      (s.numberSymbolEnds.line.phase = .awaitAnswer ∨ s.numberSymbolEnds.line.phase = .connected) ∧
      (s.pins.reversed = false → s.numberSymbolEnds.line.phase = .awaitAnswer ∧
        s.numberSymbolEnds.line.answerWaitTimer = some (s.now + 1000 * s.setup.settings.answerWaitLimit))) ∧
    (s.number.emitted + 1 < s.number.digits.length → s.numberSymbolEnds.number.phase = s.number.phase ∧
      s.numberSymbolEnds.line = s.line) := by
  let u := s.updNumber fun n => { n with emitted := n.emitted + 1 }
  by_cases hlast : s.number.digits.length ≤ s.number.emitted + 1
  · have hdef : s.numberSymbolEnds = (u.setNumberPhase .dialled).awaitCustomerAnswer := if_pos hlast
    obtain ⟨status, hu⟩ := u.setNumberPhase_form .dialled
    obtain ⟨hnumber, hline, hwait⟩ := State.awaitCustomerAnswer_keeps (s := u.setNumberPhase .dialled)
      (by rw [hu]; exact ⟨nofun, nofun⟩)
    rw [← hdef] at hnumber hline hwait
    rw [hu] at hnumber hwait
    rw [hnumber]
    exact ⟨rfl, rfl, fun _ => ⟨rfl, hline, hwait⟩, fun h => by omega⟩
  · have hdef : s.numberSymbolEnds = u := if_neg hlast
    rw [hdef]
    exact ⟨rfl, rfl, fun h => absurd h hlast, fun _ => ⟨rfl, rfl⟩⟩

/-- A symbol of any other party leaves the number. -/
theorem State.reportEnd_number (s : State) {use : ItemUse} (h : use ≠ .numberSymbol) :
    (s.reportEnd use).number = s.number := by
  cases use with
  | numberSymbol => exact absurd rfl h
  | inCallSymbol => rfl
  | reportDigit =>
    simp only [State.reportEnd, State.reportDigitEnds]
    split <;> simp
  | messageSymbol =>
    simp only [State.reportEnd, State.messageSymbolEnds]
    split <;> simp

/-- What the end of an item leaves of what its report has brought about. -/
theorem State.endItem_keeps (s : State) (use : ItemUse) :
    let u := s.clearItem.reportEnd use
    (s.endItem use).number.phase = u.number.phase ∧ (s.endItem use).number.digits = u.number.digits ∧
      (s.endItem use).number.emitted = u.number.emitted ∧ (s.endItem use).line = u.line ∧
      (s.endItem use).report.phase = u.report.phase ∧ (s.endItem use).report.goTimer = u.report.goTimer ∧
      (s.endItem use).report.ackTimer = u.report.ackTimer := by
  intro u
  have hframe : (s.endItem use).number = u.emitNext.number ∧ (s.endItem use).line = u.line ∧
      (s.endItem use).report = u.emitNext.report := by simp [State.endItem, u]
  obtain ⟨hnumber, hline, hreport⟩ := hframe
  rw [hnumber, hline, hreport, State.emitNext_number, State.emitNext_report]
  exact ⟨rfl, rfl, rfl, rfl, rfl, rfl, rfl⟩

end Sys2Proof.Machine

open Sys2Proof Sys2Proof.Machine

/-- Settles O38, by the use of the symbol. -/
theorem symbolEnds : Obligations.SymbolEnds := by
  intro s m c use hlive htimer hitem
  let u := s.reach m
  have hexec : exec c s = .next (u.endItem use) := by
    rcases hitem with ⟨rfl, code, hitem⟩ | ⟨rfl, digit, hitem⟩ <;>
    · refine congrArg Host.Outcome.next ?_
      rw [State.whenLive_of_live hlive]
      simp only [hitem]
      exact State.onExpiry_of_running htimer
  have hframe : (u.endItem use).now = max s.now m ∧ (u.endItem use).mem = s.mem ∧ (u.endItem use).setup = s.setup ∧
      (u.endItem use).clock = s.clock ∧ (u.endItem use).hook = s.hook ∧ (u.endItem use).tamper = s.tamper := by
    simp [u]
  obtain ⟨hnow, hmem, hsetup, hclock, hhook, htamper⟩ := hframe
  obtain ⟨hphase, hdigits, hemitted, hline, hreport, hgo, hack⟩ := u.endItem_keeps use
  refine ⟨u.endItem use, hexec, hnow, hmem, hsetup, hclock, hdigits.trans ?_, hhook, htamper, fun h => ?_, fun h => ?_,
    fun h hlast => ?_, fun h hlast => ?_⟩
  · by_cases h : use = .numberSymbol
    · subst h
      exact u.clearItem.numberSymbolEnds_effect.2.1
    · rw [State.reportEnd_number _ h]
      rfl
  · subst h
    obtain ⟨hcount, -, hlast, hmore⟩ := u.clearItem.numberSymbolEnds_effect
    rw [hemitted, hphase, hline]
    exact ⟨hcount, hlast, hmore⟩
  · subst h
    exact ⟨hemitted, hline⟩
  · subst h
    have hends : u.clearItem.reportEnd .reportDigit = u.clearItem.awaitGo := if_pos hlast
    rw [hreport, hgo, hline, hends]
    exact ⟨rfl, rfl, rfl⟩
  · subst h
    have hends : u.clearItem.reportEnd .messageSymbol = u.clearItem.awaitAck := if_pos hlast
    rw [hreport, hack, hends]
    exact ⟨rfl, rfl⟩
end

section
/-! The hook: its debounce, its flash and its clear (O44). -/

namespace Sys2Proof.Machine

/-! ### An IDLE line has no owner -/

/-- An IDLE line has no owner (R46). -/
def LineState.idleFree (l : LineState) : Prop := l.phase = .idle → l.owner = none

theorem LineState.idleFree_of_busy {l : LineState} (h : l.phase ≠ .idle) : l.idleFree := fun hi => absurd hi h

section
variable {s : State} (h : s.line.idleFree)
include h

theorem State.idleFree_grantWaiting : s.grantWaiting.line.idleFree := by
  simp only [State.grantWaiting]
  (repeat' split)
  · rw [State.grantCustomer_line]
    exact LineState.idleFree_of_busy nofun
  · exact LineState.idleFree_of_busy nofun
  · exact h
  · exact h

theorem State.idleFree_placeReport (n : Nat) : (s.placeReport n).line.idleFree :=
  State.idleFree_grantWaiting (s := s.updLine fun l => { l with reportRequest := some n }) h

theorem State.idleFree_releaseLine : s.releaseLine.line.idleFree := by
  by_cases hi : s.line.phase = .idle
  · have hsame : s.releaseLine = s := by simp only [State.releaseLine, hi]
    rw [hsame]
    exact h
  · rw [State.releaseLine_line hi]
    exact LineState.idleFree_of_busy (by rw [(s.line.released_fields s.now).1]; nofun)

theorem State.idleFree_preemptReport : s.preemptReport.line.idleFree := by
  simp only [State.preemptReport]
  split
  · rename_i howner
    have hbusy : s.line.phase ≠ .idle := fun hi => by simp [h hi] at howner
    have hphase : (s.endReport .preempted).line.phase = (s.line.released s.now).phase :=
      (congrArg LineState.phase (State.endReport_line hbusy .preempted).1 :)
    exact LineState.idleFree_of_busy (by rw [hphase, (s.line.released_fields s.now).1]; nofun)
  · exact h

theorem State.idleFree_toWaitLine : s.toWaitLine.line.idleFree := by
  let u := s.stopNumberTimers.setNumberPhase .waitLine
  have hu : u.line = s.line := by simp [u]
  have hplaced (cls : RequestClass) : (u.placeCustomer cls).line.idleFree := by
    let v := u.updLine fun l => { l with customerRequest := some cls }
    have hv : v.line.idleFree := by
      intro hi
      have hline : u.line.phase = .idle := hi
      rw [hu] at hline
      exact (congrArg LineState.owner hu).trans (h hline)
    cases cls
    case paidFree => exact State.idleFree_grantWaiting hv
    case emergency => exact State.idleFree_grantWaiting (State.idleFree_preemptReport hv)
  exact hplaced _

theorem State.idleFree_recheckDeposit : s.recheckDeposit.line.idleFree := by
  simp only [State.recheckDeposit]
  split
  · exact h
  split
  · split
    · exact State.idleFree_toWaitLine h
    · exact h
  split
  · have hline : s.withdrawCustomer.toWaitDeposit.line = { s.line with customerRequest := none } := by
      simp [State.toWaitDeposit, State.withdrawCustomer]
    rw [hline]
    exact h
  · exact h

theorem State.idleFree_forfeit : s.forfeit.line.idleFree := by
  simp only [State.forfeit]
  split
  · exact h
  · refine State.idleFree_recheckDeposit ?_
    simpa using h

end

/-! ### Forfeiture and refund requests (R16, R20) -/

/-- The forfeiture of banked credit (R20). -/
theorem State.forfeit_cash (s : State) : s.forfeit.cash.kept = { s.cash.kept with totals := { s.cash.totals with
    forfeited := if s.coin.banked = 0 then s.cash.totals.forfeited
      else addMoney s.cash.totals.forfeited s.coin.banked } } := by
  simp only [State.forfeit]
  by_cases h : s.coin.banked = 0
  · rw [if_pos h, if_pos h]
    rfl
  · rw [if_neg h, if_neg h, State.creditChanged, State.recheckDeposit_kept, State.cashChanged_kept]
    rfl

/-- The coin handler with a refund asked for (R16). -/
def CoinState.refundAsked (c : CoinState) (now : Nat) : CoinState :=
  if c.inFlight then { c with request := .refund }
  else if c.escrow = [] then c
  else { c with op := .refunding, opItems := c.escrow.length, chuteCount := 0, actuator := .refund
                flapTimer := some (now + 1500), settleTimer := none }

theorem State.requestRefund_eq (s : State) : s.requestRefund = { s with coin := s.coin.refundAsked s.now } := by
  simp only [State.requestRefund, CoinState.refundAsked]
  (repeat' split) <;> rfl

/-- What `d` holds of a refund that was asked for over the coin handler `c` (R16, R20). -/
structure CoinState.refundedAt (c d : CoinState) (now : Nat) : Prop where
  banked : d.banked = c.banked
  escrow : d.escrow = c.escrow
  gate : d.gate = c.gate
  pending : c.inFlight = true → d.request = .refund ∧ d.op = c.op
  started : c.inFlight = false → c.escrow ≠ [] → d.op = .refunding ∧ d.opItems = c.escrow.length ∧
    d.flapTimer = some (now + 1500)

theorem CoinState.refundAsked_refundedAt (c : CoinState) (now : Nat) : c.refundedAt (c.refundAsked now) now := by
  by_cases hflight : c.inFlight = true
  · rw [CoinState.refundAsked, if_pos hflight]
    exact ⟨rfl, rfl, rfl, fun _ => ⟨rfl, rfl⟩, fun h => absurd hflight (by simp [h])⟩
  · rw [CoinState.refundAsked, if_neg hflight]
    split
    · exact ⟨rfl, rfl, rfl, fun h => absurd h hflight, fun _ hitems => absurd ‹_› hitems⟩
    · exact ⟨rfl, rfl, rfl, fun h => absurd h hflight, fun _ _ => ⟨rfl, rfl, rfl⟩⟩

/-- The fill marks, which the test of an owed close may change, are no part of it (R143). -/
theorem CoinState.refundedAt.same {c d e : CoinState} {now : Nat} (h : c.refundedAt d now)
    (hsame : ∃ w r, e = { d with fillWarned := w, reasons := r }) : c.refundedAt e now := by
  obtain ⟨w, r, rfl⟩ := hsame
  exact ⟨h.banked, h.escrow, h.gate, h.pending, h.started⟩

end Sys2Proof.Machine
end

section
/-! The hook switch (O44). -/

namespace Sys2Proof.Machine

/-- The end of the number, or of the customer call, at a hook clear (R39, R60). -/
theorem State.endAtClear_effect {s : State} (h : s.line.idleFree) : s.endAtClear.number.phase = .empty ∧
    s.endAtClear.line.owner ≠ some .customer ∧ s.endAtClear.coin = s.coin ∧
    s.endAtClear.cash.totals = s.cash.totals ∧ s.endAtClear.cash.closeOwed = s.cash.closeOwed ∧
    s.flagsStay s.endAtClear := by
  simp only [State.endAtClear]
  by_cases howner : s.customerOwns = true
  · rw [if_pos howner]
    have hcustomer : s.line.owner = some .customer := by simpa [State.customerOwns] using howner
    have hbusy : s.line.phase ≠ .idle := fun hi => by simp [h hi] at hcustomer
    obtain ⟨-, hfree, -⟩ := State.endCall_line_fields hbusy .localClear
    obtain ⟨htotals, howed⟩ := s.endCall_totals .localClear
    exact ⟨(s.endCall_number (by decide)).1, by rw [hfree]; nofun, by simp, htotals, howed, s.flagsStay_self.endCall _⟩
  · rw [if_neg howner]
    have hother : s.line.owner ≠ some .customer := by simpa [State.customerOwns] using howner
    by_cases hempty : s.number.phase = .empty
    · rw [if_pos hempty]
      exact ⟨hempty, hother, rfl, rfl, rfl, s.flagsStay_self⟩
    · rw [if_neg hempty]
      obtain ⟨hphase, -, -, -, hline⟩ := s.endNumber_effect
      exact ⟨hphase, by rw [hline]; exact hother, by simp, by simp, by simp, s.flagsStay_self.endNumber⟩

theorem State.hookOn_eq (s : State) : s.hookOn =
    { s with hook := if s.hook.phase = .offHook then
      { s.hook with phase := .onHook, flashTimer := some (s.now + s.setup.settings.hookFlashLimit) } else s.hook } := by
  cases hp : s.hook.phase with
  | offHook =>
    simp only [State.hookOn, hp]
    rfl
  | onHook => simp only [State.hookOn, hp, reduceCtorEq, if_false]
  | cleared => simp only [State.hookOn, hp, reduceCtorEq, if_false]

/-- A flash adds its mark to the call that is seized (R61). -/
theorem State.flash_effect (s : State) : s.flash.hook = s.hook ∧ s.flash.now = s.now ∧
    EventFlag.hook.isIn s.flash.status.flags = true ∧
    (∀ x, s.line.owner = some .customer → s.rating.context = some x →
      ∃ y, s.flash.rating.context = some y ∧ y.status = x.status ||| RatingFlag.hookFlash.only ∧
        y.total = x.total ∧ y.charge = x.charge) ∧
    s.flash.line = s.line ∧ s.flash.number = s.number ∧ s.flash.coin = s.coin ∧
    s.flash.cash.totals = s.cash.totals ∧ s.flash.mem = s.mem := by
  let u := (s.tally .hookFlashes).raise .hook
  have hu : u = { s with path := u.path, status := { s.status with flags := s.status.flags ||| EventFlag.hook.only } } := by
    simp only [u]
    rw [State.tally_eq]
    rfl
  have hdef : s.flash = if s.customerOwns then u.addStatus RatingFlag.hookFlash.only else u := rfl
  have hflag : EventFlag.hook.isIn u.status.flags = true := State.raise_self _ .hook
  cases hx : s.rating.context with
  | none =>
    have hnone : u.rating.context = none := by rw [hu]; exact hx
    have hsame : u.addStatus RatingFlag.hookFlash.only = u := by simp only [State.addStatus, hnone]
    rw [hdef, hsame, ite_self]
    rw [hu] at hflag ⊢
    exact ⟨rfl, rfl, hflag, fun _ _ h => (Option.some_ne_none _ h.symm).elim, rfl, rfl, rfl, rfl, rfl⟩
  | some x =>
    by_cases howner : s.customerOwns = true
    · obtain ⟨phase, again, queue, hadd⟩ := State.addStatus_form (s := u) (x := x) (by rw [hu]; exact hx)
        RatingFlag.hookFlash.only
      rw [hdef, if_pos howner, hadd]
      rw [hu] at hflag ⊢
      refine ⟨rfl, rfl, hflag, fun z _ hz => ?_, rfl, rfl, rfl, rfl, rfl⟩
      obtain rfl : x = z := Option.some.inj hz
      exact ⟨_, rfl, rfl, rfl, rfl⟩
    · rw [hdef, if_neg howner]
      rw [hu] at hflag ⊢
      exact ⟨rfl, rfl, hflag, fun _ h => absurd (by simp [State.customerOwns, h]) howner, rfl, rfl, rfl, rfl, rfl⟩

/-- A hook clear (R20, R39, R60). -/
theorem State.hookClear_effect {s : State} (h : s.line.idleFree) : s.hookClear.hook =
      { s.hook with phase := .cleared, flashTimer := none } ∧
    CoinState.refundedAt { s.coin with banked := 0 } s.hookClear.coin s.now ∧
    (s.cash.closeOwed = false → s.hookClear.cash.totals = { s.cash.totals with
      forfeited := if s.coin.banked = 0 then s.cash.totals.forfeited
        else addMoney s.cash.totals.forfeited s.coin.banked }) ∧
    s.hookClear.number.phase = .empty ∧ s.hookClear.line.owner ≠ some .customer ∧
    EventFlag.hook.isIn s.hookClear.status.flags = true := by
  let event : State → State := fun s =>
    ((((s.updHook fun h => { h with phase := .cleared, flashTimer := none }).raise .hook).forfeit).requestRefund).endAtClear
  let u := (s.updHook fun h => { h with phase := .cleared, flashTimer := none }).raise .hook
  let v := u.forfeit.requestRefund
  have hv : v = { u.forfeit with coin := u.forfeit.coin.refundAsked u.forfeit.now } := u.forfeit.requestRefund_eq
  have hfree : v.line.idleFree := by
    rw [hv]
    exact State.idleFree_forfeit (s := u) h
  obtain ⟨hphase, howner, hcoin, htotals, howed, hflags⟩ := State.endAtClear_effect hfree
  obtain ⟨w, r, hpurse⟩ := s.thenTest_coin event
  have hasked : v.coin = CoinState.refundAsked { s.coin with banked := 0 } s.now := by
    have hnow : u.forfeit.now = s.now := by simp [u]
    have hu : u.coin = s.coin := by simp [u]
    rw [hv, State.forfeit_coin, hnow, hu]
  have hcash := u.forfeit_cash
  have huflag : EventFlag.hook.isIn u.status.flags = true := State.raise_self _ .hook
  have hvflags : u.flagsStay v := u.flagsStay_self.forfeit.of_eq (by rw [hv])
  refine ⟨?_, ?_, fun hnot => ?_, ?_, ?_, ?_⟩
  · simp [State.hookClear]
  · refine CoinState.refundedAt.same (d := v.coin) ?_ ⟨w, { v.coin.reasons with vaultFull := r }, hpurse.trans ?_⟩
    · rw [hasked]
      exact CoinState.refundAsked_refundedAt _ s.now
    · rw [show (event s).coin = v.coin from hcoin]
  · have hvcash : v.cash = u.forfeit.cash := by rw [hv]
    have hnotowed : (event s).cash.closeOwed = false := by
      refine howed.trans ?_
      rw [hvcash]
      exact (congrArg CashState.closeOwed hcash).trans hnot
    rw [State.hookClear, State.thenTest_of_not_owed hnotowed]
    refine htotals.trans ?_
    rw [hvcash]
    exact (congrArg CashState.totals hcash :)
  · simp only [State.hookClear, State.thenTest_frame]
    exact hphase
  · simp only [State.hookClear, State.thenTest_frame]
    exact howner
  · exact (State.flagsStay.thenTest (f := event) (hvflags.trans hflags)) _ (by decide) huflag

end Sys2Proof.Machine

open Sys2Proof Sys2Proof.Machine

/-- Settles O44, by the level that the hook takes and the state that it meets. -/
theorem hookSwitch : Obligations.HookSwitch := by
  refine ⟨fun s m hlive htimer => ?_, fun s m hlive htimer hfree => ?_⟩
  · intro n
    let u := s.reach m
    have hchange (h : s.hook.debounce.level = some (!s.pins.onHook)) : exec .hookDebouncedChange s =
        .next (if s.pins.onHook then u.settleHook.hookOn else u.settleHook.hookOff) := by
      refine congrArg Host.Outcome.next ?_
      rw [State.whenLive_of_live hlive, if_pos h]
      exact State.onExpiry_of_running htimer
    refine ⟨fun hon hlevel => ?_, fun hon hlevel hphase => ?_, fun hon hlevel hphase => ?_, fun hlevel => ?_⟩
    · rw [hchange (by rw [hlevel, hon]; rfl), if_pos hon]
      have hsettled : u.settleHook = { s with now := n, hook := { s.hook with debounce := ⟨some true, none⟩ } } := by
        simp only [State.settleHook, State.updHook, u, State.reach, State.updNow, hon]
        rfl
      rw [State.hookOn_eq, hsettled]
    · let v := u.settleHook.updHook fun h => { h with phase := .offHook, flashTimer := none }
      have hoff : u.settleHook.hookOff = (v.tally .offHooks).raise .hook := by
        have hp : u.settleHook.hook.phase = .cleared := hphase
        simp only [State.hookOff, hp]
        rfl
      have hpath : (v.tally .offHooks).path = (s.tally .offHooks).path := State.tally_path_congr .offHooks rfl
      rw [hchange (by rw [hlevel, hon]; rfl), if_neg (by simp [hon]), hoff, State.tally_eq, hpath]
      simp only [v, u, State.settleHook, State.updHook, State.reach, State.updNow, State.raise, State.updStatus, hon]
      rfl
    · let v := u.settleHook.updHook fun h => { h with phase := .offHook, flashTimer := none }
      have hoff : u.settleHook.hookOff = v.flash := by
        have hp : u.settleHook.hook.phase = .onHook := hphase
        simp only [State.hookOff, hp]
        rfl
      obtain ⟨hhook, hnow, hflag, hmarked, hline, hnumber, hcoin, htotals, hmem⟩ := v.flash_effect
      rw [hchange (by rw [hlevel, hon]; rfl), if_neg (by simp [hon]), hoff]
      refine ⟨v.flash, rfl, hnow, hhook.trans ?_, hflag, hmarked, hline, hnumber, hcoin, htotals, hmem⟩
      simp only [v, u, State.settleHook, State.updHook, State.reach, State.updNow, hon]
    · refine congrArg Host.Outcome.next ?_
      rw [State.whenLive_of_live hlive, if_pos hlevel]
      exact State.onExpiry_of_running htimer
  · have hexec : exec .hookFlashTimerExpiry s = .next (s.reach m).hookClear := by
      refine congrArg Host.Outcome.next ?_
      rw [State.whenLive_of_live hlive]
      exact State.onExpiry_of_running htimer
    obtain ⟨hhook, hcoin, htotals, hphase, howner, hflag⟩ := State.hookClear_effect (s := s.reach m) hfree
    have hframe : (s.reach m).hookClear.now = max s.now m ∧ (s.reach m).hookClear.mem = s.mem ∧
        (s.reach m).hookClear.setup = s.setup ∧ (s.reach m).hookClear.clock = s.clock := by simp
    obtain ⟨hnow, hmem, hsetup, hclock⟩ := hframe
    rw [hexec]
    generalize (s.reach m).hookClear = t at *
    refine ⟨t, rfl, hnow, ?_, ?_, ?_, hcoin.banked, hcoin.escrow, hcoin.gate, hcoin.pending, hcoin.started,
      fun hnot => congrArg MoneyTotals.forfeited (htotals hnot), hphase, howner, hflag, hmem, hsetup, hclock⟩
    · rw [hhook]
    · rw [hhook]
    · rw [hhook]
      rfl
end

section
/-! The qualified line status (O45). -/

namespace Sys2Proof.Machine

/-! ### What changes the qualified status of the line -/

/-- The qualified status of the line and its timer (R62). -/
def LineState.qualified (l : LineState) : LineStatus × Timer := (l.status, l.qualifyTimer)

theorem State.grantWaiting_qualified (s : State) : s.grantWaiting.line.qualified = s.line.qualified := by
  simp only [State.grantWaiting]
  (repeat' split)
  · rw [State.grantCustomer_line]
    rfl
  all_goals rfl

theorem State.placeReport_qualified (s : State) (n : Nat) : (s.placeReport n).line.qualified = s.line.qualified :=
  State.grantWaiting_qualified _

theorem State.checkQueue_qualified (s : State) : s.checkQueue.line.qualified = s.line.qualified := by
  simp only [State.checkQueue]
  split
  · exact State.placeReport_qualified _ _
  · rfl

theorem State.noticeNewKind_qualified (s : State) : s.noticeNewKind.line.qualified = s.line.qualified := by
  have hbegin : s.beginRun.line.qualified = s.line.qualified := State.placeReport_qualified _ _
  simp only [State.noticeNewKind]
  split
  · exact s.checkQueue_qualified
  · exact hbegin
  · exact hbegin
  · rfl

theorem State.occurrence_qualified (s : State) (k : AlarmKind) : (s.occurrence k).line.qualified = s.line.qualified := by
  simp only [State.occurrence]
  split
  · rw [State.noticeNewKind_qualified]
    simp
  · simp

theorem State.releaseLine_qualified (s : State) : s.releaseLine.line.qualified = s.line.qualified := by
  simp only [State.releaseLine]
  split <;> rfl

theorem State.trapCheck_qualified (s : State) (f : RatingFlags) : (s.trapCheck f).line.qualified = s.line.qualified := by
  simp only [State.trapCheck]
  (repeat' split) <;> simp [State.occurrence_qualified]

theorem State.endCall_qualified (s : State) (cause : EndCause) : (s.endCall cause).line.qualified = s.line.qualified := by
  let u := (((s.releaseLine.endPips).trapCheck s.callStatus).clearMirror).offerRecord (s.customerRecord cause)
  have hu : u.line = ((s.releaseLine.endPips).trapCheck s.callStatus).line := by simp [u]
  have hline : (s.endCall cause).line = { u.line with customerRequest := none } := u.numberAfterCall_line cause
  rw [hline, hu]
  refine (State.trapCheck_qualified _ _).trans ?_
  exact s.releaseLine_qualified

theorem State.attemptOutcome_qualified (s : State) (outcome : EndCause) :
    (s.attemptOutcome outcome).line.qualified = s.line.qualified := by
  have hresume : s.resumeRun.line.qualified = s.line.qualified := State.placeReport_qualified _ _
  have hfailed : s.failedAttempt.line.qualified = s.line.qualified := by simp [State.failedAttempt]
  have hok : s.acknowledgedAttempt.line = s.line := by simp [State.acknowledgedAttempt]
  cases outcome
  case ok =>
    refine (State.checkQueue_qualified _).trans ?_
    rw [hok]
  case preempted => exact hresume
  case restart => exact hresume
  all_goals exact hfailed

theorem State.endReport_qualified (s : State) (outcome : EndCause) :
    (s.endReport outcome).line.qualified = s.line.qualified := by
  obtain ⟨hline, -⟩ := s.releaseLine.attemptClosed_effect outcome (s.line.seizeTime.getD s.calendar)
  rw [State.endReport, State.closeAttempt_eq, State.attemptOutcome_qualified, hline]
  exact s.releaseLine_qualified

/-- A reason that begins withdraws at most the customer's request (R35). -/
theorem State.addReason_line (s : State) (r : ServiceReason) :
    ∃ q, (s.addReason r).line = { s.line with customerRequest := q } := by
  simp only [State.addReason, State.serviceLost]
  (repeat' split)
  · exact ⟨s.line.customerRequest, rfl⟩
  · obtain ⟨_, _, h⟩ := State.refuseNumber_form
      ((s.updCoin fun c => { c with reasons := c.reasons.put r true }).raise .service) .serviceUnavailable
    exact ⟨none, (congrArg State.line h :)⟩
  · exact ⟨s.line.customerRequest, rfl⟩

/-- A number that does not wait for its deposit or for a line is left by a reason that begins. -/
theorem State.addReason_number {s : State} (h : s.noneWaits) (r : ServiceReason) : (s.addReason r).number = s.number := by
  have hlost (u : State) (hu : u.number = s.number) : u.serviceLost.number = s.number := by
    have hkept : u.serviceLost = u := if_neg (by simp [State.paidRequestWaits, hu, h.1, h.2])
    rw [hkept, hu]
  simp only [State.addReason]
  split
  · rfl
  · exact hlost _ (by simp)

end Sys2Proof.Machine
end

section
/-! A lost line (O45). -/

namespace Sys2Proof.Machine

/-! ### A reason that begins -/

/-- A reason that was not there sets SERVICE, and refuses a number that waits for its deposit (R23, R35). -/
theorem State.addReason_of_new {s : State} {r : ServiceReason} (h : s.coin.reasons.has r = false) :
    EventFlag.service.isIn (s.addReason r).status.flags = true ∧
    (s.number.phase = .waitDeposit → (s.addReason r).number.phase = .refused ∧
      (s.addReason r).number.cause = some .serviceUnavailable) := by
  let u := (s.updCoin fun c => { c with reasons := c.reasons.put r true }).raise .service
  have hadd : s.addReason r = u.serviceLost := if_neg (by simp [h])
  have hflag : EventFlag.service.isIn u.status.flags = true := State.raise_self _ .service
  have hnumber : u.number = s.number := by simp [u]
  rw [hadd]
  refine ⟨?_, fun hwaits => ?_⟩
  · simp only [State.serviceLost]
    split
    · exact u.flagsStay_self.refuseNumber .serviceUnavailable _ (by decide) hflag
    · exact hflag
  · have hlost : u.serviceLost = u.refuseNumber .serviceUnavailable := if_pos (by simp [hnumber, hwaits])
    obtain ⟨hphase, hcause, -⟩ := u.refuseNumber_effect .serviceUnavailable
    rw [hlost]
    exact ⟨hphase, hcause⟩

/-! ### An occurrence beside the report caller (R114, R126) -/

theorem AlarmState.occur_get_congr {a b : AlarmState} {k : AlarmKind} (h : a.get k = b.get k) (enabled : Bool)
    (t : CalTime) : (a.occur k enabled t).get k = (b.occur k enabled t).get k := by
  simp only [AlarmState.occur, h]
  (repeat' split) <;> simp

/-- An occurrence that is no new kind leaves the report caller; a new kind begins a new run out of a pause, which waits for
a line that is not IDLE. -/
theorem State.occurrence_report {s : State} {k : AlarmKind} (hline : s.line.phase ≠ .idle)
    (hpause : s.report.phase = .retryWait ∨ s.report.phase = .held) :
    let fresh := k.isIn s.setup.settings.reportEnables = true ∧
      ((s.alarms.get k).phase = .quiet ∨ (s.alarms.get k).phase = .reported)
    (s.occurrence k).report.attempt = s.report.attempt ∧
    (fresh → (s.occurrence k).report.phase = .waitLine ∧ (s.occurrence k).report.attempts = 0 ∧
      (s.occurrence k).report.runTime = some s.now ∧ (s.occurrence k).line.reportRequest = some s.now) ∧
    (¬ fresh → (s.occurrence k).report = s.report) := by
  intro fresh
  let u := ((s.updAlarms fun a => a.occur k (k.isIn s.setup.settings.reportEnables) s.calendar).raise .alarm).cashChanged
  have hu : u.report = s.report ∧ u.line = s.line ∧ u.now = s.now := by simp [u]
  obtain ⟨hreport, hul, hnow⟩ := hu
  have hfresh : ((s.alarms.get k).phase.outOfCycle && k.isIn s.setup.settings.reportEnables) = true ↔ fresh := by
    simp only [fresh, AlarmPhase.outOfCycle, Bool.and_eq_true, Bool.or_eq_true, beq_iff_eq]
    exact and_comm
  have hdef : s.occurrence k = if ((s.alarms.get k).phase.outOfCycle && k.isIn s.setup.settings.reportEnables) = true
      then u.noticeNewKind else u := rfl
  by_cases hf : fresh
  · have hbegin : u.noticeNewKind = u.beginRun := by
      rcases hpause with h | h <;> simp only [State.noticeNewKind, hreport, h]
    have hrun : s.occurrence k = u.beginRun := by rw [hdef, if_pos (hfresh.2 hf), hbegin]
    rw [State.beginRun, State.placeReport_of_busy (by simpa [hul] using hline), hnow] at hrun
    rw [hrun]
    refine ⟨?_, fun _ => ⟨rfl, rfl, rfl, rfl⟩, fun h => absurd hf h⟩
    rw [← hreport]
    rfl
  · rw [hdef, if_neg fun h => hf (hfresh.1 h), hreport]
    exact ⟨rfl, fun h => absurd h hf, fun _ => rfl⟩

/-- The end of a customer call leaves every kind but RATING_ANOMALY (R92). -/
theorem State.endCall_alarms_get (s : State) (cause : EndCause) {k : AlarmKind} (h : k ≠ .ratingAnomaly) :
    (s.endCall cause).alarms.get k = s.alarms.get k := by
  let u := s.releaseLine.endPips
  have hu : u.alarms = s.alarms := by simp [u]
  have hend : (s.endCall cause).alarms = (u.trapCheck s.callStatus).alarms := by simp [State.endCall, u]
  rw [hend, ← hu]
  simp only [State.trapCheck]
  (repeat' split) <;> simp [AlarmState.occur_get_other _ h]

/-- A failed attempt leaves whether a kind is out of its cycle (R118). -/
theorem AlarmState.fail_get_quiet (a : AlarmState) (k : AlarmKind) :
    (a.fail.get k).phase = .quiet ∨ (a.fail.get k).phase = .reported ↔
      (a.get k).phase = .quiet ∨ (a.get k).phase = .reported := by
  rw [AlarmState.fail_get]
  cases h : (a.get k).phase <;> simp [AlarmEntry.unreported, h]

theorem LineState.eq_of_busy {k l : LineState} (h : k.busy = l.busy) : k = { l with reportRequest := k.reportRequest } :=
  (congrArg (fun x : LineState => { x with reportRequest := k.reportRequest }) h :)

/-- A line that is found again only removes the reason (R62). -/
theorem State.lineFound_eq (s : State) : s.lineFound =
    { s with line := { s.line with status := .present, qualifyTimer := none }
             coin := { s.coin with reasons := { s.coin.reasons with lineLost := false } }
             status := if s.coin.reasons.lineLost then
                 { s.status with flags := s.status.flags ||| EventFlag.service.only } else s.status } := by
  simp only [State.lineFound, State.removeReason]
  have hhas : (s.updLine fun l => { l with status := .present, qualifyTimer := none }).coin.reasons.has .lineLost =
      s.coin.reasons.lineLost := rfl
  rw [hhas]
  by_cases h : s.coin.reasons.lineLost = true
  · rw [if_pos h, if_pos h]
    rfl
  · have hsame : ({ s.coin.reasons with lineLost := false } : ServiceReasons) = s.coin.reasons := by
      rw [← Bool.eq_false_iff.2 h]
    rw [if_neg h, if_neg h, hsame]
    rfl

/-! ### The steps of a lost line (R62) -/

/-- The end of the owner's call leaves the purse, the totals and the qualified status. -/
theorem State.endOwner_keeps (s : State) (cause : EndCause) : (s.endOwner cause).now = s.now ∧
    (s.endOwner cause).hook = s.hook ∧ (s.endOwner cause).tamper = s.tamper ∧ (s.endOwner cause).mem = s.mem ∧
    (s.endOwner cause).setup = s.setup ∧ (s.endOwner cause).clock = s.clock ∧ (s.endOwner cause).coin = s.coin ∧
    (s.endOwner cause).cash.totals = s.cash.totals ∧ (s.endOwner cause).line.qualified = s.line.qualified := by
  simp only [State.endOwner]
  split
  · exact ⟨by simp, by simp, by simp, by simp, by simp, by simp, by simp, (s.endCall_totals cause).1,
      s.endCall_qualified cause⟩
  · exact ⟨by simp, by simp, by simp, by simp, by simp, by simp, by simp,
      (CashState.kept_fields (s.endReport_kept cause)).1, s.endReport_qualified cause⟩
  · exact ⟨rfl, rfl, rfl, rfl, rfl, rfl, rfl, rfl, rfl⟩

/-- The end of its owner's call releases a line that is not IDLE (R46). -/
theorem State.endOwner_line {s : State} (howned : s.line.owner ≠ none) (hbusy : s.line.phase ≠ .idle) (cause : EndCause) :
    let l := (s.endOwner cause).line
    l.phase = .guarded ∧ l.owner = none ∧ l.attempt = none ∧
      (s.line.phase = .guarded → l.guardTimer = s.line.guardTimer) ∧
      (s.line.phase ≠ .guarded → l.guardTimer = some (s.now + 800) ∧ l.dialToneTimer = none ∧ l.answerWaitTimer = none ∧
        l.timedAnswerTimer = none ∧ l.clearTimer = none ∧ (s.endOwner cause).emitter.item = none) := by
  obtain ⟨rphase, rowner, rattempt, -, -, rguarded, rheld⟩ := s.line.released_fields s.now
  cases howner : s.line.owner with
  | none => exact absurd howner howned
  | some o =>
    cases o with
    | customer =>
      have hend : s.endOwner cause = s.endCall cause := by simp only [State.endOwner, howner]
      rw [hend]
      obtain ⟨hphase, hfree, hattempt, -, -, -, hguarded, hheld⟩ := State.endCall_line_fields hbusy cause
      obtain ⟨-, -, hitem⟩ := State.endCall_line hbusy cause
      refine ⟨hphase, hfree, hattempt, hguarded, fun h => ?_⟩
      obtain ⟨hguard, htone, hwait, htimed, hclear⟩ := hheld h
      exact ⟨hguard, htone, hwait, htimed, hclear, hitem h⟩
    | report =>
      have hend : s.endOwner cause = s.endReport cause := by simp only [State.endOwner, howner]
      rw [hend]
      obtain ⟨hline, hitem⟩ := State.endReport_line hbusy cause
      rw [LineState.eq_of_busy hline]
      refine ⟨rphase, rowner, rattempt, rguarded, fun h => ?_⟩
      obtain ⟨hguard, htone, hwait, htimed, hclear⟩ := rheld h
      exact ⟨hguard, htone, hwait, htimed, hclear, hitem h⟩

/-- The occurrence and the reason of a lost line after its owner's call has ended. -/
theorem State.lostAfter_effect (b : State) : let t := (b.occurrence .lineLost).addReason .lineLost
    (t.now = b.now ∧ t.hook = b.hook ∧ t.tamper = b.tamper ∧ t.mem = b.mem ∧ t.setup = b.setup ∧
      t.records = b.records ∧ t.emitter = b.emitter ∧ t.report = (b.occurrence .lineLost).report) ∧
    t.line.qualified = b.line.qualified ∧
    t.coin = { b.coin with reasons := { b.coin.reasons with lineLost := true } } ∧
    t.cash.totals = b.cash.totals ∧ t.cash.summary = b.cash.summary ∧
    t.alarms = b.alarms.occur .lineLost (AlarmKind.lineLost.isIn b.setup.settings.reportEnables) b.calendar ∧
    EventFlag.alarm.isIn t.status.flags = true ∧ b.flagsStay t ∧
    (b.coin.reasons.lineLost = false → EventFlag.service.isIn t.status.flags = true ∧
      (b.number.phase = .waitDeposit → t.number.phase = .refused ∧ t.number.cause = some .serviceUnavailable)) ∧
    (b.noneWaits → t.number = b.number) ∧ (b.rating.context = none → t.rating.context = none) ∧
    (b.line.phase ≠ .idle → (∃ q, t.line = { b.line with
      customerRequest := q, reportRequest := (b.occurrence .lineLost).line.reportRequest }) ∧
      t.cash.openCall = b.cash.openCall) := by
  intro t
  let c := b.occurrence .lineLost
  have hframe : t.now = b.now ∧ t.hook = b.hook ∧ t.tamper = b.tamper ∧ t.mem = b.mem ∧ t.setup = b.setup ∧
      t.records = b.records ∧ t.emitter = b.emitter ∧ t.report = (b.occurrence .lineLost).report := by simp [t]
  have hcash : t.cash = c.cash := by simp [t, c]
  have halarms : t.alarms = c.alarms := by simp [t, c]
  have hcoin : c.coin = b.coin := by simp [c]
  have hnumber : c.number = b.number := by simp [c]
  have hrating : c.rating = b.rating := by simp [c]
  obtain ⟨q, hline⟩ := c.addReason_line .lineLost
  have hkept := CashState.kept_fields (b.occurrence_kept .lineLost)
  have hflag : EventFlag.alarm.isIn c.status.flags = true := b.occurrence_alarmFlag .lineLost
  refine ⟨hframe, ?_, ?_, ?_, ?_, ?_, ?_, ?_, fun hnew => ?_, fun hnone => ?_, fun hcontext => ?_, fun hbusy => ⟨?_, ?_⟩⟩
  · exact (congrArg LineState.qualified hline).trans (b.occurrence_qualified .lineLost)
  · exact (c.addReason_coin .lineLost).trans (by rw [hcoin]; rfl)
  · rw [hcash]
    exact hkept.1
  · rw [hcash]
    exact hkept.2.2.2.2.1
  · rw [halarms]
    exact b.occurrence_alarms .lineLost
  · exact c.flagsStay_self.addReason .lineLost _ (by decide) hflag
  · exact (b.flagsStay_self.occurrence .lineLost).addReason .lineLost
  · obtain ⟨hservice, hrefused⟩ := State.addReason_of_new (s := c) (r := .lineLost) (by rw [hcoin]; exact hnew)
    rw [hnumber] at hrefused
    exact ⟨hservice, hrefused⟩
  · exact (State.addReason_number (s := c) (by rw [State.noneWaits, hnumber]; exact hnone) .lineLost).trans hnumber
  · exact State.addReason_no_context (s := c) (by rw [hrating]; exact hcontext) .lineLost
  · obtain ⟨hsame, -, -⟩ := State.noGrant_occurrence hbusy .lineLost
    refine ⟨q, hline.trans ?_⟩
    rw [LineState.eq_of_busy hsame]
  · rw [hcash]
    exact (State.noGrant_occurrence hbusy .lineLost).2.2

end Sys2Proof.Machine

open Sys2Proof Sys2Proof.Machine

/-- Settles O45, by the status that is left and the owner of the line. -/
theorem lineQualified : Obligations.LineQualified := by
  refine ⟨fun s m hlive htimer hpresent => ?_, fun s m hlive htimer hlost => ?_⟩
  · intro n enabled isNew customerRecord reportRecord
    let a := (s.reach m).updLine fun l => { l with status := .lost, qualifyTimer := none }
    let b := a.endOwner .lineLost
    have hexec : exec .lineQualifyExpiry s = .next ((b.occurrence .lineLost).addReason .lineLost) := by
      refine congrArg Host.Outcome.next ?_
      rw [State.whenLive_of_live hlive, State.onExpiry_of_running htimer]
      have hstatus : (s.reach m).line.status = .present := hpresent
      simp only [hstatus]
      rfl
    obtain ⟨bnow, bhook, btamper, bmem, bsetup, bclock, bcoin, btotals, bqualified⟩ := a.endOwner_keeps .lineLost
    have hlost := b.lostAfter_effect
    rw [hexec]
    refine ⟨_, rfl, ?_⟩
    generalize ht : (b.occurrence .lineLost).addReason .lineLost = t at hlost ⊢
    obtain ⟨⟨tnow, thook, ttamper, tmem, tsetup, trecords, temitter, treport⟩, tqualified, tcoin, ttotals, tsummary, talarms, talarm,
      tflags, tnew, tnumber, tcontext, tline⟩ := hlost
    have hqualified : t.line.qualified = (.lost, none) := tqualified.trans (bqualified.trans rfl)
    have hcalendar : b.calendar = s.calendar := State.calendar_congr bclock
    rw [bcoin] at tnew tcoin
    rw [bsetup, hcalendar] at talarms
    have hnone (h : s.line.owner = none) : b = a := by
      have ha : a.line.owner = none := h
      simp only [b, State.endOwner, ha]
    have hcall (h : s.line.owner = some .customer) : b = a.endCall .lineLost := by
      have ha : a.line.owner = some .customer := h
      simp only [b, State.endOwner, ha]
    have hattempt (h : s.line.owner = some .report) : b = a.endReport .lineLost := by
      have ha : a.line.owner = some .report := h
      simp only [b, State.endOwner, ha]
    refine ⟨tnow.trans bnow, (congrArg Prod.fst hqualified :), (congrArg Prod.snd hqualified :), by rw [tcoin],
      fun h => (tnew h).1, fun hother => ?_, talarm, fun hfree => ?_, fun howned hbusy => ?_, fun hcustomer hbusy => ?_,
      fun hcaller hbusy => ?_, tcoin, ttotals.trans btotals, thook.trans bhook, ttamper.trans btamper, tmem.trans bmem,
      tsetup.trans bsetup⟩
    · rw [talarms]
      refine AlarmState.occur_get_congr ?_ _ _
      cases howner : s.line.owner with
      | none => rw [hnone howner]; rfl
      | some o =>
        cases o with
        | customer =>
          rw [hcall howner]
          exact a.endCall_alarms_get .lineLost (by decide)
        | report => exact absurd howner hother
    · have hb := hnone hfree
      rw [hb] at talarms trecords tnew
      exact ⟨talarms, trecords, fun hwaits hreason => (tnew hreason).2 hwaits⟩
    · obtain ⟨hphase, hfree, hattempts, hguarded, hheld⟩ := State.endOwner_line (s := a) howned hbusy .lineLost
      obtain ⟨⟨q, hline⟩, -⟩ := tline (by rw [hphase]; nofun)
      rw [hline, temitter]
      exact ⟨hphase, hfree, hattempts, hguarded, hheld⟩
    · obtain ⟨hphase, -⟩ := State.endOwner_line (s := a) (by rw [show a.line.owner = _ from hcustomer]; nofun) hbusy .lineLost
      obtain ⟨-, hopen⟩ := tline (by rw [hphase]; nofun)
      obtain ⟨nphase, ndigits, nfifo, ncontext⟩ := a.endCall_number (cause := .lineLost) (by decide)
      obtain ⟨eopen, esummary, erecords, eflag⟩ := a.endCall_effect .lineLost
      rw [← hcall hcustomer] at nphase ndigits nfifo ncontext eopen esummary erecords eflag
      rw [tnumber (by rw [State.noneWaits, nphase]; exact ⟨nofun, nofun⟩), hopen, trecords, tsummary, erecords]
      exact ⟨nphase, ndigits, nfifo, tcontext ncontext, eopen, State.offerRecord_records_congr _ rfl, esummary,
        tflags _ (by decide) eflag⟩
    · obtain ⟨hphase, -⟩ := State.endOwner_line (s := a) (by rw [show a.line.owner = _ from hcaller]; nofun) hbusy .lineLost
      have hbline : b.line.phase ≠ .idle := by rw [hphase]; nofun
      obtain ⟨⟨q, hline⟩, -⟩ := tline hbline
      obtain ⟨erecords, ealarms, emessage, ego, egoTimer, eack, eflag⟩ := a.endReport_effect .lineLost
      obtain ⟨hretry, hheld, -⟩ := a.endReport_failed (outcome := .lineLost) ⟨nofun, nofun, nofun⟩
      rw [← hattempt hcaller] at erecords ealarms emessage ego egoTimer eack eflag hretry hheld
      have hfail : b.alarms = s.alarms.fail := ealarms
      have hpause : b.report.phase = .retryWait ∨ b.report.phase = .held := by
        by_cases h : a.report.attempts + 1 < 3
        · exact .inl (hretry h).1
        · exact .inr (hheld (by omega)).1
      obtain ⟨rattempt, rnew, rsame⟩ := State.occurrence_report (k := .lineLost) hbline hpause
      have hfresh : (AlarmKind.lineLost.isIn b.setup.settings.reportEnables = true ∧
          ((b.alarms.get .lineLost).phase = .quiet ∨ (b.alarms.get .lineLost).phase = .reported)) ↔ isNew := by
        rw [hfail, AlarmState.fail_get_quiet, bsetup]
        rfl
      rw [hfresh] at rnew rsame
      rw [trecords, erecords, talarms, hfail, treport, hline]
      refine ⟨State.offerRecord_records_congr _ rfl, rfl, (congrArg ReportState.message rattempt :).trans emessage,
        (congrArg ReportState.goTime rattempt :).trans ego, (congrArg ReportState.goTimer rattempt :).trans egoTimer,
        (congrArg ReportState.ackTimer rattempt :).trans eack, tflags _ (by decide) eflag, fun h => ?_,
        fun h hfew => ?_, fun h hmany => ?_⟩
      · obtain ⟨hwait, hzero, hrun, hrequest⟩ := rnew h
        rw [bnow] at hrun hrequest
        exact ⟨hwait, hzero, hrun, hrequest⟩
      · rw [rsame h]
        exact hretry hfew
      · rw [rsame h]
        exact hheld hmany
  · refine congrArg Host.Outcome.next ?_
    rw [State.whenLive_of_live hlive, State.onExpiry_of_running htimer]
    have hstatus : (s.reach m).line.status = .lost := hlost
    simp only [hstatus]
    exact (s.reach m).lineFound_eq
end

section
/-! The debounced edges of the tamper inputs (O49). -/

namespace Sys2Proof.Machine

theorem TamperState.put_put (t : TamperState) (i : TamperInput) (w w' : TamperSwitch) :
    (t.put i w).put i w' = t.put i w' := by
  cases i <;> rfl

/-- The input `i` at its raw level, with the status that it gives (R105). -/
def State.settled (s : State) (i : TamperInput) : TamperState :=
  s.tamper.put i ⟨⟨some (s.pins.tamper.get i), none⟩, s.setup.settings.activeLevels.get i == s.pins.tamper.get i⟩

/-- A level that settles is an edge when it changes the status (R105). -/
theorem State.settleLevel_eq {s : State} {i : TamperInput} (hfirst : s.tamper.firstSet = true) :
    let active := s.setup.settings.activeLevels.get i == s.pins.tamper.get i
    s.settleLevel i = if active = (s.tamper.get i).active then { s with tamper := s.settled i }
      else State.actOnEdge { s with tamper := s.settled i } i active := by
  intro active
  let u := s.updSwitch i fun w => { w with debounce := ⟨some (s.pins.tamper.get i), none⟩ }
  have hu : u.tamper.get i = { s.tamper.get i with debounce := ⟨some (s.pins.tamper.get i), none⟩ } :=
    TamperState.get_put_same _ _ _
  have hset : u.tamper.firstSet = true := by simpa [u, State.updSwitch] using hfirst
  have hdef : s.settleLevel i = if active != (s.tamper.get i).active then
      (u.updSwitch i fun w => { w with active := active }).actOnEdge i active else u := by
    have hfollow : s.settleLevel i = u.followLevel i := rfl
    rw [hfollow, State.followLevel, hu]
    simp only [hset, Bool.true_and]
    rfl
  rw [hdef]
  by_cases hsame : active = (s.tamper.get i).active
  · rw [if_pos hsame, if_neg (by simp [hsame]), State.settled, show (_ == _) = _ from hsame]
    rfl
  · have hswitch : (u.updSwitch i fun w => { w with active := active }) = { s with tamper := s.settled i } := by
      have hput : u.tamper.put i { u.tamper.get i with active := active } = s.settled i := by
        rw [hu]
        exact TamperState.put_put _ _ _ _
      exact congrArg (fun t => { s with tamper := t }) hput
    rw [if_neg hsame, if_pos (by simpa using hsame), hswitch]

/-- The settling of a level leaves what the detections do not own. -/
theorem State.settleLevel_keeps {s : State} (i : TamperInput) (hfirst : s.tamper.firstSet = true) :
    (s.settleLevel i).tamper.get = (s.settled i).get := by
  rw [State.settleLevel_eq hfirst]
  split
  · rfl
  · exact State.actOnEdge_get _ _ _

/-- An occurrence that a detection of the tamper monitor gives. -/
theorem State.occurrence_effect (s : State) (k : AlarmKind) : (s.occurrence k).tamper = s.tamper ∧
    (s.occurrence k).alarms = s.alarms.occur k (k.isIn s.setup.settings.reportEnables) s.calendar ∧
    EventFlag.alarm.isIn (s.occurrence k).status.flags = true ∧ (s.occurrence k).coin = s.coin ∧
    (s.occurrence k).cash.totals = s.cash.totals ∧ (s.occurrence k).number = s.number :=
  ⟨by simp, s.occurrence_alarms k, s.occurrence_alarmFlag k, by simp, (CashState.kept_fields (s.occurrence_kept k)).1,
    by simp⟩

end Sys2Proof.Machine

open Sys2Proof Sys2Proof.Machine

/-- Settles O49, by the input and its status. -/
theorem tamperEdges : Obligations.TamperEdges := by
  intro s i m hlive hfirst hdebounce n active settled
  let u : State := { s.reach m with tamper := settled }
  have hexec : exec (.tamperEdge i) s = .next ((s.reach m).settleLevel i) := by
    refine congrArg Host.Outcome.next ?_
    rw [State.whenLive_of_live hlive, if_pos (by rw [hdebounce])]
    exact State.onExpiry_of_running (by rw [hdebounce])
  have hsettle : (s.reach m).settleLevel i = if active = (s.tamper.get i).active then u else u.actOnEdge i active :=
    State.settleLevel_eq (s := s.reach m) hfirst
  have hopen : u.tamper.sessionOpen = s.tamper.sessionOpen := s.tamper.put_sessionOpen i _
  refine ⟨?_, fun hsame => ?_, fun hedge => ⟨fun hi hactive hclosed => ?_, fun hi hquiet => ?_, fun hi hout hclosed => ?_,
    fun hi hout hin => ?_, fun hi hback hno => ?_, fun hi => ?_, fun hi hquiet => ?_, fun hi hactive => ?_⟩⟩
  · have hget := State.settleLevel_keeps (s := s.reach m) i hfirst
    have hframe : ((s.reach m).settleLevel i).now = n ∧ ((s.reach m).settleLevel i).mem = s.mem ∧
        ((s.reach m).settleLevel i).setup = s.setup ∧ ((s.reach m).settleLevel i).clock = s.clock ∧
        ((s.reach m).settleLevel i).hook = s.hook ∧ ((s.reach m).settleLevel i).pins = s.pins := by simp [n]
    obtain ⟨hnow, hmem, hsetup, hclock, hhook, hpins⟩ := hframe
    exact ⟨_, hexec, hnow, congrFun hget i, congrFun hget, hmem, hsetup, hclock, hhook, hpins⟩
  · rw [hexec, hsettle, if_pos hsame]
    rfl
  all_goals rw [hexec, hsettle, if_neg hedge]
  · have hact : u.actOnEdge i active = u.occurrence (if i = .door then .doorForced else .housingOpen) := by
      rcases hi with rfl | rfl <;> exact if_pos (by simp [hactive, hopen, hclosed])
    rw [hact]
    exact ⟨_, rfl, u.occurrence_effect _⟩
  · have hact : u.actOnEdge i active = u := by
      rcases hi with rfl | rfl <;> refine if_neg ?_ <;> rcases hquiet with h | h <;> simp [h, hopen]
    rw [hact]
    rfl
  · subst hi
    have hact : u.actOnEdge .vault active = u.occurrence .vaultRemoved := by
      simp only [State.actOnEdge, State.vaultEdge, hopen, hclosed, hout]
      rfl
    rw [hact]
    obtain ⟨htamper, halarms, hflag, hcoin, htotals, -⟩ := u.occurrence_effect .vaultRemoved
    exact ⟨_, rfl, htamper, halarms, hflag, hcoin, htotals⟩
  · subst hi
    simp only [State.actOnEdge, State.vaultEdge, hopen, hin, hout]
    rfl
  · subst hi
    have hact : u.actOnEdge .vault active = u := by
      have hvault : u.tamper.vaultOut = s.tamper.vaultOut := rfl
      simp only [State.actOnEdge, State.vaultEdge, hopen, hback, hvault]
      rcases hno with h | h <;> simp [h]
    rw [hact]
    rfl
  · subst hi
    rfl
  · subst hi
    have hact : u.actOnEdge .shock active = u := if_neg (by simp [hquiet])
    rw [hact]
    rfl
  · subst hi
    intro recent
    have hact : u.actOnEdge .shock active = u.shockEdge := if_pos hactive
    have htimes : shockTimes u.tamper.shockWindow u.now = recent ++ [n] := rfl
    have hlength : 3 ≤ (recent ++ [n]).length ↔ 2 ≤ recent.length := by simp
    rw [hact, State.shockEdge, htimes]
    refine ⟨fun hfew => ?_, fun hmany => ?_⟩
    · simp only [if_neg (fun h => absurd (hlength.1 h) (by omega))]
      rfl
    · simp only [if_pos (hlength.2 hmany)]
      obtain ⟨htamper, halarms, hflag, hcoin, htotals, -⟩ :=
        State.occurrence_effect (u.updTamper fun t => { t with shockWindow := [] }) .shock
      exact ⟨_, rfl, htamper, halarms, hflag, hcoin, htotals⟩
end

section
/-! The opening and the closing of a session (O50). -/

namespace Sys2Proof.Machine

/-! ### A session opens (R138) -/

/-- The steps of an opening, before the test of an owed close. -/
def State.sessionOpens (s : State) : State :=
  (((((s.endCustomerCall .session).updTamper fun t => { t with sessionOpen := true }).forfeit).requestRefund).addReason
    .sessionOpen).updTamper fun t => { t with vaultOut := !t.vault.active }

theorem State.openSession_eq (s : State) : s.openSession = s.thenTest State.sessionOpens := rfl

theorem State.sessionOpens_coin (s : State) : s.sessionOpens.coin =
    { CoinState.refundAsked { s.coin with banked := 0 } s.now with
      reasons := (CoinState.refundAsked { s.coin with banked := 0 } s.now).reasons.put .sessionOpen true } := by
  let u := (s.endCustomerCall .session).updTamper fun t => { t with sessionOpen := true }
  have hu : u.forfeit.now = s.now ∧ u.coin = s.coin := by simp [u]
  have hdef : s.sessionOpens.coin = (u.forfeit.requestRefund.addReason .sessionOpen).coin := by
    simp [State.sessionOpens, u]
  rw [hdef, State.addReason_coin, State.requestRefund_eq, State.forfeit_coin, hu.1, hu.2]

/-- What an opening leaves of the coin handler: no banked credit, a refund asked for, and its reason. -/
theorem State.openSession_coin (s : State) : CoinState.refundedAt { s.coin with banked := 0 } s.openSession.coin s.now ∧
    s.openSession.coin.reasons.sessionOpen = true := by
  obtain ⟨w, r, hcoin⟩ := s.thenTest_coin State.sessionOpens
  rw [← State.openSession_eq, State.sessionOpens_coin] at hcoin
  rw [hcoin]
  exact ⟨(CoinState.refundAsked_refundedAt _ s.now).same ⟨_, _, rfl⟩, rfl⟩

/-- With no number that waits, a forfeiture touches credit and the cash image alone (R20). -/
theorem State.forfeit_of_noneWaits {s : State} (h : s.noneWaits) : ∃ money again phase queue, s.forfeit =
    { s with coin := { s.coin with banked := 0 }
             cash := { s.cash with totals := money, phase := phase, again := again }
             path := { s.path with partQueue := queue } } := by
  by_cases hnone : s.coin.banked = 0
  · refine ⟨s.cash.totals, s.cash.again, s.cash.phase, s.path.partQueue, ?_⟩
    rw [State.forfeit, if_pos hnone, ← hnone]
  · let u := (s.updCash fun c =>
        { c with totals := { c.totals with forfeited := addMoney c.totals.forfeited s.coin.banked } }).updCoin
      fun c => { c with banked := 0 }
    obtain ⟨phase, again, queue, hchanged⟩ := u.cashChanged_form
    have hforfeit : s.forfeit = u.cashChanged := by
      rw [State.forfeit, if_neg hnone]
      exact State.creditChanged_of_none (s := u) h
    exact ⟨_, again, phase, queue, hforfeit.trans hchanged⟩

/-- What follows the end of a call leaves what the end has brought about. -/
theorem State.sessionOpens_after_call {s v : State} (hv : v = s.endCustomerCall .session) (hnone : v.noneWaits) :
    s.sessionOpens.number = v.number ∧ (∃ q, s.sessionOpens.line = { v.line with customerRequest := q }) ∧
      s.sessionOpens.records = v.records ∧ s.sessionOpens.alarms = v.alarms ∧
      s.sessionOpens.cash.openCall = v.cash.openCall ∧ v.flagsStay s.sessionOpens ∧
      (v.rating.context = none → s.sessionOpens.rating.context = none) := by
  let u := v.updTamper fun t => { t with sessionOpen := true }
  obtain ⟨money, again, phase, queue, hforfeit⟩ := State.forfeit_of_noneWaits (s := u) hnone
  let w := u.forfeit.requestRefund
  have hw : w = { u.forfeit with coin := u.forfeit.coin.refundAsked u.forfeit.now } := u.forfeit.requestRefund_eq
  have hdef : s.sessionOpens = (w.addReason .sessionOpen).updTamper fun t => { t with vaultOut := !t.vault.active } := by
    simp only [w, u, hv]
    rfl
  have hkept : w.number = v.number ∧ w.line = v.line ∧ w.records = v.records ∧ w.alarms = v.alarms ∧
      w.cash.openCall = v.cash.openCall ∧ w.rating = v.rating ∧ w.status = v.status := by
    rw [hw, hforfeit]
    exact ⟨rfl, rfl, rfl, rfl, rfl, rfl, rfl⟩
  obtain ⟨hnumber, hline, hrecords, halarms, hopen, hrating, hstatus⟩ := hkept
  obtain ⟨q, hreason⟩ := w.addReason_line .sessionOpen
  have hframe : (w.addReason .sessionOpen).records = w.records ∧ (w.addReason .sessionOpen).alarms = w.alarms ∧
      (w.addReason .sessionOpen).cash = w.cash := by simp
  obtain ⟨frecords, falarms, fcash⟩ := hframe
  rw [hdef]
  refine ⟨?_, ⟨q, ?_⟩, frecords.trans hrecords, falarms.trans halarms, (congrArg CashState.openCall fcash).trans hopen, ?_,
    fun hcontext => ?_⟩
  · exact (State.addReason_number (s := w) (by rw [State.noneWaits, hnumber]; exact hnone) .sessionOpen).trans hnumber
  · rw [← hline]
    exact hreason
  · exact (State.flagsStay.addReason (s₀ := v) (s := w) (v.flagsStay_self.of_eq hstatus) .sessionOpen)
  · exact State.addReason_no_context (s := w) (by rw [hrating]; exact hcontext) .sessionOpen

/-- The test of an owed close leaves what is not money (R142). -/
theorem State.thenTest_keeps (s : State) (f : State → State) : (s.thenTest f).number = (f s).number ∧
    (s.thenTest f).line = (f s).line ∧ (s.thenTest f).rating = (f s).rating ∧ (s.thenTest f).records = (f s).records ∧
    (s.thenTest f).alarms = (f s).alarms ∧ (s.thenTest f).cash.openCall = (f s).cash.openCall := by
  refine ⟨by simp, by simp, by simp, by simp, by simp, ?_⟩
  simp only [State.thenTest]
  split
  · rfl
  · exact State.closeTest_openCall _

/-- A customer call that holds the line ends as a session opens, with its record (R57, R138). -/
theorem State.openSession_customer {s : State} (howner : s.line.owner = some .customer) (hbusy : s.line.phase ≠ .idle) :
    let t := s.openSession
    t.line.phase = .guarded ∧ t.line.owner = none ∧ (s.line.phase = .guarded → t.line.guardTimer = s.line.guardTimer) ∧
      (s.line.phase ≠ .guarded → t.line.guardTimer = some (s.now + 800)) ∧ t.number.phase = .empty ∧
      t.rating.context = none ∧ t.cash.openCall = none ∧ t.records = (s.offerRecord (s.customerRecord .session)).records ∧
      EventFlag.call.isIn t.status.flags = true := by
  intro t
  let v := s.endCustomerCall .session
  have hv : v = s.endCall .session := if_pos howner
  obtain ⟨nphase, -, -, ncontext⟩ := s.endCall_number (cause := .session) (by decide)
  obtain ⟨lphase, lowner, -, -, -, -, lguarded, lheld⟩ := State.endCall_line_fields hbusy .session
  obtain ⟨eopen, -, erecords, eflag⟩ := s.endCall_effect .session
  rw [← hv] at nphase ncontext lphase lowner lguarded lheld eopen erecords eflag
  obtain ⟨hnumber, ⟨q, hline⟩, hrecords, -, hopen, hflags, hcontext⟩ :=
    State.sessionOpens_after_call (s := s) rfl (by rw [State.noneWaits, nphase]; exact ⟨nofun, nofun⟩)
  obtain ⟨tnumber, tline, trating, trecords, -, topen⟩ := s.thenTest_keeps State.sessionOpens
  have hflag : EventFlag.call.isIn t.status.flags = true :=
    State.flagsStay.thenTest (f := State.sessionOpens) hflags _ (by decide) eflag
  have htline : t.line = { v.line with customerRequest := q } := tline.trans hline
  rw [htline]
  refine ⟨lphase, lowner, lguarded, fun h => (lheld h).1, ?_, ?_, ?_, ?_, hflag⟩
  · exact (congrArg NumberState.phase (tnumber.trans hnumber)).trans nphase
  · exact (congrArg RatingState.context trating).trans (hcontext ncontext)
  · exact topen.trans (hopen.trans eopen)
  · exact trecords.trans (hrecords.trans erecords)

/-! ### A session closes (R140) -/

/-- The occurrence of a condition that stands, or nothing. -/
theorem State.occurrence_if_get (s : State) (b : Bool) (j k : AlarmKind) :
    (if b then s.occurrence j else s).alarms.get k = if k = j ∧ b = true then
      (s.alarms.occur k (k.isIn s.setup.settings.reportEnables) s.calendar).get k else s.alarms.get k := by
  cases b with
  | false => simp
  | true =>
    by_cases h : k = j
    · subst h
      simp
    · simp [h, AlarmState.occur_get_other _ h]

/-- Each standing condition of the door, the housing and the vault is one occurrence (R108, R120). -/
theorem State.standingConditions_get (s : State) (k : AlarmKind) : s.standingConditions.alarms.get k =
    if (k = .doorForced ∧ s.tamper.door.active = true) ∨ (k = .housingOpen ∧ s.tamper.housing.active = true) ∨
        (k = .vaultRemoved ∧ s.tamper.vault.active = false) then
      (s.alarms.occur k (k.isIn s.setup.settings.reportEnables) s.calendar).get k
    else s.alarms.get k := by
  let a := if s.tamper.door.active then s.occurrence .doorForced else s
  let b := if a.tamper.housing.active then a.occurrence .housingOpen else a
  have ha : a.tamper = s.tamper ∧ a.setup = s.setup ∧ a.calendar = s.calendar := by
    simp only [a]
    split
    · exact ⟨by simp, by simp, State.calendar_congr (by simp)⟩
    · exact ⟨rfl, rfl, rfl⟩
  have hb : b.tamper = a.tamper ∧ b.setup = a.setup ∧ b.calendar = a.calendar := by
    simp only [b]
    split
    · exact ⟨by simp, by simp, State.calendar_congr (by simp)⟩
    · exact ⟨rfl, rfl, rfl⟩
  obtain ⟨atamper, asetup, acalendar⟩ := ha
  obtain ⟨btamper, bsetup, bcalendar⟩ := hb
  have hlast : s.standingConditions = if !b.tamper.vault.active then b.occurrence .vaultRemoved else b := by
    have hdef : s.standingConditions = if b.tamper.vault.active then b else b.occurrence .vaultRemoved := rfl
    rw [hdef]
    cases b.tamper.vault.active <;> rfl
  have hdoor : a.alarms.get k = _ := s.occurrence_if_get s.tamper.door.active .doorForced k
  have hhousing : b.alarms.get k = _ := a.occurrence_if_get a.tamper.housing.active .housingOpen k
  have hvault := b.occurrence_if_get (!b.tamper.vault.active) .vaultRemoved k
  rw [asetup, acalendar, atamper] at hhousing
  rw [bsetup, asetup, bcalendar, acalendar, btamper, atamper] at hvault
  rw [hlast, btamper, atamper, hvault]
  by_cases hv : k = .vaultRemoved
  · subst hv
    have hsame : b.alarms.get .vaultRemoved = s.alarms.get .vaultRemoved := by simp [hhousing, hdoor]
    simp [AlarmState.occur_get_congr hsame, hsame]
  · by_cases hh : k = .housingOpen
    · subst hh
      have hsame : a.alarms.get .housingOpen = s.alarms.get .housingOpen := by simp [hdoor]
      simp [hhousing, AlarmState.occur_get_congr hsame, hsame]
    · simp [hv, hh, hhousing, hdoor]

theorem State.standingConditions_kept (s : State) : s.standingConditions.cash.kept = s.cash.kept := by
  simp only [State.standingConditions]
  (repeat' split) <;> simp

/-- A reason that is removed goes from the coin handler alone (R23). -/
theorem State.removeReason_coin (s : State) (r : ServiceReason) :
    (s.removeReason r).coin = { s.coin with reasons := s.coin.reasons.put r false } := by
  have hsame (h : ¬ s.coin.reasons.has r = true) : s.coin.reasons.put r false = s.coin.reasons := by
    have hfalse := Bool.eq_false_iff.2 h
    cases r <;> simp only [ServiceReasons.has] at hfalse <;> simp only [ServiceReasons.put] <;> rw [← hfalse]
  simp only [State.removeReason]
  split
  · simp
  · next h => rw [hsame h]

/-- The closing clears the summary and cash-suspect, and nothing else of what the image holds (R93, R140). -/
theorem State.clearSummary_kept (s : State) :
    s.clearSummary.cash.kept = { s.cash.kept with summary := 0#8, suspect := false } := by
  simp only [State.clearSummary]
  split
  · next h =>
    obtain ⟨hsummary, hsuspect⟩ := h
    rw [← hsummary, ← hsuspect]
    rfl
  · rw [State.cashChanged_kept]
    rfl

/-- The cash image through a clear of the alarm table. -/
theorem State.clearAlarms_kept (s : State) : s.clearAlarms.cash.kept = s.cash.kept := by
  simp only [State.clearAlarms]
  split <;> simp

/-- A session closes (R140). -/
theorem State.closeSession_effect (s : State) :
    let t := s.closeSession
    t.coin.reasons.sessionOpen = false ∧ t.cash.summary = 0#8 ∧ t.cash.suspect = false ∧
      t.cash.totals = s.cash.totals ∧ t.coin.banked = s.coin.banked ∧ t.coin.escrow = s.coin.escrow ∧
      (s.pins.flapHome = true → t.coin.reasons.escrowJammed = false) ∧
      ∀ k, t.alarms.get k = if (k = .doorForced ∧ s.tamper.door.active = true) ∨
          (k = .housingOpen ∧ s.tamper.housing.active = true) ∨ (k = .vaultRemoved ∧ s.tamper.vault.active = false) then
        (s.alarms.clearAll.occur k (k.isIn s.setup.settings.reportEnables) s.calendar).get k
      else s.alarms.clearAll.get k := by
  intro t
  let a := (s.updTamper fun t => { t with sessionOpen := false }).removeReason .sessionOpen
  let b := if a.pins.flapHome then a.removeReason .escrowJammed else a
  let c := b.clearSummary.clearAlarms
  have ht : t = c.standingConditions.updTamper fun t => { t with vaultOut := false } := rfl
  have hacoin : a.coin = { s.coin with reasons := { s.coin.reasons with sessionOpen := false } } :=
    State.removeReason_coin _ _
  have hapins : a.pins = s.pins := by simp [a]
  have hb : b.cash = s.cash ∧ b.alarms = s.alarms ∧ b.setup = s.setup ∧ b.clock = s.clock ∧
      b.tamper = { s.tamper with sessionOpen := false } := by
    simp only [b, a]
    split <;> simp [State.updTamper]
  have hbcoin : b.coin.banked = s.coin.banked ∧ b.coin.escrow = s.coin.escrow ∧ b.coin.reasons.sessionOpen = false ∧
      (s.pins.flapHome = true → b.coin.reasons.escrowJammed = false) := by
    by_cases hhome : s.pins.flapHome = true
    · have hdef : b = a.removeReason .escrowJammed := if_pos (by rw [hapins]; exact hhome)
      rw [hdef, State.removeReason_coin, hacoin]
      exact ⟨rfl, rfl, rfl, fun _ => rfl⟩
    · have hdef : b = a := if_neg (by rw [hapins]; exact hhome)
      rw [hdef, hacoin]
      exact ⟨rfl, rfl, rfl, fun h => absurd h hhome⟩
  obtain ⟨bcash, balarms, bsetup, bclock, btamper⟩ := hb
  obtain ⟨hbanked, hescrow, hreason, hjammed⟩ := hbcoin
  have hframe : t.coin = b.coin ∧ t.alarms = c.standingConditions.alarms ∧ t.cash = c.standingConditions.cash ∧
      c.setup = b.setup ∧ c.clock = b.clock ∧ c.tamper = b.tamper := by simp [ht, c]
  obtain ⟨tcoin, talarms, tcash, csetup, cclock, ctamper⟩ := hframe
  have hkept : t.cash.kept = { s.cash.kept with summary := 0#8, suspect := false } := by
    rw [tcash, State.standingConditions_kept, State.clearAlarms_kept, State.clearSummary_kept, bcash]
  have hclear : c.alarms = s.alarms.clearAll := by
    rw [State.clearAlarms_alarms, ← balarms]
    simp
  rw [tcoin]
  refine ⟨hreason, (congrArg CashState.summary hkept :), (congrArg CashState.suspect hkept :),
    (congrArg CashState.totals hkept :), hbanked, hescrow, hjammed, fun k => ?_⟩
  rw [talarms, State.standingConditions_get, hclear, csetup, bsetup, ctamper, btamper,
    State.calendar_congr (cclock.trans bclock)]

/-! ### A collection close that is owed (R142, R143) -/

theorem CoinState.settled_iff (c : CoinState) : c.settled = true ↔
    c.escrow = [] ∧ c.gate = none ∧ c.inFlight = false ∧ c.banked = 0 := by
  simp [CoinState.settled, and_assoc]

/-- The collection close over a settled purse (R143). -/
theorem State.collectionClose_effect (s : State) :
    s.collectionClose.cash.kept = (s.cash.close s.calendar).kept ∧
      EventFlag.cash.isIn s.collectionClose.status.flags = true ∧ s.collectionClose.tamper = s.tamper ∧
      s.collectionClose.mem = s.mem := by
  let u := ((s.updCash fun c => c.close s.calendar).updCoin fun c => { c with fillWarned := false }).removeReason .vaultFull
  have hdef : s.collectionClose = (u.raise .cash).cashChanged := rfl
  have hcash : u.cash = s.cash.close s.calendar := by simp [u]
  refine ⟨?_, ?_, ?_, ?_⟩
  · rw [hdef, State.cashChanged_kept]
    exact congrArg CashState.kept hcash
  · rw [hdef]
    exact (State.flagsStay_self (u.raise .cash)).cashChanged _ (by decide) (u.raise_self .cash)
  · simp [State.collectionClose]
  · simp [State.collectionClose]

/-- A close that comes to be owed leaves what the image counts (R142). -/
theorem State.oweClose_kept (s : State) : s.oweClose.cash.kept = { s.cash.kept with closeOwed := true } := by
  simp only [State.oweClose]
  split
  · next h =>
    rw [← h]
    rfl
  · rw [State.cashChanged_kept]
    rfl

end Sys2Proof.Machine
end

section
/-! The key and the vault exchange (O50). -/

open Sys2Proof Sys2Proof.Machine

/-- Settles O50, by the edge of the key and by the return of the vault. -/
theorem keyAndVaultExchange : Obligations.KeyAndVaultExchange := by
  intro s i m hlive hfirst hdebounce n active record hedge
  let u : State := { s.reach m with tamper := (s.reach m).settled i }
  have hexec : exec (.tamperEdge i) s = .next (u.actOnEdge i active) := by
    refine congrArg Host.Outcome.next ?_
    rw [State.whenLive_of_live hlive, if_pos (by rw [hdebounce])]
    refine (State.onExpiry_of_running (by rw [hdebounce])).trans ?_
    exact (State.settleLevel_eq (s := s.reach m) hfirst).trans (if_neg hedge)
  have hopen : u.tamper.sessionOpen = s.tamper.sessionOpen := s.tamper.put_sessionOpen i _
  refine ⟨fun hi hactive hclosed => ?_, fun hi hquiet hin => ?_, fun hi hback hin hout => ?_⟩
  · subst hi
    have hact : u.actOnEdge .key active = u.openSession := by
      simp [State.actOnEdge, hactive, hopen, hclosed]
    obtain ⟨hcoin, hreason⟩ := u.openSession_coin
    have htamper := u.openSession_tamper
    have hmem : u.openSession.mem = s.mem := by simp [u]
    rw [hexec, hact]
    refine ⟨_, rfl, ?_, hcoin.banked, hreason, ?_, hcoin.escrow, hcoin.gate, fun hidle hitems => (hcoin.started hidle hitems).1,
      hcoin.pending, fun howner hbusy => ?_, hmem⟩
    · rw [htamper]
    · rw [htamper]
      rfl
    · obtain ⟨hphase, hfree, hguarded, hheld, hnumber, hcontext, hmirror, hrecords, hflag⟩ :=
        State.openSession_customer (s := u) howner hbusy
      exact ⟨hphase, hfree, hguarded, hheld, hnumber, hcontext, hmirror,
        hrecords.trans (State.offerRecord_records_congr _ rfl), hflag⟩
  · subst hi
    have hact : u.actOnEdge .key active = u.closeSession := by
      simp [State.actOnEdge, hquiet, hopen, hin]
    obtain ⟨hreason, hsummary, hsuspect, htotals, hbanked, hescrow, hjammed, hget⟩ := u.closeSession_effect
    have htamper := u.closeSession_tamper
    have hmem : u.closeSession.mem = s.mem := by simp [u]
    have hentry (k : AlarmKind) (h : (k = .doorForced ∧ s.tamper.door.active = true) ∨
        (k = .housingOpen ∧ s.tamper.housing.active = true) ∨ (k = .vaultRemoved ∧ s.tamper.vault.active = false)) :
        (u.closeSession.alarms.get k).lastTime = some s.calendar := by
      exact (congrArg AlarmEntry.lastTime ((hget k).trans (if_pos h))).trans (AlarmState.occur_lastTime _ _ _ _)
    rw [hexec, hact]
    refine ⟨_, rfl, ?_, ?_, hreason, hsummary, hsuspect, fun k => ?_, hjammed, fun h => hentry _ (.inl ⟨rfl, h⟩),
      fun h => hentry _ (.inr (.inl ⟨rfl, h⟩)), fun h => hentry _ (.inr (.inr ⟨rfl, h⟩)), hbanked, hescrow, htotals, hmem⟩
    · rw [htamper]
    · rw [htamper]
    · rw [hget k, AlarmState.clearAll_get, AlarmEntry.cleared_eq]
      rfl
  · subst hi
    let v := (u.updTamper fun t => { t with vaultOut := false }).oweClose
    have hact : u.actOnEdge .vault active = v.closeTest := by
      have hvault : u.tamper.vaultOut = true := hout
      simp only [State.actOnEdge, State.vaultEdge, hopen, hin, hback, hvault, if_true]
      rfl
    have hkept : v.cash.kept = { s.cash.kept with closeOwed := true } := State.oweClose_kept _
    have hframe : v.coin = s.coin ∧ v.mem = s.mem ∧ v.calendar = s.calendar ∧
        v.tamper = { u.tamper with vaultOut := false } := by
      refine ⟨by simp [v, u], by simp [v, u], State.calendar_congr (by simp [v, u]), ?_⟩
      simp only [v, State.oweClose_frame]
      rfl
    obtain ⟨hcoin, hmem, hcalendar, htamper⟩ := hframe
    have howed : v.cash.closeOwed = true := (congrArg CashState.closeOwed hkept :)
    have htotals : v.cash.totals = s.cash.totals := (congrArg CashState.totals hkept :)
    have hcount : v.cash.vaultCoins = s.cash.vaultCoins := (congrArg CashState.vaultCoins hkept :)
    have hopened : v.tamper.sessionOpen = true := by
      rw [htamper]
      exact hopen.trans hin
    rw [hexec, hact]
    by_cases hsettled : v.coin.settled = true
    · have hclose : v.closeTest = v.collectionClose := if_pos (by simp [howed, hsettled])
      obtain ⟨hclosed, hflag, hctamper, hcmem⟩ := v.collectionClose_effect
      rw [hcoin, CoinState.settled_iff] at hsettled
      rw [hclose]
      refine ⟨_, rfl, ?_, hctamper ▸ hopened, fun _ _ _ _ => ⟨(congrArg CashState.closeOwed hclosed :),
        (congrArg CashState.totals hclosed :), (congrArg CashState.vaultCoins hclosed :),
        (congrArg CashState.acceptedCounts hclosed :), (congrArg CashState.vaultCounts hclosed :), ?_, hflag⟩,
        fun hnot => ?_, hcmem.trans hmem⟩
      · rw [hctamper, htamper]
      · refine (congrArg CashState.lastCollection hclosed :).trans ?_
        have hlast : (v.cash.close v.calendar).lastCollection =
            ⟨true, some v.calendar, v.cash.totals, v.cash.vaultCoins⟩ := rfl
        exact hlast.trans (by rw [hcalendar, htotals, hcount])
      · obtain ⟨hescrow, hgate, hidle, hbanked⟩ := hsettled
        rcases hnot with h | h | h | h
        · exact absurd hescrow h
        · exact absurd hgate h
        · exact absurd (hidle.symm.trans h) (by decide)
        · exact absurd hbanked h
    · have hstays : v.closeTest = v := if_neg (by simp [hsettled])
      rw [hcoin, CoinState.settled_iff] at hsettled
      rw [hstays]
      refine ⟨_, rfl, ?_, hopened, fun hescrow hgate hidle hbanked => absurd ⟨hescrow, hgate, hidle, hbanked⟩ hsettled,
        fun _ => ⟨howed, htotals, hcount, hcoin⟩, hmem⟩
      rw [htamper]
end

section
/-! The first statuses of the tamper inputs, and the cord cut (O51). -/

namespace Sys2Proof.Machine

/-! ### The moment of the first statuses (R105) -/

theorem le_foldl_max (l : List Nat) (a : Nat) : a ≤ l.foldl max a ∧ ∀ x ∈ l, x ≤ l.foldl max a := by
  induction l generalizing a with
  | nil => exact ⟨le_rfl, nofun⟩
  | cons b l ih =>
    obtain ⟨hstart, hmem⟩ := ih (max a b)
    refine ⟨(le_max_left a b).trans hstart, fun x hx => ?_⟩
    rcases List.mem_cons.1 hx with rfl | hx
    · exact (le_max_right a x).trans hstart
    · exact hmem x hx

theorem mem_tamperInputs (i : TamperInput) : i ∈ tamperInputs := by
  cases i <;> decide

/-- Each first debounce has run out at the moment of the first statuses. -/
theorem TamperState.le_firstMoment {t : TamperState} {i : TamperInput} {m : Nat} (hlevel : (t.get i).debounce.level = none)
    (htimer : (t.get i).debounce.timer = some m) : m ≤ t.firstMoment := by
  refine (le_foldl_max _ 0).2 m (List.mem_filterMap.2 ⟨i, mem_tamperInputs i, ?_⟩)
  simp [hlevel, htimer]

/-! ### The first levels (R105) -/

/-- Taking the first level of an input changes its switch alone. -/
theorem State.firstLevel_eq (s : State) (i : TamperInput) : ∃ w, s.firstLevel i = { s with tamper := s.tamper.put i w } ∧
    ∀ m, (s.tamper.get i).debounce.timer = some m → m ≤ s.now →
      w = ⟨⟨some (s.pins.tamper.get i), none⟩, s.setup.settings.activeLevels.get i == s.pins.tamper.get i⟩ := by
  refine ⟨_, rfl, fun m htimer hdue => ?_⟩
  simp only [Debounce.atMoment, htimer, if_pos hdue]
  rfl

/-- The switches after the first levels of the inputs of a list have been taken. -/
theorem State.foldl_firstLevel (l : List TamperInput) (s : State) (hnodup : l.Nodup)
    (hdue : ∀ i ∈ l, ∃ m, (s.tamper.get i).debounce.timer = some m ∧ m ≤ s.now) :
    ∃ w, l.foldl State.firstLevel s = { s with tamper := w } ∧
      (∀ i, w.get i = if i ∈ l then
        ⟨⟨some (s.pins.tamper.get i), none⟩, s.setup.settings.activeLevels.get i == s.pins.tamper.get i⟩
        else s.tamper.get i) ∧
      w.sessionOpen = s.tamper.sessionOpen := by
  induction l generalizing s with
  | nil => exact ⟨s.tamper, rfl, fun i => by simp, rfl⟩
  | cons i l ih =>
    obtain ⟨hi, hl⟩ := List.nodup_cons.1 hnodup
    obtain ⟨w, hfirst, hw⟩ := s.firstLevel_eq i
    obtain ⟨m, htimer, hm⟩ := hdue i List.mem_cons_self
    have hother {j : TamperInput} (hj : j ≠ i) : (s.firstLevel i).tamper.get j = s.tamper.get j := by
      rw [hfirst]
      exact TamperState.get_put_other _ _ hj
    obtain ⟨v, hfold, hget, hopen⟩ := ih (s.firstLevel i) hl fun j hj => by
      rw [hother (fun h => hi (h ▸ hj)), hfirst]
      exact hdue j (List.mem_cons_of_mem i hj)
    have hpins : (s.firstLevel i).pins = s.pins ∧ (s.firstLevel i).setup = s.setup := by
      rw [hfirst]
      exact ⟨rfl, rfl⟩
    rw [hpins.1, hpins.2] at hget
    refine ⟨v, ?_, fun j => ?_, ?_⟩
    · rw [List.foldl_cons, hfold, hfirst]
    · by_cases hj : j = i
      · subst hj
        rw [hget j, if_neg hi, if_pos List.mem_cons_self, hfirst, TamperState.get_put_same]
        exact hw m htimer hm
      · rw [hget j, hother hj]
        simp only [List.mem_cons, hj, false_or]
    · rw [hopen, hfirst]
      exact s.tamper.put_sessionOpen i w

/-! ### The first statuses are acted on (R108, R138) -/

/-- A forfeiture that may not hand the line to an EMERGENCY request leaves the alarm table. -/
theorem State.forfeit_alarms {s : State} (h : s.number.deposit = none ∨ s.number.kind = some .paid) :
    s.forfeit.alarms = s.alarms := by
  let u := ((s.updCash fun c =>
    { c with totals := { c.totals with forfeited := addMoney c.totals.forfeited s.coin.banked } }).updCoin
    fun c => { c with banked := 0 }).cashChanged
  have hu : u.alarms = s.alarms ∧ u.number = s.number := by simp [u]
  have hcheck : u.recheckDeposit.alarms = u.alarms := by
    rcases h with h | h
    · have hnone : u.number.deposit = none := by rw [hu.2, h]
      simp only [State.recheckDeposit, hnone]
    · have hwait : u.toWaitLine.alarms = u.alarms := by
        simp [State.toWaitLine, hu.2, h, ZoneKind.requestClass, State.placeCustomer]
      simp only [State.recheckDeposit]
      split
      · rfl
      · (repeat' split)
        · exact hwait
        · rfl
        · simp [State.toWaitDeposit, State.withdrawCustomer]
        · rfl
  simp only [State.forfeit]
  split
  · rfl
  · exact hcheck.trans hu.1

/-- An opening leaves the kinds that it does not raise. -/
theorem State.openSession_alarms {s : State} (h : s.number.deposit = none ∨ s.number.kind = some .paid) :
    (∀ k, k ≠ .ratingAnomaly → s.openSession.alarms.get k = s.alarms.get k) ∧
      (s.line.owner ≠ some .customer → s.openSession.alarms = s.alarms) := by
  have hopens : s.openSession.alarms = s.sessionOpens.alarms := (s.thenTest_keeps State.sessionOpens).2.2.2.2.1
  by_cases howner : s.line.owner = some .customer
  · have hv : s.endCustomerCall .session = s.endCall .session := if_pos howner
    have hempty := (s.endCall_number (cause := .session) (by decide)).1
    obtain ⟨-, -, -, halarms, -⟩ := State.sessionOpens_after_call (s := s) rfl
      (by rw [hv, State.noneWaits, hempty]; exact ⟨nofun, nofun⟩)
    rw [hv] at halarms
    refine ⟨fun k hk => ?_, fun hother => absurd howner hother⟩
    rw [hopens, halarms]
    exact s.endCall_alarms_get .session hk
  · let u := s.updTamper fun t => { t with sessionOpen := true }
    have hv : s.endCustomerCall .session = s := if_neg howner
    have hsame : s.sessionOpens.alarms = u.forfeit.alarms := by simp [State.sessionOpens, hv, u]
    have hall : s.openSession.alarms = s.alarms := hopens.trans (hsame.trans (State.forfeit_alarms (s := u) h))
    exact ⟨fun k _ => by rw [hall], fun _ => hall⟩

/-- The end of the start after the first statuses, which the cord's onset may follow (R109, R186). -/
theorem State.startEnds_effect (u : State) :
    let v := if u.tamper.cord.active then u.cordEdge true else u
    let t := (v.updPower fun p => { p with phase := .ended }).closeTest
    t.power.phase = .ended ∧ t.alarms = u.alarms ∧
      (∃ w r, t.coin = { u.coin with fillWarned := w, reasons := { u.coin.reasons with vaultFull := r } }) ∧
      t.tamper.get = u.tamper.get ∧ t.tamper.sessionOpen = u.tamper.sessionOpen ∧ t.tamper.firstSet = u.tamper.firstSet ∧
      (u.tamper.cord.active = true → t.tamper.cordTimer = some (u.now + 1000)) := by
  intro v t
  have hvcoin : v.coin = u.coin := by
    simp only [v]
    split <;> rfl
  have hcoin : ∃ w r, t.coin = { v.coin with fillWarned := w, reasons := { v.coin.reasons with vaultFull := r } } :=
    (v.updPower fun p => { p with phase := .ended }).closeTest_coin
  rw [hvcoin] at hcoin
  have htamper : t.tamper = v.tamper := by simp [t]
  have halarms : t.alarms = v.alarms := by simp [t]
  have hphase : t.power.phase = .ended := by simp [t]
  by_cases hcord : u.tamper.cord.active = true
  · have hv : v = u.cordEdge true := if_pos hcord
    rw [hv] at htamper halarms
    refine ⟨hphase, halarms, hcoin, ?_, ?_, ?_, fun _ => ?_⟩
    · rw [htamper]
      exact TamperState.get_of_switches rfl rfl rfl rfl rfl rfl
    all_goals rw [htamper]; rfl
  · have hv : v = u := if_neg hcord
    rw [hv] at htamper halarms
    exact ⟨hphase, halarms, hcoin, by rw [htamper], by rw [htamper], by rw [htamper], fun h => absurd h hcord⟩

end Sys2Proof.Machine

open Sys2Proof Sys2Proof.Machine

/-- Settles O51, by the key that the first statuses find, and the cord's onset. -/
theorem firstStatusesAndCordCut : Obligations.FirstStatusesAndCordCut := by
  refine ⟨fun s hlive hphase hwait => ?_, fun s m hlive htimer => ?_⟩
  · let a := s.reach s.tamper.firstMoment
    have hmoment {i : TamperInput} {m : Nat} (h : (s.tamper.get i).debounce.timer = some m) : m ≤ a.now :=
      (TamperState.le_firstMoment (hwait i).1 h).trans (le_max_right _ _)
    have hexec : exec .tamperFirstLevels s = .next a.firstStatuses := by
      refine congrArg Host.Outcome.next ?_
      rw [State.whenLive_of_live hlive]
      refine State.onExpiry_of_running (if_pos ⟨hphase, List.all_eq_true.2 fun i _ => ?_⟩)
      obtain ⟨m, hm⟩ := (hwait i).2
      simp [TamperSwitch.ready, hm]
    obtain ⟨w, hfold, hget, hopen⟩ := State.foldl_firstLevel tamperInputs a (by decide) fun i _ => by
      obtain ⟨m, hm⟩ := (hwait i).2
      exact ⟨m, hm, hmoment hm⟩
    let b : State := { a with tamper := { w with firstSet := true } }
    have hbget (i : TamperInput) : b.tamper.get i =
        ⟨⟨some (s.pins.tamper.get i), none⟩, s.setup.settings.activeLevels.get i == s.pins.tamper.get i⟩ := by
      have hswitches : b.tamper.get = w.get := TamperState.get_of_switches rfl rfl rfl rfl rfl rfl
      rw [hswitches, hget i, if_pos (mem_tamperInputs i)]
      rfl
    let u := if b.tamper.key.active then b.openSession else b.standingConditions
    have hdef : a.firstStatuses = ((if u.tamper.cord.active then u.cordEdge true else u).updPower fun p =>
        { p with phase := .ended }).closeTest := by
      simp only [State.firstStatuses]
      rw [hfold]
      rfl
    have hutamper : u.tamper.get = b.tamper.get ∧ u.tamper.firstSet = true := by
      simp only [u]
      split
      · rw [State.openSession_tamper]
        exact ⟨TamperState.get_of_switches rfl rfl rfl rfl rfl rfl, rfl⟩
      · rw [State.standingConditions_tamper]
        exact ⟨rfl, rfl⟩
    have hframe : a.firstStatuses.now = a.now ∧ a.firstStatuses.mem = s.mem ∧ a.firstStatuses.setup = s.setup ∧
        a.firstStatuses.clock = s.clock := by simp [a]
    have hunow : u.now = a.now := by
      simp only [u]
      split <;> simp [b]
    obtain ⟨hnow, hmem, hsetup, hclock⟩ := hframe
    obtain ⟨tphase, talarms, ⟨f, r, tcoin⟩, tget, topen, tset, tcord⟩ := u.startEnds_effect
    rw [← hdef] at tphase talarms tcoin tget topen tset tcord
    rw [hexec]
    generalize a.firstStatuses = t at *
    have hswitch : t.tamper.get = b.tamper.get := tget.trans hutamper.1
    have hactive (i : TamperInput) : (t.tamper.get i).active = (b.tamper.get i).active := by rw [hswitch]
    refine ⟨t, rfl, tphase, tset.trans hutamper.2, fun i m hm => ?_, ?_, fun i => ?_, fun hkey => ?_, fun hkey => ?_,
      fun hcord => ?_, hmem, hsetup, hclock⟩
    · rw [hnow]
      exact hmoment hm
    · rw [hnow]
      exact le_max_left _ _
    · rw [hswitch]
      exact hbget i
    · have hu : u = b.openSession := if_pos ((hactive .key).symm.trans hkey)
      obtain ⟨hcoin, hreason⟩ := b.openSession_coin
      rw [topen, tcoin, talarms, hu]
      refine ⟨?_, hreason, hcoin.banked, fun hdeposit => ?_⟩
      · rw [State.openSession_tamper]
      · obtain ⟨hkinds, hall⟩ := State.openSession_alarms (s := b) hdeposit
        exact ⟨hkinds _ (by decide), hkinds _ (by decide), hkinds _ (by decide), hall⟩
    · have hu : u = b.standingConditions := if_neg (Bool.eq_false_iff.1 ((hactive .key).symm.trans hkey))
      have hlast {k : AlarmKind} (h : (k = .doorForced ∧ b.tamper.door.active = true) ∨
          (k = .housingOpen ∧ b.tamper.housing.active = true) ∨ (k = .vaultRemoved ∧ b.tamper.vault.active = false)) :
          (t.alarms.get k).lastTime = some s.calendar := by
        rw [talarms, hu, b.standingConditions_get, if_pos h]
        exact AlarmState.occur_lastTime _ _ _ _
      refine ⟨?_, fun h => hlast (.inl ⟨rfl, (hactive .door).symm.trans h⟩),
        fun h => hlast (.inr (.inl ⟨rfl, (hactive .housing).symm.trans h⟩)),
        fun h => hlast (.inr (.inr ⟨rfl, (hactive .vault).symm.trans h⟩))⟩
      rw [topen, hu, State.standingConditions_tamper]
      exact hopen
    · rw [hnow, ← hunow]
      exact tcord ((congrArg TamperSwitch.active (congrFun tget .cord)).symm.trans hcord)
  · let u := (s.reach m).updTamper fun t => { t with cordTimer := none, cordRaised := true }
    have hexec : exec .cordOnsetExpiry s = .next (u.occurrence .cordCut) := by
      refine congrArg Host.Outcome.next ?_
      rw [State.whenLive_of_live hlive]
      exact State.onExpiry_of_running htimer
    obtain ⟨htamper, halarms, hflag, hcoin, htotals, hnumber⟩ := u.occurrence_effect .cordCut
    have hframe : (u.occurrence .cordCut).now = max s.now m ∧ (u.occurrence .cordCut).mem = s.mem ∧
        (u.occurrence .cordCut).setup = s.setup ∧ (u.occurrence .cordCut).hook = s.hook := by simp [u]
    obtain ⟨hnow, hmem, hsetup, hhook⟩ := hframe
    exact ⟨_, hexec, hnow, htamper, halarms, hflag, hcoin, htotals, hmem, hsetup, hnumber, hhook⟩
end

section
/-! The end of a report attempt (O54). -/

namespace Sys2Proof.Machine

/-! ### An attempt that is abandoned (R135, R136) -/

/-- `t` is `s` with its report attempt abandoned: the line is released with the customer's request `q`, and the request of
the run is placed again. -/
structure State.abandons (s t : State) (outcome : EndCause) (run : Nat) (q : Option RequestClass) : Prop where
  line : t.line = { s.line.released s.now with customerRequest := q, reportRequest := some run }
  item : s.line.phase ≠ .guarded → t.emitter.item = none
  report : t.report = { s.report.cleared with phase := .waitLine }
  alarms : t.alarms = s.alarms.fail
  records : t.records = (s.offerRecord (s.reportRecord outcome (s.line.seizeTime.getD s.calendar))).records
  flag : EventFlag.report.isIn t.status.flags = true
  kept : t.clock = s.clock ∧ t.setup = s.setup

theorem State.attemptOutcome_of_abandoned (s : State) {outcome : EndCause} (h : outcome = .preempted ∨ outcome = .restart) :
    s.attemptOutcome outcome = s.resumeRun := by
  rcases h with rfl | rfl <;> rfl

/-- The abandoning of an attempt on a line that is not IDLE. -/
theorem State.endReport_abandons {s : State} (hbusy : s.line.phase ≠ .idle) {run : Nat} (hrun : s.report.runTime = some run)
    {outcome : EndCause} (h : outcome = .preempted ∨ outcome = .restart) :
    s.abandons (s.endReport outcome) outcome run s.line.customerRequest := by
  let u := s.releaseLine.attemptClosed outcome (s.line.seizeTime.getD s.calendar)
  obtain ⟨hline, -, -, hreport, -, -⟩ := s.releaseLine.attemptClosed_effect outcome (s.line.seizeTime.getD s.calendar)
  obtain ⟨hrecords, halarms, -, -, -, -, hflag⟩ := s.endReport_effect outcome
  obtain ⟨-, hitem⟩ := State.endReport_line hbusy outcome
  have huline : u.line = s.line.released s.now := hline.trans (State.releaseLine_line hbusy)
  have hureport : u.report = s.report.cleared := hreport.trans (by simp)
  have hubusy : u.line.phase ≠ .idle := by
    rw [huline, (s.line.released_fields s.now).1]
    nofun
  have hend : s.endReport outcome = u.resumeRun := u.attemptOutcome_of_abandoned h
  have hresume : u.resumeRun = (u.updReport fun r => { r with phase := .waitLine }).updLine fun l =>
      { l with reportRequest := some run } := by
    have hurun : u.report.runTime.getD u.now = run := by
      rw [hureport]
      simp [ReportState.cleared, hrun]
    rw [State.resumeRun, hurun]
    exact State.placeReport_of_busy (by exact hubusy) run
  have hrequest : (s.line.released s.now).customerRequest = s.line.customerRequest := by
    simp only [LineState.released]
    split <;> rfl
  refine ⟨?_, hitem, ?_, halarms.trans (if_neg ?_), hrecords, hflag, by simp, by simp⟩
  · rw [hend, hresume, ← hrequest, ← huline]
    rfl
  · rw [hend, hresume, ← hureport]
    rfl
  · rcases h with rfl | rfl <;> nofun

/-- An abandoned attempt merges no record into another, and counts in no tally, while none is held (R101, R133). -/
theorem State.endReport_tallies {s : State} (hbusy : s.line.phase ≠ .idle) (hheld : s.records.held = none)
    {outcome : EndCause} (h : outcome = .preempted ∨ outcome = .restart) :
    (s.endReport outcome).path.tallies = s.path.tallies := by
  let r := s.releaseLine
  let f := if outcome = .ok then r else r.failReporting
  let offered := f.reportRecord outcome (s.line.seizeTime.getD s.calendar)
  let u := (f.offerRecord offered).clearAttempt
  have hr : r.path = s.path ∧ r.records = s.records := by simp [r]
  have hf : f.path.tallies = r.path.tallies ∧ f.records = r.records := by
    simp only [f, State.failReporting]
    (repeat' split) <;> simp
  have hfheld : f.records.held = none := by rw [hf.2, hr.2, hheld]
  have hoffer : (f.offerRecord offered).path.tallies = f.path.tallies := by
    simp only [State.offerRecord, hfheld]
    split <;> simp
  have hu : u.path.tallies = s.path.tallies := by
    rw [← hr.1, ← hf.1, ← hoffer]
    rfl
  have huline : u.line = r.line :=
    (s.releaseLine.attemptClosed_effect outcome (s.line.seizeTime.getD s.calendar)).1
  have hubusy : u.line.phase ≠ .idle := by
    rw [huline, State.releaseLine_line hbusy, (s.line.released_fields s.now).1]
    nofun
  have hend : s.endReport outcome = u.resumeRun := u.attemptOutcome_of_abandoned h
  rw [hend, State.resumeRun, State.placeReport_of_busy (by exact hubusy)]
  exact hu

/-! ### An acknowledged attempt (R117, R133) -/

/-- The acknowledged end of an attempt on a line that is not IDLE ends the run, and a queue that is not empty begins
another. -/
theorem State.endReport_ok {s : State} (hbusy : s.line.phase ≠ .idle) : let t := s.endReport .ok
    t.report.statusMark = false ∧ t.report.attempts = 0 ∧
      (s.alarms.queue = [] → t.report.phase = .idle ∧ t.report.runTime = none) ∧
      (s.alarms.queue ≠ [] → t.report.phase = .waitLine ∧ t.report.runTime = some s.now ∧
        t.line.reportRequest = some s.now) := by
  intro t
  let u := s.releaseLine.attemptClosed .ok (s.line.seizeTime.getD s.calendar)
  obtain ⟨hline, -, hnow, -, halarms, -⟩ := s.releaseLine.attemptClosed_effect .ok (s.line.seizeTime.getD s.calendar)
  let v := u.acknowledgedAttempt
  have hv : v.report = { u.report with phase := .idle, attempts := 0, runTime := none, statusMark := false } ∧
      v.line = u.line ∧ v.now = u.now ∧ v.alarms = u.alarms := by
    simp only [v, State.acknowledgedAttempt, State.tally_frame]
    exact ⟨rfl, rfl, rfl, rfl⟩
  obtain ⟨vreport, vline, vnow, valarms⟩ := hv
  have hqueue : v.alarms.queue = s.alarms.queue := by
    rw [valarms, show u.alarms = _ from halarms]
    simp
  have hvnow : v.now = s.now := vnow.trans (hnow.trans (by simp))
  have hvbusy : v.line.phase ≠ .idle := by
    rw [vline, show u.line = _ from hline, State.releaseLine_line hbusy, (s.line.released_fields s.now).1]
    nofun
  have ht : t = v.checkQueue := rfl
  have hidle : v.report.phase = .idle := by rw [vreport]
  by_cases hempty : s.alarms.queue = []
  · have hstays : t = v := ht.trans (if_neg fun h => h.2 (hqueue.trans hempty))
    rw [hstays, vreport]
    exact ⟨rfl, rfl, fun _ => ⟨rfl, rfl⟩, fun h => absurd hempty h⟩
  · have hbegins : t = v.beginRun := ht.trans (if_pos ⟨hidle, fun h => hempty (hqueue.symm.trans h)⟩)
    rw [State.beginRun, State.placeReport_of_busy (by exact hvbusy), hvnow] at hbegins
    have hmark : v.report.statusMark = false := by rw [vreport]
    rw [hbegins]
    exact ⟨hmark, rfl, fun h => absurd h hempty, fun _ => ⟨rfl, rfl, rfl⟩⟩

/-- An acknowledgement hands the cash store what it has changed of the table (R117). -/
theorem State.acknowledge_effect (s : State) : s.acknowledge.alarms = s.alarms.acknowledge ∧
    s.acknowledge.cash.kept = s.cash.kept ∧ s.acknowledge.line = s.line ∧ s.acknowledge.report = s.report ∧
    s.acknowledge.records = s.records ∧ s.acknowledge.now = s.now ∧ s.acknowledge.coin = s.coin ∧
    s.acknowledge.number = s.number ∧ s.acknowledge.mem = s.mem ∧ s.acknowledge.clock = s.clock ∧
    s.acknowledge.setup = s.setup := by
  simp only [State.acknowledge]
  split
  · exact ⟨rfl, rfl, rfl, rfl, rfl, rfl, rfl, rfl, rfl, rfl, rfl⟩
  · simp

/-! ### What a restart does after it has abandoned the attempt (R187) -/

/-- The line of `t` is that of `s` but for the customer's request, and the report caller, the table and the records have
stayed. -/
def State.onlyRequest (s t : State) : Prop :=
  (∃ q, t.line = { s.line with customerRequest := q }) ∧ t.report = s.report ∧ t.alarms = s.alarms ∧
    t.records = s.records

theorem State.onlyRequest.trans {s t u : State} (h : s.onlyRequest t) (h' : t.onlyRequest u) : s.onlyRequest u := by
  obtain ⟨⟨q, hline⟩, hreport, halarms, hrecords⟩ := h
  obtain ⟨⟨q', hline'⟩, hreport', halarms', hrecords'⟩ := h'
  exact ⟨⟨q', by rw [hline', hline]⟩, hreport'.trans hreport, halarms'.trans halarms, hrecords'.trans hrecords⟩

theorem State.onlyRequest_of_same {s t : State} (hline : t.line = s.line) (hreport : t.report = s.report)
    (halarms : t.alarms = s.alarms) (hrecords : t.records = s.records) : s.onlyRequest t :=
  ⟨⟨s.line.customerRequest, hline⟩, hreport, halarms, hrecords⟩

section
variable {s : State} (hbusy : s.line.phase ≠ .idle) (howner : s.line.owner ≠ some .report)
include hbusy howner

/-- A number that comes to wait for a line that is not IDLE, and that no report holds, places its request and no more. -/
theorem State.onlyRequest_toWaitLine : s.onlyRequest s.toWaitLine := by
  obtain ⟨status, hphase⟩ := s.stopNumberTimers.setNumberPhase_form .waitLine
  let u := s.stopNumberTimers.setNumberPhase .waitLine
  have hu : u.line = s.line ∧ u.report = s.report ∧ u.alarms = s.alarms ∧ u.records = s.records := by
    simp only [u, hphase]
    exact ⟨rfl, rfl, rfl, rfl⟩
  obtain ⟨hline, hreport, halarms, hrecords⟩ := hu
  have hplaced (cls : RequestClass) : u.placeCustomer cls = u.updLine fun l => { l with customerRequest := some cls } := by
    let v := u.updLine fun l => { l with customerRequest := some cls }
    have hvbusy : v.line.phase ≠ .idle := by
      have hvu : v.line.phase = u.line.phase := rfl
      rw [hvu, hline]
      exact hbusy
    have hvowner : v.line.owner ≠ some .report := by
      have hvu : v.line.owner = u.line.owner := rfl
      rw [hvu, hline]
      exact howner
    cases cls with
    | paidFree => exact State.grantWaiting_of_busy hvbusy
    | emergency =>
      have hkeeps : v.preemptReport = v := if_neg hvowner
      have hstep : u.placeCustomer .emergency = v.preemptReport.grantWaiting := rfl
      rw [hstep, hkeeps]
      exact State.grantWaiting_of_busy hvbusy
  have hwait : s.toWaitLine = u.placeCustomer ((s.number.kind.map ZoneKind.requestClass).getD .paidFree) := rfl
  rw [hwait, hplaced]
  exact ⟨⟨_, by rw [← hline]; rfl⟩, hreport, halarms, hrecords⟩

theorem State.onlyRequest_recheckDeposit : s.onlyRequest s.recheckDeposit := by
  have hself : s.onlyRequest s := State.onlyRequest_of_same rfl rfl rfl rfl
  simp only [State.recheckDeposit]
  (repeat' split)
  · exact hself
  · exact State.onlyRequest_toWaitLine hbusy howner
  · exact hself
  · exact ⟨⟨none, by simp [State.toWaitDeposit, State.withdrawCustomer]⟩, by simp [State.toWaitDeposit, State.withdrawCustomer],
      by simp [State.toWaitDeposit, State.withdrawCustomer], by simp [State.toWaitDeposit, State.withdrawCustomer]⟩
  · exact hself

theorem State.onlyRequest_forfeit : s.onlyRequest s.forfeit := by
  simp only [State.forfeit]
  split
  · exact State.onlyRequest_of_same rfl rfl rfl rfl
  · let u := ((s.updCash fun c =>
      { c with totals := { c.totals with forfeited := addMoney c.totals.forfeited s.coin.banked } }).updCoin
      fun c => { c with banked := 0 }).cashChanged
    have hu : u.line = s.line ∧ u.report = s.report ∧ u.alarms = s.alarms ∧ u.records = s.records := by simp [u]
    obtain ⟨hline, hreport, halarms, hrecords⟩ := hu
    refine (State.onlyRequest_of_same hline hreport halarms hrecords).trans ?_
    exact State.onlyRequest_recheckDeposit (s := u) (by rw [hline]; exact hbusy) (by rw [hline]; exact howner)

end

theorem State.onlyRequest_restartNumber (s : State) : s.onlyRequest s.restartNumber := by
  simp only [State.restartNumber]
  split
  · exact State.onlyRequest_of_same rfl rfl rfl rfl
  · obtain ⟨-, -, -, -, hline⟩ := s.endNumber_effect
    exact ⟨⟨none, hline⟩, by simp, by simp, by simp⟩

/-- The steps of a restart after its first leave the line that the first has left (R187). -/
theorem State.onlyRequest_serviceRestart {s : State} (hbusy : s.restartLine.line.phase ≠ .idle)
    (howner : s.restartLine.line.owner ≠ some .report) : s.restartLine.onlyRequest s.serviceRestart ∧
      s.restartLine.flagsStay s.serviceRestart := by
  let u := s.restartLine.restartEmitter
  let v := u.forfeit.requestRefund
  have hu : s.restartLine.onlyRequest u := State.onlyRequest_of_same rfl rfl rfl rfl
  have hforfeit : u.onlyRequest u.forfeit := State.onlyRequest_forfeit hbusy howner
  have hv : u.forfeit.onlyRequest v := by
    have hrefund : v = { u.forfeit with coin := u.forfeit.coin.refundAsked u.forfeit.now } := u.forfeit.requestRefund_eq
    rw [hrefund]
    exact State.onlyRequest_of_same rfl rfl rfl rfl
  have hnumber : v.onlyRequest v.restartNumber := v.onlyRequest_restartNumber
  have hlast : v.restartNumber.onlyRequest s.serviceRestart := by
    refine State.onlyRequest_of_same ?_ ?_ ?_ ?_ <;> simp [State.serviceRestart, v, u]
  refine ⟨(((hu.trans hforfeit).trans hv).trans hnumber).trans hlast, ?_⟩
  have hflags : s.restartLine.flagsStay v.restartNumber := by
    have hkept : s.restartLine.flagsStay v :=
      (State.flagsStay.forfeit (s := u) (s.restartLine.flagsStay_self.of_eq rfl)).of_eq (by simp [v])
    simp only [State.restartNumber]
    split
    · exact hkept
    · exact hkept.endNumber
  refine State.flagsStay.thenTest (s := s) ?_
  exact hflags.of_eq rfl

end Sys2Proof.Machine
end

section
/-! The end of a report attempt, by its cause (O54). -/

namespace Sys2Proof.Machine

/-- The fields of a line that an attempt has left. -/
theorem State.endReport_guarded {s : State} (hbusy : s.line.phase ≠ .idle) (hheld : s.line.phase ≠ .guarded)
    (outcome : EndCause) : (s.endReport outcome).line.phase = .guarded ∧ (s.endReport outcome).line.owner = none ∧
      (s.endReport outcome).line.guardTimer = some (s.now + 800) ∧ (s.endReport outcome).emitter.item = none := by
  obtain ⟨hline, hitem⟩ := State.endReport_line hbusy outcome
  obtain ⟨hphase, howner, -, -, -, -, hreleased⟩ := s.line.released_fields s.now
  obtain ⟨hguard, -⟩ := hreleased hheld
  rw [LineState.eq_of_busy hline]
  exact ⟨hphase, howner, hguard, hitem hheld⟩

/-- A state that abandons an attempt, by its fields. -/
theorem State.abandons.fields {s t : State} {outcome : EndCause} {run : Nat} {q : Option RequestClass}
    (h : s.abandons t outcome run q) : t.line.phase = .guarded ∧ t.line.owner = none ∧ t.line.attempt = none ∧
      (s.line.phase = .guarded → t.line.guardTimer = s.line.guardTimer) ∧
      (s.line.phase ≠ .guarded → t.line.guardTimer = some (s.now + 800) ∧ t.emitter.item = none) := by
  obtain ⟨hphase, howner, hattempt, -, -, hkept, hreleased⟩ := s.line.released_fields s.now
  rw [h.line]
  exact ⟨hphase, howner, hattempt, hkept, fun hheld => ⟨(hreleased hheld).1, h.item hheld⟩⟩

/-- The abandoning leaves what is beside it to the steps that follow. -/
theorem State.abandons.after {s t u : State} {outcome : EndCause} {run : Nat} {q : Option RequestClass}
    (h : s.abandons t outcome run q) (hafter : t.onlyRequest u) (hitem : u.emitter.item = none) (hflags : t.flagsStay u)
    (hkept : u.clock = s.clock ∧ u.setup = s.setup) : ∃ q', s.abandons u outcome run q' := by
  obtain ⟨⟨q', hline⟩, hreport, halarms, hrecords⟩ := hafter
  refine ⟨q', ?_, fun _ => hitem, hreport.trans h.report, halarms.trans h.alarms, hrecords.trans h.records,
    hflags _ (by decide) h.flag, hkept⟩
  rw [hline, h.line]

/-- Nothing of it is read from the number or the path. -/
theorem State.abandons.beside {s s' t t' : State} {outcome : EndCause} {run : Nat} {q : Option RequestClass}
    (h : s'.abandons t outcome run q) (hline : s'.line = s.line) (hnow : s'.now = s.now) (hreport : s'.report = s.report)
    (halarms : s'.alarms = s.alarms) (hrecords : s'.records = s.records) (hclock : s'.clock = s.clock)
    (hsetup : s'.setup = s.setup) (tline : t'.line = t.line)
    (temitter : t'.emitter = t.emitter) (treport : t'.report = t.report ∧ t'.alarms = t.alarms ∧ t'.records = t.records ∧
      t'.status = t.status ∧ t'.clock = t.clock ∧ t'.setup = t.setup) : s.abandons t' outcome run q := by
  obtain ⟨treport, talarms, trecords, tstatus, tclock, tsetup⟩ := treport
  have hcalendar : s'.calendar = s.calendar := State.calendar_congr hclock
  have hrecord : s'.reportRecord outcome (s'.line.seizeTime.getD s'.calendar) =
      s.reportRecord outcome (s.line.seizeTime.getD s.calendar) := by
    simp only [State.reportRecord, hline, hreport, hsetup, hcalendar]
  refine ⟨?_, ?_, ?_, ?_, ?_, ?_, ?_, ?_⟩
  · rw [tline, h.line, hline, hnow]
  · rw [temitter, ← hline]
    exact h.item
  · rw [treport, h.report, hreport]
  · rw [talarms, h.alarms, halarms]
  · rw [trecords, h.records, hrecord]
    exact State.offerRecord_records_congr _ hrecords
  · rw [tstatus]
    exact h.flag
  · rw [tclock, h.kept.1, hclock]
  · rw [tsetup, h.kept.2, hsetup]

/-- The request of a number that is not EMERGENCY waits for a line that is not IDLE, whoever owns it (R47, R49). -/
theorem State.toWaitLine_waits {s : State} (hbusy : s.line.phase ≠ .idle) (hkind : s.number.kind ≠ some .emergency) :
    s.toWaitLine.line = { s.line with customerRequest := some .paidFree } ∧ s.toWaitLine.report = s.report ∧
      s.toWaitLine.alarms = s.alarms ∧ s.toWaitLine.records = s.records := by
  obtain ⟨status, hphase⟩ := s.stopNumberTimers.setNumberPhase_form .waitLine
  have hclass : (s.number.kind.map ZoneKind.requestClass).getD .paidFree = .paidFree := by
    cases hk : s.number.kind with
    | none => rfl
    | some k =>
      cases k with
      | emergency => exact absurd hk hkind
      | paid => rfl
      | free => rfl
      | barred => rfl
  have hwait : s.toWaitLine =
      ((s.stopNumberTimers.setNumberPhase .waitLine).updLine fun l => { l with customerRequest := some .paidFree }).grantWaiting := by
    rw [State.toWaitLine, hclass]
    rfl
  rw [hwait, hphase, State.grantWaiting_of_busy (by exact hbusy)]
  exact ⟨rfl, rfl, rfl, rfl⟩

/-- The request of an EMERGENCY number abandons the attempt that holds the line (R49). -/
theorem State.toWaitLine_preempts {s : State} {run : Nat} (howner : s.line.owner = some .report)
    (hbusy : s.line.phase ≠ .idle) (hrun : s.report.runTime = some run) (hkind : s.number.kind = some .emergency) :
    s.abandons s.toWaitLine .preempted run (some .emergency) ∧ s.toWaitLine.number.phase = .waitLine ∧
      (s.records.held = none → s.toWaitLine.path.tallies = s.path.tallies) ∧ s.toWaitLine.coin = s.coin ∧
      s.toWaitLine.mem = s.mem := by
  obtain ⟨status, hphase⟩ := s.stopNumberTimers.setNumberPhase_form .waitLine
  let v := (s.stopNumberTimers.setNumberPhase .waitLine).updLine fun l => { l with customerRequest := some .emergency }
  have hv : v.line = { s.line with customerRequest := some .emergency } ∧ v.report = s.report ∧ v.alarms = s.alarms ∧
      v.records = s.records ∧ v.now = s.now ∧ v.clock = s.clock ∧ v.setup = s.setup ∧ v.path = s.path := by
    simp only [v]
    rw [hphase]
    exact ⟨rfl, rfl, rfl, rfl, rfl, rfl, rfl, rfl⟩
  have hplace : s.toWaitLine = v.preemptReport.grantWaiting := by
    rw [State.toWaitLine, hkind]
    rfl
  clear_value v
  obtain ⟨vline, vreport, valarms, vrecords, vnow, vclock, vsetup, vpath⟩ := hv
  have hvbusy : v.line.phase ≠ .idle := by rw [vline]; exact hbusy
  have habandons := State.endReport_abandons hvbusy (by rw [vreport]; exact hrun) (outcome := .preempted) (.inl rfl)
  have hpreempt : v.preemptReport = v.endReport .preempted := if_pos (by rw [vline]; exact howner)
  rw [hpreempt, State.grantWaiting_of_busy (by rw [habandons.fields.1]; nofun)] at hplace
  have hcalendar : v.calendar = s.calendar := State.calendar_congr vclock
  have hrecord : v.reportRecord .preempted (v.line.seizeTime.getD v.calendar) =
      s.reportRecord .preempted (s.line.seizeTime.getD s.calendar) := by
    simp only [State.reportRecord, vline, vreport, vsetup, hcalendar]
  refine ⟨?_, s.toWaitLine_fixes.1, fun hheld => ?_, by simp, by simp⟩
  · rw [hplace]
    refine ⟨?_, ?_, ?_, ?_, ?_, habandons.flag, ?_, ?_⟩
    · rw [habandons.line, vline, vnow]
      simp only [LineState.released]
      split <;> rfl
    · have hitem := habandons.item
      rw [vline] at hitem
      exact hitem
    · rw [habandons.report, vreport]
    · rw [habandons.alarms, valarms]
    · rw [habandons.records, hrecord]
      exact State.offerRecord_records_congr _ vrecords
    · rw [habandons.kept.1, vclock]
    · rw [habandons.kept.2, vsetup]
  · rw [hplace, State.endReport_tallies hvbusy (by rw [vrecords]; exact hheld) (.inl rfl), vpath]

/-- A service restart abandons the attempt that holds the line (R136, R187). -/
theorem State.serviceRestart_abandons {s : State} {run : Nat} (howner : s.line.owner = some .report)
    (hbusy : s.line.phase ≠ .idle) (hrun : s.report.runTime = some run) :
    ∃ q, s.abandons s.serviceRestart .restart run q := by
  have hline : s.restartLine = s.endReport .restart := by simp only [State.restartLine, howner]
  have habandons : s.abandons s.restartLine .restart run s.line.customerRequest := by
    rw [hline]
    exact State.endReport_abandons hbusy hrun (.inr rfl)
  obtain ⟨hphase, hgone, -⟩ := habandons.fields
  obtain ⟨hafter, hflags⟩ := State.onlyRequest_serviceRestart (s := s) (by rw [hphase]; nofun) (by rw [hgone]; nofun)
  obtain ⟨-, -, -, -, hemitter⟩ := s.serviceRestart_effect
  exact habandons.after hafter (by rw [hemitter]) hflags ⟨by simp, by simp⟩

/-- So does the command that asks for one (R177). -/
theorem State.carried_abandons (s : State) (m : Memory) (path : PathState) (queue : List Requester) {base : Nat}
    (words : List Word) {run : Nat} (howner : s.line.owner = some .report) (hbusy : s.line.phase ≠ .idle)
    (hrun : s.report.runTime = some run) :
    ∃ q, s.abandons (s.carried m path ⟨7#16, base, words, .clearSlot, 0#16, []⟩ queue) .restart run q := by
  let c : Command := ⟨7#16, base, words, .clearSlot, 0#16, []⟩
  obtain ⟨q, h⟩ := State.serviceRestart_abandons (s := s.atStep4 m path c) howner hbusy hrun
  have hcarry : (s.atStep4 m path c).carryOut c = (s.atStep4 m path c).serviceRestart.answerCommand resultOk 0#16 := rfl
  generalize (s.atStep4 m path c).serviceRestart = u at h hcarry
  rw [State.carried_of_eq queue hcarry]
  exact ⟨q, h.beside rfl rfl rfl rfl rfl rfl rfl rfl rfl ⟨rfl, rfl, rfl, rfl, rfl, rfl⟩⟩

end Sys2Proof.Machine

open Sys2Proof Sys2Proof.Machine

/-- The first part of O54: the failures of an attempt and its acknowledgement. -/
theorem reportAttemptTimedOrAcknowledged (s : State) (c : Instr) (outcome : EndCause) (n : Nat) (hlive : s.isHeld = false)
    (hphase : s.line.phase = .awaitAnswer ∨ s.line.phase = .connected)
    (hcause : (∃ m, c = .goTimerExpiry ∧ outcome = .noGo ∧ s.report.goTimer = some m ∧ n = max s.now m) ∨
      (∃ m, c = .ackTimerExpiry ∧ outcome = .noAck ∧ s.report.ackTimer = some m ∧ n = max s.now m) ∨
      (∃ f, c = .ackToneFound ∧ outcome = .ok ∧ s.report.phase = .awaitAck ∧
        s.line.toneFrom = some f ∧ n = max s.now (f + 500))) :
    let record := s.reportRecord outcome (s.line.seizeTime.getD s.calendar)
    ∃ t, exec c s = .next t ∧ t.now = n ∧ t.line.phase = .guarded ∧ t.line.owner = none ∧
      t.line.guardTimer = some (n + 800) ∧ t.emitter.item = none ∧
      t.records = (s.offerRecord record).records ∧ t.report.message = [] ∧ t.report.goTime = none ∧
      t.report.goTimer = none ∧ t.report.ackTimer = none ∧ EventFlag.report.isIn t.status.flags = true ∧
      t.coin = s.coin ∧ t.number = s.number ∧ t.cash.totals = s.cash.totals ∧ t.mem = s.mem ∧
      (outcome ≠ .ok → t.alarms = s.alarms.fail ∧
        (s.report.attempts + 1 < 3 → t.report.phase = .retryWait ∧
          t.report.attempts = s.report.attempts + 1 ∧ t.report.retryTimer = some (n + 120000)) ∧
        (3 ≤ s.report.attempts + 1 → t.report.phase = .held ∧ t.report.attempts = 3 ∧
          t.report.holdTimer = some (n + 3600000))) ∧
      (outcome = .ok → t.alarms = s.alarms.acknowledge ∧ t.report.statusMark = false ∧
        t.report.attempts = 0 ∧
        (s.alarms.acknowledge.queue = [] → t.report.phase = .idle ∧ t.report.runTime = none) ∧
        (s.alarms.acknowledge.queue ≠ [] → t.report.phase = .waitLine ∧ t.report.runTime = some n ∧
          t.line.reportRequest = some n)) := by
  intro record
  obtain ⟨u, hexec, hnow, hline, hrecords, hrecord, halarms, hattempts, hkept⟩ : ∃ u : State,
      exec c s = .next (u.endReport outcome) ∧ u.now = n ∧ u.line = s.line ∧ u.records = s.records ∧
      u.reportRecord outcome (u.line.seizeTime.getD u.calendar) = record ∧
      u.alarms = (if outcome = .ok then s.alarms.acknowledge else s.alarms) ∧ u.report.attempts = s.report.attempts ∧
      (u.coin = s.coin ∧ u.number = s.number ∧ u.cash.totals = s.cash.totals ∧ u.mem = s.mem) := by
    rcases hcause with ⟨m, rfl, rfl, htimer, rfl⟩ | ⟨m, rfl, rfl, htimer, rfl⟩ | ⟨f, rfl, rfl, hack, htone, rfl⟩
    · refine ⟨s.reach m, ?_, rfl, rfl, rfl, rfl, rfl, rfl, rfl, rfl, rfl, rfl⟩
      refine congrArg Host.Outcome.next ?_
      rw [State.whenLive_of_live hlive]
      exact State.onExpiry_of_running htimer
    · refine ⟨s.reach m, ?_, rfl, rfl, rfl, rfl, rfl, rfl, rfl, rfl, rfl, rfl⟩
      refine congrArg Host.Outcome.next ?_
      rw [State.whenLive_of_live hlive]
      exact State.onExpiry_of_running htimer
    · let v := (s.reach (f + 500)).updReport fun r => { r with ackTimer := none }
      obtain ⟨aalarms, acash, aline, areport, arecords, anow, acoin, anumber, amem, aclock, asetup⟩ :=
        v.acknowledge_effect
      have hcalendar : v.acknowledge.calendar = s.calendar := State.calendar_congr aclock
      refine ⟨v.acknowledge, ?_, anow, aline, arecords, ?_, aalarms, (congrArg ReportState.attempts areport :), acoin, anumber,
        (CashState.kept_fields acash).1, amem⟩
      · refine congrArg Host.Outcome.next ?_
        rw [State.whenLive_of_live hlive, if_pos hack]
        exact State.onExpiry_of_running (by rw [htone]; rfl)
      · simp only [record, State.reportRecord, areport, asetup, aline, hcalendar]
        rfl
  have hbusy : u.line.phase ≠ .idle := by rw [hline]; rcases hphase with h | h <;> rw [h] <;> nofun
  have hheld : u.line.phase ≠ .guarded := by rw [hline]; rcases hphase with h | h <;> rw [h] <;> nofun
  obtain ⟨gphase, gowner, gtimer, gitem⟩ := State.endReport_guarded hbusy hheld outcome
  obtain ⟨erecords, ealarms, emessage, ego, egoTimer, eack, eflag⟩ := u.endReport_effect outcome
  have hframe : (u.endReport outcome).now = u.now ∧ (u.endReport outcome).coin = u.coin ∧
      (u.endReport outcome).number = u.number ∧ (u.endReport outcome).mem = u.mem := by simp
  obtain ⟨fnow, fcoin, fnumber, fmem⟩ := hframe
  have ftotals := (CashState.kept_fields (u.endReport_kept outcome)).1
  obtain ⟨kcoin, knumber, ktotals, kmem⟩ := hkept
  rw [hnow] at gtimer
  rw [hrecord] at erecords
  refine ⟨_, hexec, fnow.trans hnow, gphase, gowner, gtimer, gitem,
    erecords.trans (State.offerRecord_records_congr _ hrecords), emessage, ego, egoTimer, eack, eflag, fcoin.trans kcoin,
    fnumber.trans knumber, ftotals.trans ktotals, fmem.trans kmem, fun hfailed => ?_, fun hok => ?_⟩
  · rw [if_neg hfailed] at halarms ealarms
    have hfails : outcome.fails := by
      rcases hcause with ⟨m, -, rfl, -⟩ | ⟨m, -, rfl, -⟩ | ⟨f, -, rfl, -⟩
      · exact ⟨nofun, nofun, nofun⟩
      · exact ⟨nofun, nofun, nofun⟩
      · exact absurd rfl hfailed
    obtain ⟨hretry, hhold, -⟩ := u.endReport_failed hfails
    rw [hattempts, hnow] at hretry hhold
    exact ⟨ealarms.trans (congrArg AlarmState.fail halarms), hretry, hhold⟩
  · subst hok
    rw [if_pos rfl] at halarms ealarms
    obtain ⟨hmark, hzero, hidle, hbegins⟩ := State.endReport_ok hbusy
    rw [halarms] at hidle hbegins
    rw [hnow] at hbegins
    exact ⟨ealarms.trans halarms, hmark, hzero, hidle, hbegins⟩

/-- The second part of O54: the request of an EMERGENCY number takes the line from the report, that of a FREE one waits. -/
theorem reportAttemptPreempted (s : State) (run : Nat) (hlive : s.isHeld = false) (howner : s.line.owner = some .report)
    (hbusy : s.line.phase ≠ .idle) (hrun : s.report.runTime = some run) (rest : List Requester) (zone : Nat) (ws : List Word)
    (more : List AnalyserRead) (hbus : s.path.busWait = []) (hq : s.path.partQueue = .numberAnalyser :: rest)
    (hreads : s.number.reads = ⟨.zoneEntry zone, ws, false⟩ :: more) (hlen : ws.length = 15)
    (hkeys : s.setup.settings.dialMode = .tone ∨ ∀ d ∈ s.number.digits, d < 10) :
    let kind := natAt (ws ++ [readWord s.mem (wordAddr s.setup.settings.bases.tariff (16 * zone + 15))]) 0
    (kind = 3 → ∃ t, exec .zoneEntryReadEnd s = .next t ∧ s.abandons t .preempted run (some .emergency) ∧
      t.number.phase = .waitLine ∧ (s.records.held = none → t.path.tallies = s.path.tallies) ∧ t.coin = s.coin ∧
      t.mem = s.mem) ∧
    (kind = 2 → ∃ t, exec .zoneEntryReadEnd s = .next t ∧
      t.line = { s.line with customerRequest := some .paidFree } ∧ t.report = s.report ∧
      t.alarms = s.alarms ∧ t.records = s.records ∧ t.number.phase = .waitLine) := by
  intro kind
  let entry := ws ++ [readWord s.mem (wordAddr s.setup.settings.bases.tariff (16 * zone + 15))]
  let u := s.updNumber fun n => { n with reads := n.reads.tail }
  have hready : s.atEntryEnd = true := by
    simp [State.atEntryEnd, State.isNext_of_queue hq, hreads, AnalyserRead.isMatch, AnalyserJob.size, hlen]
  have hword : s.wordOperation .numberAnalyser = u.checkEntry entry := by
    refine (State.analyserWord_last hreads (by simp [AnalyserJob.size, hlen])).trans ?_
    simp only [State.analyserDone, AnalyserJob.offset, hlen]
    rfl
  obtain ⟨queue, hturn⟩ := State.turnsUntil_form hlive hbus hq hready
  rw [hword] at hturn
  have hdials : u.keysRefused = false := eq_false_of_ne_true fun h => by
    obtain ⟨hpulse, d, hd, hlarge⟩ := u.keysRefused_iff.1 h
    rcases hkeys with htone | hsmall
    · have hmode : s.setup.settings.dialMode = .pulse := hpulse
      simp [htone] at hmode
    · exact absurd (hsmall d hd) (by omega)
  obtain ⟨-, -, -, hfree, hemergency, -⟩ := u.checkEntry_effect entry
  refine ⟨fun h3 => ?_, fun h2 => ?_⟩
  · obtain ⟨habandons, hphase, htallies, hcoin, hmem⟩ :=
      State.toWaitLine_preempts (s := u.storeKind .emergency) howner hbusy hrun rfl
    rw [hemergency h3 hdials] at hturn
    exact ⟨_, congrArg Host.Outcome.next hturn, habandons.beside rfl rfl rfl rfl rfl rfl rfl rfl rfl ⟨rfl, rfl, rfl, rfl, rfl, rfl⟩, hphase, htallies,
      hcoin, hmem⟩
  · obtain ⟨hline, hreport, halarms, hrecords⟩ :=
      State.toWaitLine_waits (s := u.storeKind .free) hbusy (by rintro ⟨⟩)
    obtain ⟨hphase, -⟩ := (u.storeKind .free).toWaitLine_fixes
    rw [hfree h2 hdials] at hturn
    exact ⟨_, congrArg Host.Outcome.next hturn, hline, hreport, halarms, hrecords, hphase⟩

/-- The third part of O54: a service restart. -/
theorem reportAttemptRestarted (s : State) (run : Nat) (hlive : s.isHeld = false) (howner : s.line.owner = some .report)
    (hbusy : s.line.phase ≠ .idle) (hrun : s.report.runTime = some run) (hhost : s.holdsHost = false)
    (hq : s.path.partQueue = []) (hfree : s.mailbox.command = none) (hwf : Memory.wf s.mem = true)
    (hsram : s.setup.settings.bases.mailbox + 31 < Config.flashBase) :
    ∃ t, exec .restartService s = .next t ∧ (∃ q, s.abandons t .restart run q) ∧
      t.power = { s.power with cause := .restart } ∧ t.number.phase = .empty ∧ t.coin.banked = 0 := by
  obtain ⟨t, hexec, -, -, ht⟩ := State.command_runs (s := s) rfl hlive hq hwf hsram hfree (i := .restartService)
    (code := 7#16) (by decide) (arguments := []) (by simp) (State.hostAccess_posts hhost .restartService 7#16 [])
    (p := fun t => (∃ q, s.abandons t .restart run q) ∧ t.power = { s.power with cause := .restart } ∧
      t.number.phase = .empty ∧ t.coin.banked = 0) fun m path words queue _ _ => by
    obtain ⟨-, hpower, hbanked, hempty, -⟩ := s.carried_restartService m path queue s.setup.settings.bases.mailbox words
    exact ⟨s.carried_abandons m path queue words howner hbusy hrun, hpower, hempty, hbanked⟩
  exact ⟨t, hexec, ht⟩

/-- Settles O54, by what ends the attempt. -/
theorem reportAttemptEnds : Obligations.ReportAttemptEnds := by
  refine ⟨fun s c outcome n hlive _ hphase hcause =>
    reportAttemptTimedOrAcknowledged s c outcome n hlive hphase hcause, fun s run hlive howner hbusy hrun => ?_⟩
  intro abandoned
  have hspec {t : State} {outcome : EndCause} {q : Option RequestClass} (h : s.abandons t outcome run q) :
      abandoned t outcome := by
    obtain ⟨hphase, hfree, hattempt, hguarded, hheld⟩ := h.fields
    refine ⟨hphase, hfree, hattempt, hguarded, hheld, ?_, ?_, ?_, ?_, ?_, ?_, ?_, ?_, ?_, h.alarms, h.records, h.flag,
      h.kept.1, h.kept.2⟩
    · rw [h.line]
    · rw [h.report]
    · rw [h.report]
      exact hrun
    all_goals rw [h.report]; rfl
  refine ⟨fun rest zone ws more hbus hq hreads hlen hkeys => ?_, fun hhost hq hfree hwf hsram => ?_⟩
  · intro kind
    obtain ⟨hemergency, hfree⟩ :=
      reportAttemptPreempted s run hlive howner hbusy hrun rest zone ws more hbus hq hreads hlen hkeys
    refine ⟨fun h3 => ?_, hfree⟩
    obtain ⟨t, hexec, habandons, hwaits, htallies, hcoin, hmem⟩ := hemergency h3
    exact ⟨t, hexec, hspec habandons, by rw [habandons.line], hwaits, htallies, hcoin, hmem⟩
  · obtain ⟨t, hexec, ⟨q, habandons⟩, hpower, hempty, hbanked⟩ :=
      reportAttemptRestarted s run hlive howner hbusy hrun hhost hq hfree hwf hsram
    exact ⟨t, hexec, hspec habandons, hpower, hempty, hbanked⟩
end
